-- ==== Sys2Proof/Word.lean ====
section
/-!
DEFINITION. The word types of the D420's links, counters and registers, and the finite index types of its
ports, review streams, transfer channels, ask entries and hold points. Only names of types stand here.
-/

namespace Sys2Proof

/-- One byte on a link (section 1.7). -/
abbrev Byte := BitVec 8

/-- A 16-bit wrapping quantity: tags and credit totals (R6, R8). -/
abbrev Word16 := BitVec 16

/-- A 32-bit quantity: CRC-32 registers, frame numbers, handles, fault details (R4, R131). -/
abbrev Word32 := BitVec 32

/-- A 64-bit quantity: CRC-64 registers, medium identities, the time base (R76, R52, R172). -/
abbrev Word64 := BitVec 64

/-- A link port, L0 to L3. -/
abbrev Port := Fin 4

/-- A review stream, 0 or 1. -/
abbrev StreamId := Fin 2

/-- A transfer channel, 0 to 7 (R54). -/
abbrev ChannelId := Fin 8

/-- An entry of a port's outstanding-ask table, 0 to 63 (R16). -/
abbrev EntryId := Fin 64

end Sys2Proof
end

