-- ==== Sys2Proof/Syntax.lean ====
section
/-!
DEFINITION. The commands of the D420, one constructor per row of the table of operations and events
(spec/opcode_table.json), in the table's order. Every row is one whole and indivisible step (section "What each
step holds").

The rows of the requests (0x01 to 0x4A) carry no operand: the step they name is the control unit's taking of the
request that stands at the front of its arbiter (R21), and that request's number, tag and arguments lie in the
request queue, where a CONTROL packet put them (R20). DESIGN CHOICE, log entry 2.
-/

namespace Sys2Proof

/-- A command of the block: an event at its boundary, or one of its own steps. -/
inductive Instr where
  /-- R1: the physical layer reports a partner on the port. -/
  | partnerDetected (port : Port)
  /-- R3: the physical layer reports link-up on the port. -/
  | linkUp (port : Port)
  /-- R2: the physical layer reports link-down on the port. -/
  | linkDown (port : Port)
  /-- R4, R5: a packet frame arrives whole on the port; `frame` is all its bytes, the frame type byte first. -/
  | packetFrameReceived (port : Port) (frame : List Byte)
  /-- R4, R8: a credit frame arrives whole on the port; `frame` is all its bytes. -/
  | creditFrameReceived (port : Port) (frame : List Byte)
  /-- R6: 1 ms has passed since the port's last credit frame. -/
  | creditFrameTimer (port : Port)
  /-- R9: the port's transmitter starts its next frame. -/
  | frameTransmitStart (port : Port)
  /-- R9: the frame in transmission on the port ends. -/
  | frameTransmitEnd (port : Port)
  /-- R19: the answer timer of an ask entry of the port ends. -/
  | askExpiry (port : Port) (entry : EntryId)
  /-- R16: a free ask entry of the port is given to the longest-waiting ask. -/
  | askEntryGrant (port : Port)
  /-- R22: a request whose number names no request is taken. -/
  | unknownRequest
  /-- R26, request 0x01. -/
  | statusRead
  /-- R174, request 0x02. -/
  | softRestart
  /-- R174: the restart that follows the SOFT RESTART reply. -/
  | softRestartExecute
  /-- R171, request 0x03. -/
  | optionsRead
  /-- R11, request 0x04. -/
  | portRolesSet
  /-- R13, request 0x05. -/
  | endpointAdd
  /-- R14, request 0x06. -/
  | endpointRemove
  /-- R15, request 0x07. -/
  | endpointList
  /-- R27, request 0x08. -/
  | noticePortSet
  /-- R39, R40, request 0x10. -/
  | jobAdd
  /-- R60, request 0x11. -/
  | jobCancel
  /-- R59, request 0x12. -/
  | jobResume
  /-- R41, request 0x13. -/
  | jobRemove
  /-- R42, request 0x14. -/
  | jobRead
  /-- R43, request 0x15. -/
  | clipRead
  /-- R61, request 0x16. -/
  | channelLimitSet
  /-- R64, request 0x17. -/
  | offloadPause
  /-- R65, request 0x18. -/
  | offloadContinue
  /-- R89, request 0x19. -/
  | destRelease
  /-- R94, request 0x1A. -/
  | destReclaim
  /-- R102, request 0x20. -/
  | lookBegin
  /-- R103, request 0x21. -/
  | lookData
  /-- R105, request 0x22. -/
  | lookCommit
  /-- R106, request 0x23. -/
  | lookDiscard
  /-- R108, request 0x24. -/
  | directorySet
  /-- R111, request 0x25. -/
  | clipSetLook
  /-- R113, request 0x26. -/
  | lookStatus
  /-- R128, request 0x30. -/
  | reviewOpen
  /-- R140, request 0x31. -/
  | reviewClose
  /-- R142, request 0x32. -/
  | reviewRead
  /-- R144, request 0x38. -/
  | qcConfig
  /-- R155, request 0x39. -/
  | defectAdd
  /-- R156, request 0x3A. -/
  | defectRemove
  /-- R157, request 0x3B. -/
  | defectPromote
  /-- R158, request 0x3C. -/
  | defectList
  /-- R159, request 0x3D. -/
  | candidatesRead
  /-- R161, request 0x3E. -/
  | faultTake
  /-- R162, request 0x3F. -/
  | faultPeek
  /-- R163, request 0x40. -/
  | clipClearFaults
  /-- R164, request 0x48. -/
  | holdSet
  /-- R164, request 0x49. -/
  | holdClear
  /-- R168, request 0x4A. -/
  | holdRelease
  /-- R28: the notice egress chooses an entry. -/
  | noticeChoose
  /-- R49, R50: the named QUEUED job activates. -/
  | jobActivation (job : Nat)
  /-- R54: the channel arbiter acts once. -/
  | channelBind
  /-- R72: the pool gives one extent buffer. -/
  | bufferTake
  /-- R91: the drain of the named endpoint completes. -/
  | drainComplete (port : Port) (id : Nat)
  /-- R62: the offload engine's resume timer expires. -/
  | resumeTimerExpiry
  /-- R129: the stream takes its next RASTER. -/
  | rasterTaken (stream : StreamId)
  /-- R136: the stream's pacing timer ticks. -/
  | pacingTick (stream : StreamId)
  /-- R138: the stream's stall timer expires. -/
  | stallTimerExpiry (stream : StreamId)
  /-- R167: the stream's regrade finishes. -/
  | regradeEnd (stream : StreamId)
  /-- R172: the monitored rail takes a new level, in millivolts. -/
  | railLevelChange (millivolts : Nat)
  /-- R172: the WARN entry filter completes. -/
  | warnEntryFilter
  /-- R172: the WARN clear filter completes. -/
  | warnClearFilter
  /-- R172: the supply state's resume timer expires. -/
  | supplyResumeTimer
  /-- R172, R173: the CRIT filter completes. -/
  | critFilter
  /-- R173: the restart delay has run whole; `block` is what the configuration memory answers (none: no answer). -/
  | brownoutRestart (block : Option (List Byte))
  /-- R175: the power-on hold has run whole; `block` is what the configuration memory answers. -/
  | powerOnRestart (block : Option (List Byte))
  deriving DecidableEq, Repr

end Sys2Proof
end

