-- ==== Sys2Proof/Decode.lean ====
section
/-!
DEFINITION. The command that a word spells by the bits of the table of operations (spec/opcode_table.json). No row of the
table gives any bits: the block takes events and requests, not instruction words, so no word spells a command. The byte
layouts the manual does give, of packet and credit frames, are read in Machine/Wire.lean.
-/

namespace Sys2Proof

/-- The command a word of the table spells: none, since the table's rows give no bits. -/
def decodeTableWord (_nbits _w : Nat) : Option Instr := none

end Sys2Proof
end

