-- ==== Sys2Proof/Config.lean ====
section
/-!
DEFINITION. The sizes and times the manual fixes, and the one value it leaves open.
-/

namespace Sys2Proof

/-- Bytes of a full extent (R67). -/
def Config.extentBytes : Nat := 4194304

/-- Bytes of a full BLOCK packet (R17, R5). -/
def Config.blockBytes : Nat := 65536

/-- The longest packet payload (R4). -/
def Config.maxPayload : Nat := 262144

/-- Control-class receive buffers of a port (section 1.3). -/
def Config.controlBuffers : Nat := 4

/-- Bulk-class receive buffers of a port (section 1.3). -/
def Config.bulkBuffers : Nat := 64

/-- Raster buffers of a port for one review stream (section 1.3). -/
def Config.rasterBuffers : Nat := 16

/-- Extent buffers of the pool (R72). -/
def Config.extentBuffers : Nat := 40

/-- The most extents one channel holds at once (R72). -/
def Config.heldLimit : Nat := 6

/-- Requests one port's queue holds (R20). -/
def Config.requestQueueDepth : Nat := 4

/-- Entries of the endpoint table (section 1.5). -/
def Config.endpointLimit : Nat := 32

/-- Entries of the fault log (R160). -/
def Config.faultLogLimit : Nat := 128

/-- Entries of the defect map (R154). -/
def Config.defectLimit : Nat := 1024

/-- Entries of one stream's candidate table (R150). -/
def Config.candidateLimit : Nat := 64

/-- Detections one frame is allowed (R151). -/
def Config.detectionLimit : Nat := 256

/-- Attempts on an opening, a READ, a destination step or an IDENTIFY (R51, R68, R77, R82). -/
def Config.attemptLimit : Nat := 3

/-- The default answer timeout in milliseconds (R13). -/
def Config.defaultTimeoutMs : Nat := 2000

/-- The default stall timeout in milliseconds (R128). -/
def Config.defaultStallMs : Nat := 500

/-- The default channel limit of a job (R39, R40). -/
def Config.defaultChannelLimit : Nat := 2

/-- The interval of the credit frame timer in microseconds (R6). -/
def Config.creditIntervalUs : Nat := 1000

/-- The top of the internal picture scale, on which it stands for 1.0. -/
def Config.unit : Nat := 65536

/-- The time base's value at which BROWNOUT is filed after a brownout restart: "a few microseconds after 0"
(R173 step 5), which states no number. FREE VALUE (log entry 1): no body, so nothing can be proved of it; it is
applied to the count of free values already drawn. -/
opaque Config.brownoutFilingTime : Nat → Word64

end Sys2Proof
end

