-- ==== Sys2Proof/Machine/State.lean ====
section
/-!
DEFINITION. The state of the D420, one structure per block of the manual's block overview (link unit, control unit,
clip table, offload engine, look engine, review unit, fault spotter, supply and restart unit), and the machine right
after a power-on restart whose configuration memory gives no valid option block.
-/

namespace Sys2Proof.Machine

/-! ### Names and fault kinds -/

/-- A far endpoint named by its port and id (section 1.5). -/
structure EpName where
  port : Port
  id : Nat
  deriving DecidableEq, Repr

/-- The fault kinds, in the order of their codes 1 to 28 (section 3.9). -/
inductive FaultKind where
  | sourceReadFailed | sizeMismatch | mediumChanged | verifyMismatch | destWriteFailed | destTimeout | peerMismatch
  | noSource | shortRead | endpointLost | hotPixel | clipping | blackFrame | hotScanSaturated | lookMissing | lineGap
  | geometry | notSecured | droppedFrames | outOfOrder | frameCount | duplicateFrame | stall | outputRepeat
  | linkProtocol | linkDown | supplyWarn | brownout
  deriving DecidableEq, Repr

/-! ### The link unit (chapter 1) -/

/-- The link states of a port (R1). -/
inductive LinkState where
  | down | training | up
  deriving DecidableEq, Repr

/-- The roles of a port (R10). -/
inductive Role where
  | control | source | dest | decode | display
  deriving DecidableEq, Repr

/-- The kinds of a far endpoint (section 1.5). -/
inductive EndpointKind where
  | source | dest | decoder | display
  deriving DecidableEq, Repr

/-- The states of a far endpoint (R12). -/
inductive EndpointState where
  | online | offline | draining | released
  deriving DecidableEq, Repr

/-- An endpoint table entry (section 1.5). -/
structure Endpoint where
  name : EpName
  kind : EndpointKind
  timeoutMs : Nat
  state : EndpointState
  deriving DecidableEq, Repr

/-- The four packet classes: control, bulk, and the raster class of each stream (R5, R6). -/
inductive PacketClass where
  | control | bulk | raster (stream : StreamId)
  deriving DecidableEq, Repr

/-- One direction's credit of one class: a running total and the count used of it, modulo 65,536 (R6, R8). -/
structure Credit where
  total : Word16
  count : Word16
  deriving DecidableEq, Repr

/-- The seven packet kinds (R5). -/
inductive PacketKind where
  | control | reply | notice | ask | answer | block | raster
  deriving DecidableEq, Repr

/-- Whom the link unit tells that a packet was sent or was not (R9). An ask packet is named by its ask's tag. -/
inductive Owner where
  | ask (tag : Nat) | reply | softRestartReply | notice | raster (stream : StreamId)
  deriving DecidableEq, Repr

/-- A packet in a send queue (R9), with the header fields of section 1.7. -/
structure Packet where
  kind : PacketKind
  endpoint : Nat
  stream : Nat
  tag : Nat
  payload : List Byte
  owner : Owner
  deriving DecidableEq, Repr

/-- A frame in transmission: a credit frame with its four totals, or a packet frame (section 1.2). -/
inductive TxFrame where
  | credit (control bulk raster0 raster1 : Word16)
  | packet (p : Packet)
  deriving DecidableEq, Repr

/-- The modes of a CREATE (R70, section 1.7). -/
inductive CreateMode where
  | new | resume
  deriving DecidableEq, Repr

/-- An ask's kind with its operands (section 1.6); a WRITE carries the bytes of its extent. -/
inductive AskBody where
  | identify
  | openFile (fileId : Word32)
  | create (mode : CreateMode) (root name : List Byte)
  | read (handle : Word32) (offset length : Nat)
  | write (handle : Word32) (offset : Nat) (data : List Byte)
  | close (handle : Word32)
  deriving DecidableEq, Repr

/-- The asker of an ask, and what it wants of it (R16): an IDENTIFYING job, or a channel's data source or lane.
A lane is named by its destination's place in the job's destination order. -/
inductive Purpose where
  | identify (job : Nat)
  | openSource (ch : ChannelId)
  | readSource (ch : ChannelId)
  | checkRead (ch : ChannelId)
  | closeSource (ch : ChannelId)
  | create (ch : ChannelId) (dest : Nat)
  | write (ch : ChannelId) (dest extent : Nat)
  | verify (ch : ChannelId) (dest extent : Nat)
  | closeLane (ch : ChannelId) (dest : Nat)
  deriving DecidableEq, Repr

/-- An ask: the far endpoint, the asker and the operands (R16). -/
structure Ask where
  endpoint : EpName
  purpose : Purpose
  body : AskBody
  deriving DecidableEq, Repr

/-- The phase of an ask in the table; AWAITING holds the instant its answer timer ends (R16, R17). -/
inductive AskPhase where
  | sending
  | awaiting (deadline : Word64)
  deriving DecidableEq, Repr

/-- An ask that holds a table entry, with the bytes received so far for a READ (R16). -/
structure LiveAsk where
  ask : Ask
  phase : AskPhase
  received : List Byte
  deriving DecidableEq, Repr

/-- An entry of an outstanding-ask table: its generation, 0 to 1023, and the ask it holds (R16). -/
structure AskEntry where
  generation : Nat
  live : Option LiveAsk
  deriving DecidableEq, Repr

/-- What the link unit holds for one port (chapter 1). `receive` and `send` are indexed by class: control, bulk,
raster stream 0, raster stream 1; so are `queues` and `lastServed`. `roles` has one bit per role in the order of
section 12.5. `wire` is the bytes of the frame in transmission. -/
structure PortState where
  link : LinkState
  roles : BitVec 5
  receive : Vector Credit 4
  send : Vector Credit 4
  creditDue : Bool
  creditTimer : Option Word64
  queues : Vector (List Packet) 4
  lastServed : Fin 4
  transmitting : Option TxFrame
  wire : List Byte
  asks : Vector AskEntry 64
  waiting : List Ask
  deriving DecidableEq, Repr

/-- The link unit: its ports and the endpoint table, listed in ascending order of port, then id (section 1.5). -/
structure LinkUnit where
  ports : Vector PortState 4
  endpoints : List Endpoint
  deriving DecidableEq, Repr

/-! ### The control unit (chapter 2) -/

/-- A request in a request queue (R20). -/
structure Request where
  number : Nat
  tag : Nat
  args : List Byte
  deriving DecidableEq, Repr

/-- An entry of the deferred-reply list (R24). -/
structure Deferred where
  port : Port
  tag : Nat
  number : Nat
  endpoint : EpName
  deriving DecidableEq, Repr

/-- The notice in flight (R28, R29): none, one that carries the log entry now at a place counted from the oldest, or
one whose entry FAULT TAKE has removed. DEDUCED, log entry 32. -/
inductive NoticeFlight where
  | none
  | carrying (place : Nat)
  | orphan
  deriving DecidableEq, Repr

/-- A soft restart under way (R174): none, waiting for its reply to leave or be dropped, or ready to begin. -/
inductive SoftRestart where
  | none | replyPending | ready
  deriving DecidableEq, Repr

/-- The control unit (chapter 2). -/
structure ControlUnit where
  queues : Vector (List Request) 4
  lastServed : Port
  deferred : List Deferred
  noticePort : Port
  notice : NoticeFlight
  softRestart : SoftRestart
  deriving DecidableEq, Repr

/-! ### The clip table (chapter 3) -/

/-- The copy states of a clip (R31). -/
inductive CopyState where
  | waiting | copying | complete | partialCopy | failed | cancelled
  deriving DecidableEq, Repr

/-- The states of a destination record (R33). -/
inductive DestState where
  | pending | inProgress | verified | failed | deferred
  deriving DecidableEq, Repr

/-- A destination record (R33). -/
structure DestRecord where
  endpoint : EpName
  state : DestState
  verified : Nat
  attempts : Nat
  reason : Option FaultKind
  deriving DecidableEq, Repr

/-- The QC states of a clip (section 3.2). -/
inductive QcState where
  | unchecked | clean | flagged
  deriving DecidableEq, Repr

/-- An allocated clip record (R30 to R33, section 3.2). The extent count follows from the size and is computed. -/
structure ClipRecord where
  job : Nat
  cameraTag : Nat
  fileId : Word32
  name : List Byte
  size : Nat
  expectedFrames : Option Word32
  look : Option Nat
  copyState : CopyState
  hashed : Nat
  register : Word64
  fileCrc : Option Word64
  dests : List DestRecord
  qc : QcState
  framesSeen : Nat
  highestFrame : Option Word32
  copyFaults : Nat
  pictureFaults : Nat
  timingFaults : Nat
  currentStreams : Vector Bool 2
  deriving DecidableEq, Repr

/-- The states of a job (R37). -/
inductive JobState where
  | queued | identifying | active | suspended | done | doneIncomplete | cancelled
  deriving DecidableEq, Repr

/-- Why a job is SUSPENDED (R37). -/
inductive SuspendReason where
  | sourceUnavailable | restart | operator
  deriving DecidableEq, Repr

/-- The source standing of an ACTIVE job (R37). -/
inductive Standing where
  | confirmed | peerOnly
  deriving DecidableEq, Repr

/-- A destination of a job: its endpoint and root path (R37). -/
structure Destination where
  endpoint : EpName
  root : List Byte
  deriving DecidableEq, Repr

/-- An allocated job record (R37). -/
structure JobRecord where
  source : EpName
  dests : List Destination
  clips : List Nat
  limit : Nat
  reseed : Bool
  state : JobState
  suspend : Option SuspendReason
  medium : Option Word64
  standing : Option Standing
  deriving DecidableEq, Repr

/-- The clip table: 512 clip records, 16 job records and the admission list (chapter 3). -/
structure ClipTable where
  clips : Vector (Option ClipRecord) 512
  jobs : Vector (Option JobRecord) 16
  admission : List Nat
  deriving DecidableEq, Repr

/-! ### The offload engine (chapters 4 to 6) -/

/-- The data source of a binding: the job's card, or the peer at a place of the job's destination order (R96). -/
inductive DataSource where
  | card (endpoint : EpName)
  | peer (endpoint : EpName) (dest : Nat)
  deriving DecidableEq, Repr

/-- A held extent's phase; READ holds its bytes in the extent buffer and its extent CRC (R67, R76). -/
inductive ExtentPhase where
  | reading
  | read (crc : Word64) (data : List Byte)
  deriving DecidableEq, Repr

/-- An entry of a channel's held list: the extent number, its length and its buffer's phase (R67).
DESIGN CHOICE, log entry 27. -/
structure HeldExtent where
  extent : Nat
  length : Nat
  phase : ExtentPhase
  deriving DecidableEq, Repr

/-- A lane: the channel's view of the work on one IN_PROGRESS destination record (R67). -/
structure Lane where
  dest : Nat
  handle : Option Word32
  writePos : Nat
  write : Option Nat
  verify : Option Nat
  rewrite : Option Nat
  heldFailure : Option (Nat × FaultKind)
  creating : Bool
  closing : Bool
  deriving DecidableEq, Repr

/-- The state of a binding (R67, R88, R98). `peerNext` is the number of leading extents fed into the peer register. -/
structure Binding where
  job : Nat
  clip : Nat
  source : DataSource
  handle : Option Word32
  openAttempts : Nat
  opening : Bool
  readPos : Nat
  readAttempts : Nat
  reading : Bool
  held : List HeldExtent
  lanes : List Lane
  peerRegister : Word64
  peerNext : Nat
  notes : List EpName
  deriving DecidableEq, Repr

/-- A CLOSING channel: the job it belongs to, if that is still allocated, and the CLOSE of its data source (R56). -/
structure Closing where
  job : Option Nat
  endpoint : EpName
  handle : Word32
  asked : Bool
  deriving DecidableEq, Repr

/-- A transfer channel (section 4.4). -/
inductive Channel where
  | free
  | bound (b : Binding)
  | closing (c : Closing)
  deriving DecidableEq, Repr

/-- The engine states (R62). -/
inductive EngineState where
  | running | quiescing | quiesced | resuming
  deriving DecidableEq, Repr

/-- IDENTIFY attempts made for an IDENTIFYING job, and whether one is outstanding (R51). -/
structure Identify where
  attempts : Nat
  asked : Bool
  deriving DecidableEq, Repr

/-- The offload engine (chapter 4, R72). -/
structure OffloadEngine where
  channels : Vector Channel 8
  lastJob : Nat
  identify : Vector Identify 16
  state : EngineState
  pauseSupply : Bool
  pauseOperator : Bool
  resumeTimer : Option Word64
  bufferWaiting : List ChannelId
  deriving DecidableEq, Repr

/-! ### The look engine (chapter 7) -/

/-- The two banks of a look slot (R100). -/
inductive BankName where
  | a | b
  deriving DecidableEq, Repr

/-- The shadow states of a slot (R101). -/
inductive ShadowState where
  | empty | loading | complete | stale
  deriving DecidableEq, Repr

/-- A bank: its lattice size and, per table code 0 to 4, the written entries in ascending index (R100). An entry is
present exactly when its written mark is set. -/
structure Bank where
  size : Option Nat
  tables : Vector (List (Nat × Int)) 5
  deriving DecidableEq, Repr

/-- A look slot (R100). The coverage is the number of the shadow's written marks, and a bank's latch set is the set of
streams whose latch names it; both are computed. -/
structure Slot where
  active : Option BankName
  shadow : ShadowState
  bankA : Bank
  bankB : Bank
  deriving DecidableEq, Repr

/-- The look engine: sixteen slots and the look directory (chapter 7). -/
structure LookEngine where
  slots : Vector Slot 16
  directory : Vector (Option (Fin 16)) 64
  deriving DecidableEq, Repr

/-- The result of a resolution: a slot and bank, or bypass (R109). -/
inductive Resolution where
  | bypass
  | bank (slot : Fin 16) (bank : BankName)
  deriving DecidableEq, Repr

/-! ### The review unit (chapters 9 and 11) -/

/-- The three codes of a pixel. -/
structure Rgb where
  r : Nat
  g : Nat
  b : Nat
  deriving DecidableEq, Repr

/-- The output encodings (R123). -/
inductive Encoding where
  | full10 | narrow10 | full12
  deriving DecidableEq, Repr

/-- The output modes (R128). -/
inductive Mode where
  | streaming | paced
  deriving DecidableEq, Repr

/-- The states of a review stream (R127). -/
inductive StreamState where
  | closed | waiting | running | held
  deriving DecidableEq, Repr

/-- A RASTER in a raster buffer: the port whose buffer it is in, its raster header (section 1.7), its received codes
line by line, and whether it waited there when its stream was released from HELD (R168 step 5). -/
structure RasterPacket where
  port : Port
  clip : Nat
  frame : Word32
  firstLine : Nat
  width : Nat
  frameStart : Bool
  frameEnd : Bool
  clipEnd : Bool
  lines : List (List Rgb)
  waitedRelease : Bool
  deriving DecidableEq, Repr

/-- The frame in progress (R130 to R133). -/
structure FrameInProgress where
  clip : Nat
  number : Word32
  refused : Bool
  next : Nat
  gap : Bool
  geometry : Bool
  damaged : Bool
  clipEnd : Bool
  deriving DecidableEq, Repr

/-- A graded buffer's frame, its lines from line 0 (R134). -/
structure GradedFrame where
  clip : Nat
  number : Word32
  damaged : Bool
  lines : List (List Rgb)
  deriving DecidableEq, Repr

/-- The states of the back buffer (R134). -/
inductive BackState where
  | idle | writing | ready
  deriving DecidableEq, Repr

/-- The held frame of a HELD stream (R166). -/
structure HeldFrame where
  clip : Nat
  number : Word32
  damaged : Bool
  deriving DecidableEq, Repr

/-- The open repeat run: its length, and the clip and frame number of the frame repeated (R137). -/
structure RepeatRun where
  length : Nat
  clip : Nat
  frame : Word32
  deriving DecidableEq, Repr

/-- The opening parameters of a stream (R128). -/
structure StreamParams where
  decoder : EpName
  output : EpName
  width : Nat
  height : Nat
  encoding : Encoding
  mode : Mode
  rateNum : Nat
  rateDen : Nat
  stallMs : Nat
  clearWhileHeld : Bool
  deriving DecidableEq, Repr

/-- The raster buffer that a taken packet still occupies: the port it holds it on, and whether the packet's own outgoing
packet has begun transmission or been dropped, which frees no buffer while the stream is HELD (R132, R166). -/
structure BufferInHand where
  port : Port
  outputGone : Bool
  deriving DecidableEq, Repr

/-- A review stream (sections 9.1, 11.2). `source` holds the source buffer's received lines in ascending order, a line
being present exactly when its received mark is set; `presenting` holds the packets of the outgoing frame not yet handed
over; `inHand` is the raster buffer that a taken packet still occupies (R132). -/
structure Stream where
  state : StreamState
  params : StreamParams
  currentClip : Option Nat
  lastFrame : Option Word32
  notSecured : Option Nat
  frame : Option FrameInProgress
  graded : Resolution
  latch : Option (Fin 16 × BankName)
  concealment : List (Nat × Nat)
  lookMissing : Bool
  source : List (Nat × List Rgb)
  front : Option GradedFrame
  backState : BackState
  back : Option GradedFrame
  presenting : List Packet
  inHand : Option BufferInHand
  origin : Option Word64
  tick : Nat
  run : RepeatRun
  stallTimer : Option Word64
  stallSilent : Bool
  queue : List RasterPacket
  processed : Nat
  gated : Nat
  stray : Nat
  skipped : Nat
  overruns : Nat
  holdPending : Bool
  heldFrame : Option HeldFrame
  finaliseWaiting : Bool
  regrading : Bool
  regradeAgain : Bool
  deriving DecidableEq, Repr

/-! ### The fault spotter (chapters 10 and 11) -/

/-- The two taps (R125). -/
inductive Tap where
  | a | b
  deriving DecidableEq, Repr

/-- A stream's QC configuration (R143). -/
structure QcConfig where
  clipTap : Tap
  clipLevel : Nat
  clipFraction : Nat
  clipFrames : Nat
  blackTap : Tap
  blackLevel : Nat
  blackFrames : Nat
  hotThreshold : Nat
  hotFrames : Nat
  deriving DecidableEq, Repr

/-- The frame measures of the frame being measured (R145). -/
structure Measures where
  clipped : Rgb
  lumaSum : Nat
  detections : Nat
  saturated : Bool
  unjudged : Bool
  deriving DecidableEq, Repr

/-- A persistence filter (R148). -/
structure Filter where
  run : Nat
  raised : Bool
  deriving DecidableEq, Repr

/-- A hot-pixel candidate (R150). -/
structure Candidate where
  line : Nat
  column : Nat
  count : Nat
  lastFrame : Word32
  reported : Bool
  seen : Bool
  deriving DecidableEq, Repr

/-- What the fault spotter holds for one stream; the candidates stand in ascending order of line, then column. -/
structure SpotterStream where
  config : QcConfig
  measures : Measures
  clipRed : Filter
  clipGreen : Filter
  clipBlue : Filter
  black : Filter
  candidates : List Candidate
  deriving DecidableEq, Repr

/-- A defect map entry (R154). -/
structure DefectSite where
  tag : Nat
  line : Nat
  column : Nat
  deriving DecidableEq, Repr

/-- A fault log entry (R160, section 3.9); the severity follows from the kind. -/
structure FaultEntry where
  kind : FaultKind
  time : Word64
  clip : Option Nat
  frame : Option Word32
  endpoint : Option EpName
  coordinate : Option (Nat × Nat)
  stream : Option StreamId
  detail : Word32
  noticed : Bool
  deriving DecidableEq, Repr

/-- A hold point's condition (R164). -/
inductive HoldCondition where
  | frame (clip : Nat) (number : Word32)
  | fault (kind : FaultKind)
  deriving DecidableEq, Repr

/-- A set hold point (R164). -/
structure HoldPoint where
  stream : StreamId
  condition : HoldCondition
  oneShot : Bool
  armed : Bool
  deriving DecidableEq, Repr

/-- The fault spotter (chapter 10, R164). The defect map stands in ascending order of tag, line and column; the fault
log has its oldest entry first. -/
structure FaultSpotter where
  streams : Vector SpotterStream 2
  defectMap : List DefectSite
  log : List FaultEntry
  overflow : Nat
  holds : Vector (Option HoldPoint) 4
  deriving DecidableEq, Repr

/-! ### The supply and restart unit (chapter 12) -/

/-- The supply states (R172). -/
inductive SupplyState where
  | normal | warn | recovering
  deriving DecidableEq, Repr

/-- The option block copy in use (R170, section 12.5): voltage levels in millivolts, `quiesce` the WARN action, the two
delays LONG or SHORT, a role set per port. -/
structure Options where
  warnMv : Nat
  critMv : Nat
  quiesce : Bool
  restartLong : Bool
  resumeLong : Bool
  roles : Vector (BitVec 5) 4
  noticePort : Port
  deriving DecidableEq, Repr

/-- The reset cause record (R175). -/
structure ResetCause where
  powerOn : Bool
  brownout : Bool
  soft : Bool
  deriving DecidableEq, Repr

/-- Whether the part runs, or is held by a brownout (R173): the supply state when the CRIT filter completed, and the
instant since which the rail has stayed above the CRIT level plus 50 mV. -/
inductive Power where
  | running
  | held (was : SupplyState) (since : Option Word64)
  deriving DecidableEq, Repr

/-- The supply and restart unit (chapter 12). A filter holds the instant since which its condition has held; `rail` is
the monitored level in millivolts. -/
structure SupplyUnit where
  timeBase : Word64
  rail : Nat
  state : SupplyState
  warnEntry : Option Word64
  warnClear : Option Word64
  crit : Option Word64
  resumeTimer : Option Word64
  options : Options
  defaulted : Bool
  resetCause : ResetCause
  power : Power
  deriving DecidableEq, Repr

/-! ### The machine -/

/-- The state of the D420. `pending` is the queue of commands that wait, oldest first; `freeCount` is the model's own
count of free values drawn (DESIGN CHOICE, log entry 1). -/
structure State where
  link : LinkUnit
  control : ControlUnit
  table : ClipTable
  offload : OffloadEngine
  look : LookEngine
  review : Vector Stream 2
  spotter : FaultSpotter
  supply : SupplyUnit
  pending : List Instr
  freeCount : Nat
  deriving DecidableEq, Repr

/-- Faults that stop the machine: none. The manual names no event that stops the part for good: every frame, request,
timer and supply event has a stated effect, so no meaning raises a fault. -/
inductive Fault where
  deriving DecidableEq, Repr

/-- Refusals: the one reason is a command without a meaning. Raised by exec's arm of such a command alone; safe, since
nothing is claimed of a refused command. -/
inductive Refusal where
  /-- exec's arm has no meaning for the row of this mnemonic. Safe. -/
  | notModelled (mnemonic : String)
  deriving DecidableEq, Repr

/-! ### The state after a power-on restart -/

/-- A credit total and count of zero (R2, R3). -/
def Credit.zero : Credit := ⟨0, 0⟩

/-- A free ask entry of generation 0 (R16). -/
def AskEntry.free : AskEntry := ⟨0, none⟩

/-- A port right after power-on: DOWN, with the given role set, nothing queued, and the queue last served raster stream
1 (R1, R9, R10, R16). -/
def PortState.reset (link : LinkState) (roles : BitVec 5) : PortState where
  link := link
  roles := roles
  receive := Vector.replicate 4 Credit.zero
  send := Vector.replicate 4 Credit.zero
  creditDue := false
  creditTimer := none
  queues := Vector.replicate 4 []
  lastServed := 3
  transmitting := none
  wire := []
  asks := Vector.replicate 64 AskEntry.free
  waiting := []

/-- The default option block (R170). -/
def Options.default : Options where
  warnMv := 3150
  critMv := 2950
  quiesce := true
  restartLong := true
  resumeLong := false
  roles := Vector.replicate 4 0x1F#5
  noticePort := 0

/-- The control unit after a restart, with the notice port of the copy in use (R20, R21, R24, R27, R29). -/
def ControlUnit.reset (noticePort : Port) : ControlUnit where
  queues := Vector.replicate 4 []
  lastServed := 3
  deferred := []
  noticePort := noticePort
  notice := .none
  softRestart := .none

/-- The clip table after a power-on restart (R46). -/
def ClipTable.reset : ClipTable where
  clips := Vector.replicate 512 none
  jobs := Vector.replicate 16 none
  admission := []

/-- The offload engine after every restart (R54, R66, R72). -/
def OffloadEngine.reset : OffloadEngine where
  channels := Vector.replicate 8 .free
  lastJob := 15
  identify := Vector.replicate 16 ⟨0, false⟩
  state := .running
  pauseSupply := false
  pauseOperator := false
  resumeTimer := none
  bufferWaiting := []

/-- A bank with no contents (R100, R114). -/
def Bank.empty : Bank := ⟨none, Vector.replicate 5 []⟩

/-- The look engine after every restart (R114). -/
def LookEngine.reset : LookEngine where
  slots := Vector.replicate 16 ⟨none, .empty, Bank.empty, Bank.empty⟩
  directory := Vector.replicate 64 none

/-- Opening parameters of a stream that has not been opened since the restart: all zero (R142; DESIGN CHOICE, log entry 5). -/
def StreamParams.none : StreamParams where
  decoder := ⟨0, 0⟩
  output := ⟨0, 0⟩
  width := 0
  height := 0
  encoding := .full10
  mode := .streaming
  rateNum := 0
  rateDen := 0
  stallMs := 0
  clearWhileHeld := false

/-- A CLOSED stream: nothing in progress, every count 0 (R127). The graded resolution, for which the manual gives no
value before the first resolution, is bypass (DESIGN CHOICE, log entry 5). -/
def Stream.closed (params : StreamParams) : Stream where
  state := .closed
  params := params
  currentClip := none
  lastFrame := none
  notSecured := none
  frame := none
  graded := .bypass
  latch := none
  concealment := []
  lookMissing := false
  source := []
  front := none
  backState := .idle
  back := none
  presenting := []
  inHand := none
  origin := none
  tick := 0
  run := ⟨0, 0, 0⟩
  stallTimer := none
  stallSilent := false
  queue := []
  processed := 0
  gated := 0
  stray := 0
  skipped := 0
  overruns := 0
  holdPending := false
  heldFrame := none
  finaliseWaiting := false
  regrading := false
  regradeAgain := false

/-- The default QC configuration (R143). -/
def QcConfig.default : QcConfig where
  clipTap := .a
  clipLevel := 4064
  clipFraction := 5
  clipFrames := 3
  blackTap := .b
  blackLevel := 16
  blackFrames := 12
  hotThreshold := 256
  hotFrames := 8

/-- Cleared frame measures (R145). -/
def Measures.zero : Measures := ⟨⟨0, 0, 0⟩, 0, 0, false, false⟩

/-- A persistence filter reset (R148). -/
def Filter.zero : Filter := ⟨0, false⟩

/-- What the fault spotter holds for a stream after every restart (R143, R145, R148, R153). -/
def SpotterStream.reset : SpotterStream where
  config := QcConfig.default
  measures := Measures.zero
  clipRed := Filter.zero
  clipGreen := Filter.zero
  clipBlue := Filter.zero
  black := Filter.zero
  candidates := []

/-- The fault spotter after a power-on restart (R154, R160, R164). -/
def FaultSpotter.reset : FaultSpotter where
  streams := Vector.replicate 2 SpotterStream.reset
  defectMap := []
  log := []
  overflow := 0
  holds := Vector.replicate 4 none

/-- The supply and restart unit after a power-on restart with no valid option block (R170, R172, R175). The rail stands
at its nominal 3.3 V (DESIGN CHOICE, log entry 4). -/
def SupplyUnit.reset : SupplyUnit where
  timeBase := 0
  rail := 3300
  state := .normal
  warnEntry := none
  warnClear := none
  crit := none
  resumeTimer := none
  options := Options.default
  defaulted := true
  resetCause := ⟨true, false, false⟩
  power := .running

/-- The machine right after a power-on restart (R175) at which the configuration memory gave no valid block, so that
the default block is in use (R170; DESIGN CHOICE, log entry 3). No command waits. -/
def State.reset : State where
  link := ⟨Vector.replicate 4 (PortState.reset .down 0x1F#5), []⟩
  control := ControlUnit.reset 0
  table := ClipTable.reset
  offload := OffloadEngine.reset
  look := LookEngine.reset
  review := Vector.replicate 2 (Stream.closed StreamParams.none)
  spotter := FaultSpotter.reset
  supply := SupplyUnit.reset
  pending := []
  freeCount := 0

end Sys2Proof.Machine
end

