-- ==== Sys2Proof/Machine/Flags.lean ====
section
/-!
DEFINITION. The codes, classes, severities, role bits, presence bits and status bytes of the manual's tables.
-/

namespace Sys2Proof.Machine

/-! ### Outcomes (chapter 2) -/

/-- The outcomes of a reply (section 2.1). -/
inductive ReplyCode where
  | done | busy | notPermitted | unknownRequest | badArgument | notFound | full | wrongState | slotBusy | incomplete
  | held | inUse | notSecured
  deriving DecidableEq, Repr

/-- An outcome's code (section 2.1). -/
def ReplyCode.code : ReplyCode → Nat
  | .done => 0 | .busy => 1 | .notPermitted => 2 | .unknownRequest => 3 | .badArgument => 4 | .notFound => 5
  | .full => 6 | .wrongState => 7 | .slotBusy => 8 | .incomplete => 9 | .held => 10 | .inUse => 11 | .notSecured => 12

/-- A Bool as the byte 0 or 1. -/
def flagCode (b : Bool) : Nat := if b then 1 else 0

/-- A bit of a mask byte: its value where the flag is set, else 0. -/
def bitIf (b : Bool) (value : Nat) : Nat := if b then value else 0

/-! ### Roles (R10, section 12.5) -/

/-- The bit of a role in a role set: CONTROL 0x01, SOURCE 0x02, DEST 0x04, DECODE 0x08, DISPLAY 0x10. -/
def Role.bit : Role → Nat
  | .control => 0 | .source => 1 | .dest => 2 | .decode => 3 | .display => 4

/-- Whether a role set contains a role. -/
def hasRole (roles : BitVec 5) (r : Role) : Bool := roles.getLsbD r.bit

/-- The role an endpoint of a kind needs on its port (R10). -/
def EndpointKind.role : EndpointKind → Role
  | .source => .source | .dest => .dest | .decoder => .decode | .display => .display

/-- Whether a port's roles allow an arriving packet kind (R10). REPLY, NOTICE and ASK are admitted by no role. -/
def rolesAdmit (roles : BitVec 5) : PacketKind → Bool
  | .control => hasRole roles .control
  | .answer | .block => hasRole roles .source || hasRole roles .dest
  | .raster => hasRole roles .decode
  | .reply | .notice | .ask => false

/-! ### Endpoints -/

/-- An endpoint kind's code, 0 to 3 (DESIGN CHOICE, log entry 7: the manual gives none). -/
def EndpointKind.code : EndpointKind → Nat
  | .source => 0 | .dest => 1 | .decoder => 2 | .display => 3

/-- The endpoint kind of a code (DESIGN CHOICE, log entry 7). -/
def EndpointKind.ofCode : Nat → Option EndpointKind
  | 0 => some .source | 1 => some .dest | 2 => some .decoder | 3 => some .display | _ => none

/-- An endpoint state's code (DESIGN CHOICE, log entry 7). -/
def EndpointState.code : EndpointState → Nat
  | .online => 0 | .offline => 1 | .draining => 2 | .released => 3

/-! ### Faults (section 3.9, R160) -/

/-- A fault kind's code, 1 to 28 (section 3.9). -/
def FaultKind.code : FaultKind → Nat
  | .sourceReadFailed => 1 | .sizeMismatch => 2 | .mediumChanged => 3 | .verifyMismatch => 4 | .destWriteFailed => 5
  | .destTimeout => 6 | .peerMismatch => 7 | .noSource => 8 | .shortRead => 9 | .endpointLost => 10 | .hotPixel => 11
  | .clipping => 12 | .blackFrame => 13 | .hotScanSaturated => 14 | .lookMissing => 15 | .lineGap => 16
  | .geometry => 17 | .notSecured => 18 | .droppedFrames => 19 | .outOfOrder => 20 | .frameCount => 21
  | .duplicateFrame => 22 | .stall => 23 | .outputRepeat => 24 | .linkProtocol => 25 | .linkDown => 26
  | .supplyWarn => 27 | .brownout => 28

/-- The fault kind of a code 11 to 24, the kinds filed with a stream (R164). -/
def FaultKind.ofStreamCode : Nat → Option FaultKind
  | 11 => some .hotPixel | 12 => some .clipping | 13 => some .blackFrame | 14 => some .hotScanSaturated
  | 15 => some .lookMissing | 16 => some .lineGap | 17 => some .geometry | 18 => some .notSecured
  | 19 => some .droppedFrames | 20 => some .outOfOrder | 21 => some .frameCount | 22 => some .duplicateFrame
  | 23 => some .stall | 24 => some .outputRepeat | _ => none

/-- The classes of a fault (R34, R160). -/
inductive FaultClass where
  | copy | picture | timing | none
  deriving DecidableEq, Repr

/-- A fault kind's class (R160). -/
def FaultKind.faultClass : FaultKind → FaultClass
  | .sourceReadFailed | .sizeMismatch | .mediumChanged | .verifyMismatch | .destWriteFailed | .destTimeout
  | .peerMismatch | .noSource | .shortRead | .endpointLost => .copy
  | .hotPixel | .clipping | .blackFrame | .hotScanSaturated | .lookMissing | .lineGap | .geometry | .notSecured => .picture
  | .droppedFrames | .outOfOrder | .frameCount | .duplicateFrame | .stall | .outputRepeat => .timing
  | .linkProtocol | .linkDown | .supplyWarn | .brownout => .none

/-- A fault kind's severity: INFO 0, WARNING 1, SERIOUS 2, CRITICAL 3 (R160, section 3.9). -/
def FaultKind.severity : FaultKind → Nat
  | .sourceReadFailed | .sizeMismatch | .mediumChanged | .brownout => 3
  | .verifyMismatch | .destWriteFailed | .destTimeout | .peerMismatch | .noSource | .lineGap | .geometry | .notSecured
  | .droppedFrames | .outOfOrder | .frameCount | .linkProtocol | .linkDown | .supplyWarn => 2
  | .shortRead | .endpointLost | .hotPixel | .clipping | .blackFrame | .duplicateFrame | .stall | .outputRepeat => 1
  | .hotScanSaturated | .lookMissing => 0

/-- The code of an optional failure reason: 0 for absent (section 3.9). -/
def reasonCode : Option FaultKind → Nat
  | none => 0
  | some k => k.code

/-! ### Record states (section 3.9) -/

/-- A copy state's code. -/
def CopyState.code : CopyState → Nat
  | .waiting => 0 | .copying => 1 | .complete => 2 | .partialCopy => 3 | .failed => 4 | .cancelled => 5

/-- A destination record state's code. -/
def DestState.code : DestState → Nat
  | .pending => 0 | .inProgress => 1 | .verified => 2 | .failed => 3 | .deferred => 4

/-- Whether a destination record state is settled: VERIFIED, FAILED or DEFERRED (R33). -/
def DestState.settled : DestState → Bool
  | .verified | .failed | .deferred => true
  | .pending | .inProgress => false

/-- A QC state's code. -/
def QcState.code : QcState → Nat
  | .unchecked => 0 | .clean => 1 | .flagged => 2

/-- A job state's code. -/
def JobState.code : JobState → Nat
  | .queued => 0 | .identifying => 1 | .active => 2 | .suspended => 3 | .done => 4 | .doneIncomplete => 5 | .cancelled => 6

/-- Whether a job is DONE, DONE_INCOMPLETE or CANCELLED. -/
def JobState.finished : JobState → Bool
  | .done | .doneIncomplete | .cancelled => true
  | .queued | .identifying | .active | .suspended => false

/-- A suspend reason's code, 0 for absent. -/
def suspendCode : Option SuspendReason → Nat
  | none => 0 | some .sourceUnavailable => 1 | some .restart => 2 | some .operator => 3

/-- A source standing's code, 0 for absent. -/
def standingCode : Option Standing → Nat
  | none => 0 | some .confirmed => 1 | some .peerOnly => 2

/-! ### Status bytes -/

/-- An engine state's code (section 2.6). -/
def EngineState.code : EngineState → Nat
  | .running => 0 | .quiescing => 1 | .quiesced => 2 | .resuming => 3

/-- The set of pause reasons: SUPPLY 0x01, OPERATOR 0x02 (section 2.6). -/
def pauseCode (e : OffloadEngine) : Nat := bitIf e.pauseSupply 1 + bitIf e.pauseOperator 2

/-- A supply state's code (section 2.6). -/
def SupplyState.code : SupplyState → Nat
  | .normal => 0 | .warn => 1 | .recovering => 2

/-- The reset cause record: POWER_ON 0x01, BROWNOUT 0x02, SOFT 0x04 (section 2.6). -/
def ResetCause.code (c : ResetCause) : Nat := bitIf c.powerOn 1 + bitIf c.brownout 2 + bitIf c.soft 4

/-- A bank's code: A 0, B 1 (R102). -/
def BankName.code : BankName → Nat
  | .a => 0 | .b => 1

/-- The active designation's code: A 0, B 1, NONE 255 (R113). -/
def activeCode : Option BankName → Nat
  | none => 255
  | some bank => bank.code

/-- A shadow state's code (R105). -/
def ShadowState.code : ShadowState → Nat
  | .empty => 0 | .loading => 1 | .complete => 2 | .stale => 3

/-- A stream state's code (R142). -/
def StreamState.code : StreamState → Nat
  | .closed => 0 | .waiting => 1 | .running => 2 | .held => 3

/-- Whether a stream is WAITING or RUNNING (R129, R138, R165). -/
def StreamState.takes : StreamState → Bool
  | .waiting | .running => true
  | .closed | .held => false

/-- An encoding's code (R128). -/
def Encoding.code : Encoding → Nat
  | .full10 => 0 | .narrow10 => 1 | .full12 => 2

/-- The encoding of a code (R128). -/
def Encoding.ofCode : Nat → Option Encoding
  | 0 => some .full10 | 1 => some .narrow10 | 2 => some .full12 | _ => none

/-- A mode's code (R128). -/
def Mode.code : Mode → Nat
  | .streaming => 0 | .paced => 1

/-- The mode of a code (R128). -/
def Mode.ofCode : Nat → Option Mode
  | 0 => some .streaming | 1 => some .paced | _ => none

/-- A back buffer state's code (R142). -/
def BackState.code : BackState → Nat
  | .idle => 0 | .writing => 1 | .ready => 2

/-- The tap of a code (R144). -/
def Tap.ofCode : Nat → Option Tap
  | 0 => some .a | 1 => some .b | _ => none

/-- The two bytes of a graded resolution: slot and bank, or 255 and 255 for bypass (R142). -/
def Resolution.bytes : Resolution → List Nat
  | .bypass => [255, 255]
  | .bank slot name => [slot.val, name.code]

/-- An optional look number as a byte, 255 for NONE (R39, R111). -/
def lookCode : Option Nat → Nat
  | none => 255
  | some n => n

/-- A directory entry as a byte, 255 for UNMAPPED (R108). -/
def directoryCode : Option (Fin 16) → Nat
  | none => 255
  | some n => n.val

end Sys2Proof.Machine
end

