-- ==== Sys2Proof/Machine/Wire.lean ====
section
/-!
DEFINITION. Bytes and checksums: byte order (most significant byte first, section 1.7), the CRC-8 of the header check and
the CRC-32 of frames (R4), the CRC-64 of extents and files (R76), and the layout of packet and credit frames (section 1.7)
in both directions.
-/

namespace Sys2Proof.Machine

/-! ### Byte order -/

/-- The low `n` bytes of a number, most significant first (section 1.7). -/
def beBytes : Nat → Nat → List Byte
  | 0, _ => []
  | n + 1, v => BitVec.ofNat 8 (v / 256 ^ n) :: beBytes n v

/-- The number that bytes spell, most significant first (section 1.7). -/
def beNat (bs : List Byte) : Nat :=
  bs.foldl (fun acc b => acc * 256 + b.toNat) 0

/-- One byte as a number field. -/
def byteOf (n : Nat) : Byte := BitVec.ofNat 8 n

/-! ### Checksums -/

/-- One bit of an unreflected CRC. -/
def crcBit {w : Nat} (poly reg : BitVec w) : BitVec w :=
  if reg.msb then (reg <<< 1) ^^^ poly else reg <<< 1

/-- One byte of an unreflected CRC, fed most significant bit first. -/
def crcByte {w : Nat} (poly reg : BitVec w) (b : Byte) : BitVec w :=
  Nat.repeat (crcBit poly) 8 (reg ^^^ (b.setWidth w <<< (w - 8)))

/-- The register after a run of bytes. -/
def crcFeed {w : Nat} (poly reg : BitVec w) (bs : List Byte) : BitVec w :=
  bs.foldl (crcByte poly) reg

/-- The header check: CRC-8 with polynomial 0x07, starting at 0 (R4). -/
def crc8 (bs : List Byte) : BitVec 8 := crcFeed 0x07#8 0 bs

/-- The frame check: CRC-32 with polynomial 0x04C11DB7, starting at all ones and complemented at the end (R4). -/
def crc32 (bs : List Byte) : Word32 := ~~~ crcFeed 0x04C11DB7#32 0xFFFFFFFF#32 bs

/-- The CRC-64 register before any byte: all ones (R76). -/
def crc64Start : Word64 := 0xFFFFFFFFFFFFFFFF#64

/-- The CRC-64 register after more bytes (R76). -/
def crc64Feed (reg : Word64) (bs : List Byte) : Word64 := crcFeed 0x42F0E1EBA9EA3693#64 reg bs

/-- The checksum a CRC-64 register gives: its complement (R76). -/
def crc64Final (reg : Word64) : Word64 := ~~~ reg

/-- The CRC-64 of bytes taken alone: an extent CRC or the checksum of a read-back (R76). -/
def crc64 (bs : List Byte) : Word64 := crc64Final (crc64Feed crc64Start bs)

/-! ### Packet kinds -/

/-- A packet kind's code (section 1.7). -/
def PacketKind.code : PacketKind → Nat
  | .control => 1 | .reply => 2 | .notice => 3 | .ask => 4 | .answer => 5 | .block => 6 | .raster => 7

/-- The packet kind of a code, if it is one of the seven (R5 check 1). -/
def PacketKind.ofCode : Nat → Option PacketKind
  | 1 => some .control | 2 => some .reply | 3 => some .notice | 4 => some .ask | 5 => some .answer
  | 6 => some .block | 7 => some .raster | _ => none

/-! ### Frames sent -/

/-- Bytes 0 to 9 of a packet frame (section 1.7). -/
def headerBytes (kind endpoint stream tag length : Nat) : List Byte :=
  byteOf 1 :: byteOf kind :: byteOf endpoint :: byteOf stream :: (beBytes 2 tag ++ beBytes 4 length)

/-- A packet frame whole: header, header check, payload and CRC-32 (section 1.7). -/
def packetFrameBytes (kind endpoint stream tag : Nat) (payload : List Byte) : List Byte :=
  let header := headerBytes kind endpoint stream tag payload.length
  let body := header ++ [crc8 header] ++ payload
  body ++ beBytes 4 (crc32 body).toNat

/-- A credit frame whole (section 1.7). -/
def creditFrameBytes (control bulk raster0 raster1 : Word16) : List Byte :=
  let body := byteOf 2 :: (beBytes 2 control.toNat ++ beBytes 2 bulk.toNat ++ beBytes 2 raster0.toNat ++ beBytes 2 raster1.toNat)
  body ++ beBytes 4 (crc32 body).toNat

/-- The bytes of a frame in transmission. -/
def TxFrame.bytes : TxFrame → List Byte
  | .credit c b r0 r1 => creditFrameBytes c b r0 r1
  | .packet p => packetFrameBytes p.kind.code p.endpoint p.stream p.tag p.payload

/-! ### Frames received -/

/-- The fields of a received packet's header (section 1.7). -/
structure RxHeader where
  kind : Nat
  endpoint : Nat
  stream : Nat
  tag : Nat
  length : Nat
  deriving DecidableEq, Repr

/-- A packet frame with a good header check: its header, its payload, and whether its CRC-32 is right (R4). -/
structure RxPacket where
  header : RxHeader
  payload : List Byte
  crcGood : Bool
  deriving DecidableEq, Repr

/-- The header of a packet frame, or none for a header error: a wrong header check or a payload length above 262,144
(R4). A frame too short to hold its header and header check is a header error (DEDUCED, log entry 6). -/
def parseHeader (frame : List Byte) : Option RxHeader :=
  let header := frame.take 10
  match frame with
  | _ :: k :: e :: s :: t1 :: t0 :: l3 :: l2 :: l1 :: l0 :: check :: _ =>
    let length := beNat [l3, l2, l1, l0]
    if crc8 header = check ∧ length ≤ Config.maxPayload then
      some ⟨k.toNat, e.toNat, s.toNat, beNat [t1, t0], length⟩
    else none
  | _ => none

/-- A received packet frame, or none for a header error (R4). A frame that does not hold exactly its stated payload and
four CRC bytes has a wrong CRC-32 (DEDUCED, log entry 6). -/
def parsePacket (frame : List Byte) : Option RxPacket :=
  match parseHeader frame with
  | none => none
  | some h =>
    let body := frame.take (11 + h.length)
    some ⟨h, (frame.drop 11).take h.length,
      frame.length == 15 + h.length && frame.drop (11 + h.length) == beBytes 4 (crc32 body).toNat⟩

/-- The four totals of a credit frame with a good CRC-32: control, bulk, raster 0 and raster 1 (R4, R8). -/
def parseCredit (frame : List Byte) : Option (Word16 × Word16 × Word16 × Word16) :=
  match frame with
  | [_, c1, c0, b1, b0, r1, r0, q1, q0, _, _, _, _] =>
    if frame.drop 9 = beBytes 4 (crc32 (frame.take 9)).toNat then
      some (c1 ++ c0, b1 ++ b0, r1 ++ r0, q1 ++ q0)
    else none
  | _ => none

/-- The frame type byte; a frame without bytes has type 0, which is none of the two (R4). -/
def frameType (frame : List Byte) : Nat :=
  match frame with
  | [] => 0
  | t :: _ => t.toNat

end Sys2Proof.Machine
end

