-- ==== Sys2Proof/Machine/Ops.lean ====
section
/-!
DEFINITION. The shared operations over the state: reading and writing one port, endpoint, clip, job, channel, stream or
spotter stream; the time base; filing a fault (R160); credits and send queues (R6 to R9); replies (R23).
-/

namespace Sys2Proof.Machine

/-! ### Reading and writing one part of the state -/

/-- Every port, in order. -/
def allPorts : List Port := [0, 1, 2, 3]

/-- Every channel, in order. -/
def allChannels : List ChannelId := [0, 1, 2, 3, 4, 5, 6, 7]

/-- Both streams, in order. -/
def allStreams : List StreamId := [0, 1]

/-- The port `p`. -/
def State.port (s : State) (p : Port) : PortState := s.link.ports[p]

/-- The state with port `p` changed. -/
def State.modPort (s : State) (p : Port) (f : PortState → PortState) : State :=
  { s with link := { s.link with ports := s.link.ports.set p.val (f (s.port p)) p.isLt } }

/-- The stream `st`. -/
def State.stream (s : State) (st : StreamId) : Stream := s.review[st]

/-- The state with stream `st` changed. -/
def State.modStream (s : State) (st : StreamId) (f : Stream → Stream) : State :=
  { s with review := s.review.set st.val (f (s.stream st)) st.isLt }

/-- What the fault spotter holds for stream `st`. -/
def State.spot (s : State) (st : StreamId) : SpotterStream := s.spotter.streams[st]

/-- The state with the fault spotter's stream `st` changed. -/
def State.modSpot (s : State) (st : StreamId) (f : SpotterStream → SpotterStream) : State :=
  { s with spotter := { s.spotter with streams := s.spotter.streams.set st.val (f (s.spot st)) st.isLt } }

/-- The transfer channel `c`. -/
def State.channel (s : State) (c : ChannelId) : Channel := s.offload.channels[c]

/-- The state with channel `c` set. -/
def State.setChannel (s : State) (c : ChannelId) (x : Channel) : State :=
  { s with offload := { s.offload with channels := s.offload.channels.set c.val x c.isLt } }

/-- The clip record `n`, if `n` is at most 511 and the record is allocated (R45). -/
def State.clip? (s : State) (n : Nat) : Option ClipRecord := (s.table.clips[n]?).join

/-- The state with clip record `n` set; nothing changes for a number above 511. -/
def State.setClip (s : State) (n : Nat) (c : Option ClipRecord) : State :=
  { s with table := { s.table with clips := s.table.clips.setIfInBounds n c } }

/-- The state with an allocated clip record changed; nothing changes for a free one. -/
def State.modClip (s : State) (n : Nat) (f : ClipRecord → ClipRecord) : State :=
  match s.clip? n with
  | none => s
  | some c => s.setClip n (some (f c))

/-- The job record `n`, if `n` is at most 15 and the record is allocated. -/
def State.job? (s : State) (n : Nat) : Option JobRecord := (s.table.jobs[n]?).join

/-- The state with job record `n` set. -/
def State.setJob (s : State) (n : Nat) (j : Option JobRecord) : State :=
  { s with table := { s.table with jobs := s.table.jobs.setIfInBounds n j } }

/-- The state with an allocated job record changed. -/
def State.modJob (s : State) (n : Nat) (f : JobRecord → JobRecord) : State :=
  match s.job? n with
  | none => s
  | some j => s.setJob n (some (f j))

/-- The endpoint table entry of a name. -/
def State.endpoint? (s : State) (e : EpName) : Option Endpoint := s.link.endpoints.find? (fun x => x.name == e)

/-- The state with the endpoint table changed. -/
def State.setEndpoints (s : State) (es : List Endpoint) : State := { s with link := { s.link with endpoints := es } }

/-- The state with the state of one endpoint table entry set (R12). -/
def State.setEndpointState (s : State) (e : EpName) (x : EndpointState) : State :=
  s.setEndpoints (s.link.endpoints.map fun ep => if ep.name = e then { ep with state := x } else ep)

/-- The place of an endpoint in the ascending order of port, then id (R15). -/
def EpName.key (e : EpName) : Nat := e.port.val * 16 + e.id

/-! ### Time -/

/-- The time base now (R172, section "Time"). -/
def State.now (s : State) : Word64 := s.supply.timeBase

/-- The instant a number of microseconds from now. -/
def State.later (s : State) (us : Nat) : Word64 := s.now + BitVec.ofNat 64 us

/-- The state with the time base moved on to an instant, if it has not reached it: the event of a timer is taken when
the timer ends (DESIGN CHOICE, log entry 8). -/
def State.advanceTo (s : State) (t : Word64) : State :=
  if s.now.toNat < t.toNat then { s with supply := { s.supply with timeBase := t } } else s

/-! ### Filing a fault (R160) -/

/-- A fault as a block files it: its kind and the fields it carries (R160). -/
structure Filing where
  kind : FaultKind
  clip : Option Nat := none
  frame : Option Word32 := none
  endpoint : Option EpName := none
  coordinate : Option (Nat × Nat) := none
  stream : Option StreamId := none
  detail : Nat := 0
  deriving DecidableEq, Repr

/-- The log entry of a filing taken at an instant, un-noticed (R28, R160). -/
def Filing.entry (f : Filing) (time : Word64) : FaultEntry where
  kind := f.kind
  time := time
  clip := f.clip
  frame := f.frame
  endpoint := f.endpoint
  coordinate := f.coordinate
  stream := f.stream
  detail := BitVec.ofNat 32 f.detail
  noticed := false

/-- The first part of a filing: an entry at the log's tail, or one more overflow when the log is full (R160). -/
def State.logFault (s : State) (f : Filing) : State :=
  if s.spotter.log.length < Config.faultLogLimit then
    { s with spotter := { s.spotter with log := s.spotter.log ++ [f.entry s.now] } }
  else
    { s with spotter := { s.spotter with overflow := min (s.spotter.overflow + 1) 4294967295 } }

/-- A saturating fault count of a clip (R34). -/
def bumpCount (n : Nat) : Nat := min (n + 1) 65535

/-- A clip record after one more fault of a class, with the effect on its QC state (R34, R35). -/
def ClipRecord.countFault (c : ClipRecord) : FaultClass → ClipRecord
  | .copy => { c with copyFaults := bumpCount c.copyFaults, qc := if c.qc = .clean then .flagged else c.qc }
  | .picture => { c with pictureFaults := bumpCount c.pictureFaults, qc := if c.qc = .clean then .flagged else c.qc }
  | .timing => { c with timingFaults := bumpCount c.timingFaults, qc := if c.qc = .clean then .flagged else c.qc }
  | .none => c

/-- The second part of a filing: the clip's count of the kind's class (R34). -/
def State.countFault (s : State) (f : Filing) : State :=
  match f.clip with
  | none => s
  | some n => s.modClip n (·.countFault f.kind.faultClass)

/-- The hold points after a match: a one-shot point that matched is disarmed (R165). -/
def disarmMatched (st : StreamId) (p : HoldCondition → Bool) (h : Option HoldPoint) : Option HoldPoint :=
  h.map fun x => if x.armed && x.stream == st && p x.condition && x.oneShot then { x with armed := false } else x

/-- Whether some armed point of a stream meets a condition (R165). -/
def State.holdMatches (s : State) (st : StreamId) (p : HoldCondition → Bool) : Bool :=
  s.spotter.holds.toList.any fun h =>
    match h with
    | none => false
    | some x => x.armed && x.stream == st && p x.condition

/-- The matching of a stream's hold points: only while the stream is WAITING or RUNNING; a match sets the hold-pending
mark and disarms one-shot points (R165). -/
def State.matchHolds (s : State) (st : StreamId) (p : HoldCondition → Bool) : State :=
  if (s.stream st).state.takes && s.holdMatches st p then
    let s := { s with spotter := { s.spotter with holds := s.spotter.holds.map (disarmMatched st p) } }
    s.modStream st fun x => { x with holdPending := true }
  else s

/-- Whether a hold condition waits for a fault kind. -/
def HoldCondition.isFault (k : FaultKind) : HoldCondition → Bool
  | .fault k' => k' == k
  | .frame _ _ => false

/-- Whether a hold condition names a frame. -/
def HoldCondition.isFrame (clip : Nat) (number : Word32) : HoldCondition → Bool
  | .frame c n => c == clip && n == number
  | .fault _ => false

/-- Whether a filing names the processed frame in progress of a stream (R131). A refused frame takes no damaged mark, not
even from its own NOT_SECURED: DESIGN CHOICE, log entry 43. -/
def FrameInProgress.named (x : FrameInProgress) (f : Filing) : Bool :=
  !x.refused && f.clip == some x.clip && f.frame == some x.number

/-- The damaged mark of a stream's frame in progress, set by a filing that names the stream and the frame (R131). -/
def Stream.markDamaged (x : Stream) (f : Filing) : Stream :=
  { x with frame := x.frame.map fun y => if y.named f then { y with damaged := true } else y }

/-- The third part of a filing: the report to the stream's hold points, and the frame's damaged mark (R131, R160, R165). -/
def State.reportFault (s : State) (f : Filing) : State :=
  match f.stream with
  | none => s
  | some st => (s.matchHolds st (HoldCondition.isFault f.kind)).modStream st (·.markDamaged f)

/-- A fault is filed (R160): log entry or overflow, clip count, hold report. -/
def State.file (s : State) (f : Filing) : State := ((s.logFault f).countFault f).reportFault f

/-! ### Credits, queues and replies -/

/-- The index of a packet class in a port's counters and queues. -/
def PacketClass.index : PacketClass → Fin 4
  | .control => 0
  | .bulk => 1
  | .raster 0 => 2
  | .raster 1 => 3

/-- Whether a port is UP. -/
def State.isUp (s : State) (p : Port) : Bool := (s.port p).link == .up

/-- A receive buffer of a class is freed with its credit: the total granted rises by one and a credit frame is due (R6). -/
def PortState.grant (x : PortState) (c : PacketClass) : PortState :=
  let k := c.index
  let old := x.receive[k]
  { x with receive := x.receive.set k.val { old with total := old.total + 1 } k.isLt, creditDue := true }

/-- A packet is counted against the credit of its class (R6). -/
def PortState.countReceived (x : PortState) (c : PacketClass) : PortState :=
  let k := c.index
  let old := x.receive[k]
  { x with receive := x.receive.set k.val { old with count := old.count + 1 } k.isLt }

/-- A packet handed to a send queue of a port that is UP (R9). -/
def PortState.enqueue (x : PortState) (c : PacketClass) (pk : Packet) : PortState :=
  let k := c.index
  { x with queues := x.queues.set k.val (x.queues[k] ++ [pk]) k.isLt }

/-- A port's queue of a class. -/
def PortState.queueOf (x : PortState) (c : PacketClass) : List Packet := x.queues[c.index]

/-- A port's queues with the packets of some owners taken out. -/
def PortState.removePackets (x : PortState) (gone : Owner → Bool) : PortState :=
  { x with queues := x.queues.map fun q => q.filter fun pk => !gone pk.owner }

/-- Whether raster credits of a stream are granted on a port: the stream is open with its decoder there (R7). -/
def State.grantsRaster (s : State) (st : StreamId) (p : Port) : Bool :=
  (s.stream st).state != .closed && (s.stream st).params.decoder.port == p

/-- A raster buffer of a stream on a port is freed (R7): its credit returns while the stream is open with its decoder
endpoint on the port; totals of a port that is not UP stay zero (R2, R3). -/
def State.freeRaster (s : State) (st : StreamId) (p : Port) : State :=
  if s.grantsRaster st p && s.isUp p then s.modPort p (·.grant (.raster st)) else s

/-- A control or bulk buffer of an UP port is freed (R6). -/
def State.freeBuffer (s : State) (p : Port) (c : PacketClass) : State :=
  match c with
  | .raster st => s.freeRaster st p
  | .control | .bulk => if s.isUp p then s.modPort p (·.grant c) else s

/-- The REPLY packet of a request (R23, section 2.6). -/
def replyPacket (tag number : Nat) (code : ReplyCode) (result : List Byte) (owner : Owner) : Packet where
  kind := .reply
  endpoint := 0
  stream := 0
  tag := tag
  payload := byteOf number :: byteOf code.code :: (beBytes 3 result.length ++ result)
  owner := owner

/-- A reply is handed to the control send queue of its port; on a port that is not UP it is lost (R23). -/
def State.reply (s : State) (p : Port) (tag number : Nat) (code : ReplyCode) (result : List Byte) : State :=
  if s.isUp p then s.modPort p (·.enqueue .control (replyPacket tag number code result .reply)) else s

/-! ### Counts and small lists -/

/-- A saturating 32-bit count (section 9.1). -/
def bump32 (n : Nat) : Nat := min (n + 1) 4294967295

/-- Whether the part runs: it is not held by a brownout (R173). -/
def State.running (s : State) : Bool :=
  match s.supply.power with
  | .running => true
  | .held _ _ => false

/-- A command's effect while the part runs; while it is held every block is stopped and nothing happens (R173). -/
def State.whenRunning (s : State) (f : State → State) : State := if s.running then f s else s

end Sys2Proof.Machine
end

