-- ==== Sys2Proof/Machine/Asks.lean ====
section
/-!
DEFINITION. Asks and answers (section 1.6): the outstanding-ask table of a port, the tags it allots, the packets of an
ask, making, matching, ending and withdrawing an ask (R16 to R19).
-/

namespace Sys2Proof.Machine

/-! ### Packets of an ask (section 1.7) -/

/-- An ask's kind byte (section 1.7). -/
def AskBody.code : AskBody → Nat
  | .identify => 1
  | .openFile _ => 2
  | .create _ _ _ => 3
  | .read _ _ _ => 4
  | .write _ _ _ => 5
  | .close _ => 6

/-- A CREATE mode's code (section 1.7). -/
def CreateMode.code : CreateMode → Nat
  | .new => 0
  | .resume => 1

/-- The payload of an ASK packet (section 1.7). -/
def AskBody.payload (b : AskBody) : List Byte :=
  byteOf b.code ::
    match b with
    | .identify => []
    | .openFile id => beBytes 4 id.toNat
    | .create mode root name =>
      byteOf mode.code :: byteOf root.length :: (root ++ byteOf name.length :: name)
    | .read h offset length => beBytes 4 h.toNat ++ beBytes 8 offset ++ beBytes 4 length
    | .write h offset data => beBytes 4 h.toNat ++ beBytes 8 offset ++ beBytes 4 data.length
    | .close h => beBytes 4 h.toNat

/-- Bytes cut into runs of `n`, the last one shorter; `fuel` bounds the number of runs. -/
def chunks (n : Nat) : Nat → List Byte → List (List Byte)
  | 0, _ => []
  | _ + 1, [] => []
  | fuel + 1, bs => bs.take n :: chunks n fuel (bs.drop n)

/-- The BLOCK payloads of a WRITE: 65,536 bytes each except the last; none for length 0 (R17). -/
def AskBody.blocks : AskBody → List (List Byte)
  | .write _ _ data => chunks Config.blockBytes (data.length / Config.blockBytes + 1) data
  | _ => []

/-- The ASK packet of an ask with its tag (R16, R17). -/
def Ask.askPacket (a : Ask) (tag : Nat) : Packet where
  kind := .ask
  endpoint := a.endpoint.id
  stream := 0
  tag := tag
  payload := a.body.payload
  owner := .ask tag

/-- The BLOCK packets of an ask, in order of offset (R17). -/
def Ask.blockPackets (a : Ask) (tag : Nat) : List Packet :=
  a.body.blocks.map fun bs =>
    { kind := .block, endpoint := a.endpoint.id, stream := 0, tag := tag, payload := bs, owner := .ask tag }

/-! ### The table -/

/-- An ask's tag: its entry's generation times 64 plus its entry number (R16). -/
def askTag (generation entry : Nat) : Nat := generation * 64 + entry

/-- The lowest-numbered free entry of a port's table (R16). -/
def PortState.freeEntry (x : PortState) : Option Nat := x.asks.toList.findIdx? fun e => e.live.isNone

/-- The live ask a tag names on a port: the entry's number is the tag modulo 64 and its generation the rest (R16, R18). -/
def PortState.liveAsk (x : PortState) (tag : Nat) : Option LiveAsk :=
  match x.asks[tag % 64]? with
  | none => none
  | some e => if e.generation = tag / 64 then e.live else none

/-- The entry of a tag with its ask replaced, or freed by `none`; the generation stays (R16). -/
def PortState.setLive (x : PortState) (entry : Nat) (l : Option LiveAsk) : PortState :=
  match x.asks[entry]? with
  | none => x
  | some e => { x with asks := x.asks.setIfInBounds entry { e with live := l } }

/-- An ask is given an entry of a port: the generation advances by one modulo 1024, and on an UP port the ask is in
phase SENDING with its packets handed to the send queues. On a port that is not UP the packet is dropped: the entry is
free again and its tag retired (R16, R17, R19). -/
def PortState.place (x : PortState) (entry : Nat) (a : Ask) : PortState :=
  match x.asks[entry]? with
  | none => x
  | some e =>
    let generation := (e.generation + 1) % 1024
    if x.link = .up then
      let tag := askTag generation entry
      let x := { x with asks := x.asks.setIfInBounds entry ⟨generation, some ⟨a, .sending, []⟩⟩ }
      (a.blockPackets tag).foldl (fun y pk => y.enqueue .bulk pk) (x.enqueue .control (a.askPacket tag))
    else
      { x with asks := x.asks.setIfInBounds entry ⟨generation, none⟩ }

/-- Whether an endpoint can be asked: it is in the table, ONLINE or DRAINING, and its port has the role of its kind
(R10, R16). -/
def State.askable (s : State) (e : EpName) : Bool :=
  match s.endpoint? e with
  | none => false
  | some x => (x.state == .online || x.state == .draining) && hasRole (s.port e.port).roles x.kind.role

/-- Whether an endpoint is DRAINING. -/
def State.draining (s : State) (e : EpName) : Bool :=
  match s.endpoint? e with
  | none => false
  | some x => x.state == .draining

/-- Making an ask (R16): the state, and whether the ask failed at once with ENDPOINT_LOST. An ask that finds no free
entry, or earlier asks waiting, joins the waiting list. -/
def State.makeAsk (s : State) (a : Ask) : State × Bool :=
  if !s.askable a.endpoint then (s, true)
  else
    let p := a.endpoint.port
    match (s.port p).waiting, (s.port p).freeEntry with
    | [], some entry => (s.modPort p (·.place entry a), !s.isUp p)
    | _, _ => (s.modPort p fun x => { x with waiting := x.waiting ++ [a] }, false)

/-- The tags of a port's live asks that meet a condition. -/
def PortState.liveTags (x : PortState) (p : Ask → Bool) : List Nat :=
  x.asks.toList.zipIdx.filterMap fun (ei : AskEntry × Nat) =>
    match ei.1.live with
    | none => none
    | some l => if p l.ask then some (askTag ei.1.generation ei.2) else none

/-- An entry with its ask withdrawn if it meets a condition: freed, its tag retired, the generation kept (R19). -/
def AskEntry.withdraw (p : Ask → Bool) (e : AskEntry) : AskEntry :=
  match e.live with
  | none => e
  | some l => if p l.ask then { e with live := none } else e

/-- Whether a packet belongs to an ask of one of some tags. -/
def Owner.ofTags (tags : List Nat) : Owner → Bool
  | .ask tag => tags.contains tag
  | _ => false

/-- Withdrawal of every ask of a port that meets a condition: entries freed, tags retired, waiting asks off the list,
unsent packets taken out of the send queues (R19). -/
def PortState.withdraw (x : PortState) (p : Ask → Bool) : PortState :=
  { x with
    asks := x.asks.map (AskEntry.withdraw p)
    waiting := x.waiting.filter fun a => !p a
    queues := (x.removePackets (Owner.ofTags (x.liveTags p))).queues }

/-- Withdrawal of every ask whose purpose meets a condition, on every port (R19). -/
def State.withdrawAsks (s : State) (p : Purpose → Bool) : State :=
  { s with link := { s.link with ports := s.link.ports.map (·.withdraw fun a => p a.purpose) } }

/-- A port's asks, outstanding and waiting. -/
def PortState.allAsks (x : PortState) : List Ask :=
  (x.asks.toList.filterMap fun e => e.live.map (·.ask)) ++ x.waiting

/-- The number of asks of the engine that are outstanding, in an entry or waiting for one (R62). -/
def State.askCount (s : State) : Nat := (s.link.ports.toList.map fun x => x.allAsks.length).sum

/-- The number of asks outstanding or waiting to an endpoint (R14, R90). -/
def State.asksTo (s : State) (e : EpName) : Nat :=
  ((s.port e.port).allAsks.filter fun a => a.endpoint == e).length

/-- The number of asks to an endpoint that hold a table entry (R15). -/
def State.entriesTo (s : State) (e : EpName) : Nat :=
  ((s.port e.port).asks.toList.filter fun x =>
    match x.live with
    | none => false
    | some l => l.ask.endpoint == e).length

/-! ### Whose ask it is -/

/-- The channel an ask belongs to. -/
def Purpose.channel : Purpose → Option ChannelId
  | .identify _ => none
  | .openSource c | .readSource c | .checkRead c | .closeSource c => some c
  | .create c _ | .write c _ _ | .verify c _ _ | .closeLane c _ => some c

/-- Whether an ask belongs to a channel. -/
def Purpose.ofChannel (c : ChannelId) (p : Purpose) : Bool := p.channel == some c

/-- Whether an ask belongs to a lane of a channel. -/
def Purpose.ofLane (c : ChannelId) (d : Nat) : Purpose → Bool
  | .create c' d' | .closeLane c' d' => c' == c && d' == d
  | .write c' d' _ | .verify c' d' _ => c' == c && d' == d
  | _ => false

/-- Whether an ask is the IDENTIFY of a job. -/
def Purpose.ofIdentify (j : Nat) : Purpose → Bool
  | .identify j' => j' == j
  | _ => false

end Sys2Proof.Machine
end

