-- ==== Sys2Proof/Machine/Work.lean ====
section
/-!
DEFINITION. Extents, destination records and the work of a job (R48), the settlement of clips and jobs (R56), and what a
return does to one clip's record and its job (R95).
-/

namespace Sys2Proof.Machine

/-! ### Extents (R30, R67) -/

/-- The extent count of a file size (R30). -/
def extentCount (size : Nat) : Nat := (size + (Config.extentBytes - 1)) / Config.extentBytes

/-- The length of extent `k` (R67). -/
def extentLength (size k : Nat) : Nat := min Config.extentBytes (size - k * Config.extentBytes)

/-- A clip's extent count. DEDUCED, log entry 31. -/
def ClipRecord.extents (c : ClipRecord) : Nat := extentCount c.size

/-! ### Destination records (R33) -/

/-- A clip with the destination record at a place of its list changed. -/
def ClipRecord.modDest (c : ClipRecord) (d : Nat) (f : DestRecord → DestRecord) : ClipRecord :=
  match c.dests[d]? with
  | none => c
  | some r => { c with dests := c.dests.set d (f r) }

/-- The state with one destination record of a clip changed. -/
def State.modDest (s : State) (clip d : Nat) (f : DestRecord → DestRecord) : State := s.modClip clip (·.modDest d f)

/-- The destination record at a place of a clip's list. -/
def State.dest? (s : State) (clip d : Nat) : Option DestRecord := (s.clip? clip).bind fun c => c.dests[d]?

/-- A record FAILED with a reason (R33). -/
def DestRecord.fail (reason : FaultKind) (r : DestRecord) : DestRecord := { r with state := .failed, reason := some reason }

/-- A record DEFERRED, with the reason of a loss or none (R91, R93). -/
def DestRecord.defer (reason : Option FaultKind) (r : DestRecord) : DestRecord :=
  { r with state := .deferred, reason := reason }

/-- A record made PENDING: no failure reason, attempts 0, the verified prefix kept (R33, R57, R95). -/
def DestRecord.pend (r : DestRecord) : DestRecord := { r with state := .pending, attempts := 0, reason := none }

/-- The records in some state, by place. -/
def ClipRecord.placesIn (c : ClipRecord) (x : DestState) : List Nat :=
  (c.dests.zipIdx.filter fun ri => ri.1.state == x).map fun ri => ri.2

/-- Whether some record is in a state. -/
def ClipRecord.anyIn (c : ClipRecord) (x : DestState) : Bool := c.dests.any fun r => r.state == x

/-- A clip whose records in one state are changed. -/
def ClipRecord.mapIn (c : ClipRecord) (x : DestState) (f : DestRecord → DestRecord) : ClipRecord :=
  { c with dests := c.dests.map fun r => if r.state = x then f r else r }

/-- Whether every destination record is VERIFIED, FAILED or DEFERRED (R33, R56). -/
def ClipRecord.allSettled (c : ClipRecord) : Bool := c.dests.all fun r => r.state.settled

/-- Whether every destination record is VERIFIED. -/
def ClipRecord.allVerified (c : ClipRecord) : Bool := c.dests.all fun r => r.state == .verified

/-- The copy state a clip settles in: COMPLETE if every record is VERIFIED, PARTIAL if at least one is, FAILED if none is
(R56). -/
def ClipRecord.settledState (c : ClipRecord) : CopyState :=
  if c.allVerified then .complete else if c.anyIn .verified then .partialCopy else .failed

/-! ### The work of a job (R48) -/

/-- Fresh work (R48). -/
def ClipRecord.fresh (c : ClipRecord) : Bool := c.copyState == .waiting && c.fileCrc.isNone && c.anyIn .pending

/-- Re-seed work (R48). -/
def ClipRecord.reseedWork (c : ClipRecord) : Bool := c.copyState != .cancelled && c.fileCrc.isSome && c.anyIn .pending

/-- An idle clip (R48). -/
def ClipRecord.idle (c : ClipRecord) : Bool := c.copyState == .waiting && !c.anyIn .pending

/-- A clip with orphaned records (R48). -/
def ClipRecord.orphaned (c : ClipRecord) : Bool := c.copyState == .failed && c.fileCrc.isNone && c.anyIn .pending

/-- Whether an allocated clip meets a condition. -/
def State.clipIs (s : State) (n : Nat) (p : ClipRecord → Bool) : Bool :=
  match s.clip? n with
  | none => false
  | some c => p c

/-- The binding of a channel, if it is BOUND. -/
def Channel.binding? : Channel → Option Binding
  | .bound b => some b
  | .free | .closing _ => none

/-- The binding of channel `c`. -/
def State.binding? (s : State) (c : ChannelId) : Option Binding := (s.channel c).binding?

/-- The channel a clip is bound to. -/
def State.channelOf (s : State) (clip : Nat) : Option ChannelId :=
  allChannels.find? fun c => (s.binding? c).map (·.clip) == some clip

/-- Whether a clip is bound (R54). -/
def State.isBound (s : State) (clip : Nat) : Bool := (s.channelOf clip).isSome

/-- Whether a clip is eligible: not bound, with fresh work or re-seed work (R54). -/
def State.eligible (s : State) (clip : Nat) : Bool :=
  !s.isBound clip && s.clipIs clip fun c => c.fresh || c.reseedWork

/-- Whether a job has work: a clip bound, or with fresh or re-seed work (R48). -/
def State.hasWork (s : State) (j : JobRecord) : Bool := j.clips.any fun n => s.isBound n || s.eligible n

/-- Whether a job needs its source: some clip has fresh work (R48). -/
def State.needsSource (s : State) (j : JobRecord) : Bool := j.clips.any fun n => s.clipIs n (·.fresh)

/-! ### Settlement of jobs and unbound clips (R56) -/

/-- The state with the IDENTIFY count of a job set. -/
def State.setIdentify (s : State) (j : Nat) (x : Identify) : State :=
  { s with offload := { s.offload with identify := s.offload.identify.setIfInBounds j x } }

/-- The IDENTIFY count of a job. -/
def State.identifyOf (s : State) (j : Nat) : Identify := (s.offload.identify[j]?).getD ⟨0, false⟩

/-- A job settles: DONE if every record of every clip is VERIFIED, else DONE_INCOMPLETE; no source standing, no re-seed
mark (R56). -/
def State.settleJob (s : State) (n : Nat) : State :=
  s.modJob n fun j =>
    { j with
      state := if j.clips.all fun k => s.clipIs k (·.allVerified) then .done else .doneIncomplete
      standing := none
      reseed := false }

/-- An ACTIVE job without work settles (R56). -/
def State.trySettleJob (s : State) (n : Nat) : State :=
  match s.job? n with
  | none => s
  | some j => if j.state = .active && !s.hasWork j then s.settleJob n else s

/-- A clip takes its settled copy state (R56). -/
def State.settleRecord (s : State) (clip : Nat) : State := s.modClip clip fun c => { c with copyState := c.settledState }

/-! ### Returns (R95) -/

/-- Whether a FAILED clip without file CRC becomes WAITING when one of its records returns (R95). -/
def ClipRecord.revives (c : ClipRecord) : Bool :=
  c.copyState == .failed && c.fileCrc.isNone && !c.dests.any fun r =>
    r.reason == some .sourceReadFailed || r.reason == some .sizeMismatch || r.reason == some .noSource

/-- A clip after the return of its record at a place: the record PENDING, and the clip WAITING if it revives (R95). -/
def ClipRecord.returnAt (c : ClipRecord) (d : Nat) : ClipRecord :=
  let c := c.modDest d DestRecord.pend
  if c.revives then { c with copyState := .waiting } else c

/-- The NO_SOURCE filing of a record (R50, R95, R96). -/
def noSourceFiling (clip : Nat) (e : EpName) : Filing := { kind := .noSource, clip := some clip, endpoint := some e }

/-- The effect of a job's state on one just returned record of a clip that is not bound (R95). -/
def State.returnToJob (s : State) (clip d : Nat) (e : EpName) : State :=
  match s.clip? clip with
  | none => s
  | some c =>
    match s.job? c.job with
    | none => s
    | some j =>
      match j.state with
      | .done | .doneIncomplete => s.modJob c.job fun j => { j with state := .queued, reseed := true }
      | .identifying | .active =>
        if c.copyState = .failed && c.fileCrc.isNone then
          (s.modDest clip d (DestRecord.fail .noSource)).file (noSourceFiling clip e)
        else s
      | .queued | .suspended | .cancelled => s

/-- A clip's place of its DEFERRED record that names an endpoint. -/
def ClipRecord.deferredAt (c : ClipRecord) (e : EpName) : Option Nat :=
  c.dests.findIdx? fun r => r.state == .deferred && r.endpoint == e

/-- The job of a clip is CANCELLED. -/
def State.jobCancelled (s : State) (job : Nat) : Bool :=
  match s.job? job with
  | none => false
  | some j => j.state == .cancelled

/-- A return of an endpoint reaches a clip that is not bound (R95): nothing happens without a DEFERRED record that
names it, or in a CANCELLED job. -/
def State.returnClip (s : State) (clip : Nat) (e : EpName) : State :=
  match s.clip? clip with
  | none => s
  | some c =>
    match c.deferredAt e with
    | none => s
    | some d =>
      if s.jobCancelled c.job then s
      else (s.setClip clip (some (c.returnAt d))).returnToJob clip d e

end Sys2Proof.Machine
end

