-- ==== Sys2Proof/Machine/Channel.lean ====
section
/-!
DEFINITION. Bound channels (chapter 5): lanes, the release of extents, settlement and unbinding, counted attempts, lost
lanes and failed data sources, and what the end of each ask does (R52, R53, R56 to R58, R68 to R88, R97 to R99).
-/

namespace Sys2Proof.Machine

/-! ### Bindings and lanes (R67) -/

/-- The state with the binding of a BOUND channel changed. -/
def State.modBinding (s : State) (c : ChannelId) (f : Binding → Binding) : State :=
  match s.binding? c with
  | none => s
  | some b => s.setChannel c (.bound (f b))

/-- The clip record of a channel's binding. -/
def State.boundClip? (s : State) (c : ChannelId) : Option ClipRecord := (s.binding? c).bind fun b => s.clip? b.clip

/-- The binding's lane of a destination. -/
def Binding.lane? (b : Binding) (d : Nat) : Option Lane := b.lanes.find? fun l => l.dest == d

/-- The state with one lane of a channel changed. -/
def State.modLane (s : State) (c : ChannelId) (d : Nat) (f : Lane → Lane) : State :=
  s.modBinding c fun b => { b with lanes := b.lanes.map fun l => if l.dest = d then f l else l }

/-- A lane with its binding, clip record and destination record. -/
structure LaneView where
  bind : Binding
  lane : Lane
  clip : ClipRecord
  record : DestRecord
  deriving DecidableEq, Repr

/-- The lane of a channel for a destination, with the records it works on. -/
def State.laneView? (s : State) (c : ChannelId) (d : Nat) : Option LaneView :=
  match s.binding? c with
  | none => none
  | some b =>
    match b.lane? d, s.clip? b.clip with
    | some l, some r => (r.dests[d]?).map fun x => ⟨b, l, r, x⟩
    | _, _ => none

/-- The endpoint of a data source (R67). -/
def DataSource.endpoint : DataSource → EpName
  | .card e => e
  | .peer e _ => e

/-- Whether a data source is a peer. -/
def DataSource.isPeer : DataSource → Bool
  | .card _ => false
  | .peer _ _ => true

/-- The failure reason of a data source's failure (R86, R99). -/
def DataSource.reason : DataSource → FaultKind
  | .card _ => .sourceReadFailed
  | .peer _ _ => .noSource

/-- The verified prefixes of a clip's records that are IN_PROGRESS. -/
def ClipRecord.lanePrefixes (c : ClipRecord) : List Nat :=
  (c.dests.filter fun r => r.state == .inProgress).map fun r => r.verified

/-- The lowest verified prefix among the lanes' records; none without a lane (R68, R74). -/
def ClipRecord.lowestPrefix (c : ClipRecord) : Option Nat := c.lanePrefixes.min?

/-- A filing about a clip and an endpoint. -/
def copyFiling (kind : FaultKind) (clip : Nat) (e : EpName) (detail : Nat) : Filing :=
  { kind := kind, clip := some clip, endpoint := some e, detail := detail }

/-! ### Release of extents (R73) -/

/-- Whether extent `k` is still needed: some record is IN_PROGRESS with a verified prefix at or below `k` (R73). -/
def ClipRecord.needs (c : ClipRecord) (k : Nat) : Bool := c.lanePrefixes.any fun v => v ≤ k

/-- Whether a held entry stays: still needed, or in phase READING with its READ outstanding (R73). -/
def HeldExtent.stays (h : HeldExtent) (c : ClipRecord) (reading : Bool) : Bool :=
  c.needs h.extent || (reading && h.phase == .reading)

/-- The release check for every extent a channel holds (R73). -/
def State.releaseExtents (s : State) (c : ChannelId) : State :=
  match s.boundClip? c with
  | none => s
  | some r => s.modBinding c fun b => { b with held := b.held.filter fun h => h.stays r b.reading }

/-! ### Settlement and unbinding (R56, R57, R87, R88) -/

/-- The returns noted by a channel take effect on its clip, which is no longer bound, in the order in which they were
noted (R88; the order is DESIGN CHOICE, log entry 37). -/
def State.takeNotes (s : State) (clip : Nat) (notes : List EpName) : State :=
  notes.foldl (fun s e => s.returnClip clip e) s

/-- What a settling channel becomes: CLOSING with an open handle, else FREE (R56, R87). -/
def Binding.afterSettling (b : Binding) : Channel :=
  match b.handle with
  | none => .free
  | some h => .closing ⟨some b.job, b.source.endpoint, h, false⟩

/-- A bound clip settles: the binding ends, the clip takes its settled copy state, its job may settle, and noted returns
take effect (R56, R87, R88). -/
def State.settleClip (s : State) (c : ChannelId) : State :=
  match s.binding? c with
  | none => s
  | some b =>
    let s := (s.withdrawAsks (Purpose.ofChannel c)).setChannel c b.afterSettling
    ((s.settleRecord b.clip).trySettleJob b.job).takeNotes b.clip b.notes

/-- A bound clip settles when every destination record of it is settled (R56). -/
def State.checkSettle (s : State) (c : ChannelId) : State :=
  match s.boundClip? c with
  | none => s
  | some r => if r.allSettled then s.settleClip c else s

/-- A clip record after unbinding (R57). -/
def ClipRecord.unbind (c : ClipRecord) : ClipRecord :=
  { c.mapIn .inProgress DestRecord.pend with copyState := .waiting }

/-- A channel is unbound without settling its clip, or a CLOSING channel is freed with its CLOSE withdrawn (R57); then
noted returns take effect (R88). -/
def State.unbind (s : State) (c : ChannelId) : State :=
  let s' := (s.withdrawAsks (Purpose.ofChannel c)).setChannel c .free
  match s.binding? c with
  | none => s'
  | some b => (s'.modClip b.clip (·.unbind)).takeNotes b.clip b.notes

/-- The job a channel belongs to (R54). -/
def Channel.job? : Channel → Option Nat
  | .free => none
  | .bound b => some b.job
  | .closing c => c.job

/-- The channels that belong to a job (R54). -/
def State.channelsOf (s : State) (job : Nat) : List ChannelId :=
  allChannels.filter fun c => (s.channel c).job? == some job

/-- A job becomes SUSPENDED, without source standing, its IDENTIFY withdrawn and its attempt count discarded (R58, R64). -/
def State.suspendRecord (s : State) (job : Nat) (reason : SuspendReason) : State :=
  let s := s.modJob job fun j => { j with state := .suspended, suspend := some reason, standing := none }
  (s.withdrawAsks (Purpose.ofIdentify job)).setIdentify job ⟨0, false⟩

/-- A CONFIRMED job loses its source: SUSPENDED with SOURCE_UNAVAILABLE, its channels unbound, one ENDPOINT_LOST filed
for each clip that was bound (R58). The channels are taken by ascending number: DESIGN CHOICE, log entry 37. -/
def State.loseSource (s : State) (job : Nat) : State :=
  match s.job? job with
  | none => s
  | some j =>
    let channels := s.channelsOf job
    let s := s.suspendRecord job .sourceUnavailable
    channels.foldl (fun s c =>
      match s.binding? c with
      | none => s.unbind c
      | some b => (s.file (copyFiling .endpointLost b.clip j.source 0)).unbind c) s

/-- A channel loses its data source with ENDPOINT_LOST: the card of a CONFIRMED job (R58), or the peer (R99).
DEDUCED, log entry 28. -/
def State.loseDataSource (s : State) (c : ChannelId) : State :=
  match s.binding? c with
  | none => s
  | some b =>
    match b.source with
    | .card _ => s.loseSource b.job
    | .peer e _ => (s.file (copyFiling .endpointLost b.clip e 0)).unbind c

/-! ### The end of a lane (R82 to R86) -/

/-- A lane ends: its asks are withdrawn and it leaves the binding; then the release check, and the clip settles if no
record is left (R56, R73, R83). -/
def State.endLane (s : State) (c : ChannelId) (d : Nat) : State :=
  let s := s.withdrawAsks (Purpose.ofLane c d)
  let s := s.modBinding c fun b => { b with lanes := b.lanes.filter fun l => l.dest != d }
  (s.releaseExtents c).checkSettle c

/-- A lane's record takes a settled state, with or without a fault, and the lane ends (R83). -/
def State.closeLane (s : State) (c : ChannelId) (d : Nat) (f : DestRecord → DestRecord) (fault : Option Filing) : State :=
  match s.binding? c with
  | none => s
  | some b =>
    let s := s.modDest b.clip d f
    let s := match fault with
      | none => s
      | some x => s.file x
    s.endLane c d

/-- A failed attempt is counted (R82): the record's attempts rise by one; at 3 it becomes FAILED with the attempt's
reason, filing one fault of that reason unless the failure was a verify comparison; below 3 the lane does the step
again. -/
def State.countAttempt (s : State) (c : ChannelId) (d : Nat) (reason : FaultKind) (compared : Bool)
    (again : Lane → Lane) : State :=
  match s.laneView? c d with
  | none => s
  | some v =>
    let n := v.record.attempts + 1
    let s := s.modDest v.bind.clip d fun r => { r with attempts := n }
    if n < Config.attemptLimit then s.modLane c d again
    else
      s.closeLane c d (DestRecord.fail reason)
        (if compared then none else some (copyFiling reason v.bind.clip v.record.endpoint v.record.verified))

/-- A lane is lost with ENDPOINT_LOST: an IN_PROGRESS record becomes DEFERRED and one fault is filed (R85). -/
def State.loseLane (s : State) (c : ChannelId) (d : Nat) : State :=
  match s.laneView? c d with
  | none => s
  | some v =>
    if v.record.state = .inProgress then
      s.closeLane c d (DestRecord.defer (some .endpointLost))
        (some (copyFiling .endpointLost v.bind.clip v.record.endpoint v.record.verified))
    else s

/-- Every IN_PROGRESS record of a bound clip becomes FAILED and every lane ends; one fault is filed and the clip settles
(R69, R86). -/
def State.failBinding (s : State) (c : ChannelId) (reason : FaultKind) (detail : Nat) : State :=
  match s.binding? c with
  | none => s
  | some b =>
    let s := s.modClip b.clip (·.mapIn .inProgress (DestRecord.fail reason))
    let s := s.withdrawAsks (Purpose.ofChannel c)
    let s := s.modBinding c fun b => { b with lanes := [] }
    (s.file (copyFiling reason b.clip b.source.endpoint detail)).checkSettle c

/-- A channel's data source fails (R86, R99). -/
def State.failSource (s : State) (c : ChannelId) (detail : Nat) : State :=
  match s.binding? c with
  | none => s
  | some b => s.failBinding c b.source.reason detail

/-! ### What an ask ends with (R18, R19) -/

/-- The results of an OK answer, by the ask's kind (section 1.6). A READ gives its byte count (R18). -/
inductive Answer where
  | identity (m : Word64)
  | opened (handle : Word32) (size : Nat)
  | created (handle : Word32)
  | count (n : Nat)
  | done
  deriving DecidableEq, Repr

/-- How an ask ends: answered OK with its results, answered ERROR with the endpoint's error code, answered NO_MEDIUM,
TIMEOUT, or ENDPOINT_LOST (R18, R19). -/
inductive AskEnd where
  | ok (a : Answer)
  | error (code : Word32)
  | noMedium
  | timeout
  | lost
  deriving DecidableEq, Repr

/-- The failure reason of a destination's ask (R70, R79, R81, R84). -/
def AskEnd.reason : AskEnd → FaultKind
  | .timeout => .destTimeout
  | .ok _ | .error _ | .noMedium | .lost => .destWriteFailed

/-! ### IDENTIFY (R51 to R53) -/

/-- The third IDENTIFY has failed (R53). -/
def State.identifyExhausted (s : State) (n : Nat) : State :=
  match s.job? n with
  | none => s
  | some j =>
    let s := s.setIdentify n ⟨0, false⟩
    if s.needsSource j then
      s.modJob n fun j => { j with state := .suspended, suspend := some .sourceUnavailable }
    else s.modJob n fun j => { j with state := .active, standing := some .peerOnly }

/-- An IDENTIFY attempt has failed: the count is kept, and at 3 the job is decided (R51, R53). -/
def State.identifyFailed (s : State) (n : Nat) : State :=
  let k := (s.identifyOf n).attempts
  if k < Config.attemptLimit then s.setIdentify n ⟨k, false⟩ else s.identifyExhausted n

/-- A clip with fresh work of a job whose medium has changed (R52). -/
def ClipRecord.changeMedium (c : ClipRecord) : ClipRecord :=
  { c with
    copyState := .failed
    dests := c.dests.map fun r => if r.state = .failed then r else r.fail .mediumChanged }

/-- The effect of a changed medium on one clip: with fresh work it fails and one MEDIUM_CHANGED is filed (R52). -/
def State.changeMedium (s : State) (source : EpName) (clip : Nat) : State :=
  if s.clipIs clip (·.fresh) then
    (s.modClip clip (·.changeMedium)).file (copyFiling .mediumChanged clip source 0)
  else s

/-- An IDENTIFY is answered with a medium identity (R52). DEDUCED, log entry 33. The MEDIUM_CHANGED faults of several
clips are filed in clip list order: DESIGN CHOICE, log entry 37. -/
def State.identifyAnswered (s : State) (n : Nat) (m : Word64) : State :=
  match s.job? n with
  | none => s
  | some j =>
    let s := s.setIdentify n ⟨0, false⟩
    if j.medium = none ∨ j.medium = some m then
      s.modJob n fun j => { j with medium := some m, state := .active, standing := some .confirmed }
    else
      let s := j.clips.foldl (fun s k => s.changeMedium j.source k) s
      if s.hasWork j then s.modJob n fun j => { j with state := .active, standing := some .peerOnly }
      else s.settleJob n

/-- The end of an IDENTIFY (R51). -/
def State.identifyEnd (s : State) (n : Nat) (r : AskEnd) : State :=
  match r with
  | .ok (.identity m) => s.identifyAnswered n m
  | _ => s.identifyFailed n

/-! ### The data source (R68 to R71, R75, R77, R97, R98) -/

/-- A clip of no extents has its file CRC written at its OPEN (R71). -/
def ClipRecord.closeEmpty (c : ClipRecord) : ClipRecord :=
  if c.extents = 0 then { c with fileCrc := some (crc64Final c.register) } else c

/-- The data source is open: its handle is recorded and the read position set (R68, R71, R97). -/
def State.sourceOpened (s : State) (c : ChannelId) (handle : Word32) : State :=
  match s.binding? c with
  | none => s
  | some b =>
    let low := (s.boundClip? c).bind (·.lowestPrefix)
    let s := s.modBinding c fun b =>
      { b with handle := some handle, opening := false, openAttempts := 0, readPos := low.getD 0 }
    if b.source.isPeer then s else s.modClip b.clip (·.closeEmpty)

/-- The source reports another size than the clip's (R69). -/
def State.sizeMismatch (s : State) (c : ChannelId) (handle : Word32) (size : Nat) : State :=
  (s.modBinding c fun b => { b with handle := some handle, opening := false }).failBinding c .sizeMismatch
    (size % 4294967296)

/-- An opening attempt has failed (R68, R97): at 3 the data source has failed, with detail 0. -/
def State.openFailed (s : State) (c : ChannelId) : State :=
  match s.binding? c with
  | none => s
  | some b =>
    let s := s.modBinding c fun b => { b with opening := false }
    if b.openAttempts < Config.attemptLimit then s else s.failSource c 0

/-- The end of an opening ask (R68, R69, R97). -/
def State.openEnd (s : State) (c : ChannelId) (r : AskEnd) : State :=
  match r, s.boundClip? c with
  | .lost, _ => s.loseDataSource c
  | .ok (.opened h size), some k => if size = k.size then s.sourceOpened c h else s.sizeMismatch c h size
  | .ok (.created h), _ => s.sourceOpened c h
  | _, _ => s.openFailed c

/-- A READ or check read of the data source has failed its attempt (R77); `short` is the byte count of a short read. -/
def State.readFailed (s : State) (c : ChannelId) (extent : Nat) (short : Option Nat) : State :=
  match s.binding? c with
  | none => s
  | some b =>
    let n := b.readAttempts + 1
    let s := s.modBinding c fun b => { b with reading := false, readAttempts := n }
    if n < Config.attemptLimit then
      let s := match short with
        | none => s
        | some k => s.file (copyFiling .shortRead b.clip b.source.endpoint k)
      s.releaseExtents c
    else s.failSource c extent

/-- A clip record after extent `k` has been read from the card: folded when `k` is its hashed prefix, with the file CRC
at the last extent (R75, R76). -/
def ClipRecord.fold (r : ClipRecord) (k : Nat) (data : List Byte) : ClipRecord :=
  if k = r.hashed then
    let reg := crc64Feed r.register data
    { r with
      register := reg
      hashed := k + 1
      fileCrc := if k + 1 = r.extents then some (crc64Final reg) else r.fileCrc }
  else r

/-- A held entry of extent `k` is filled: phase READ with its extent CRC (R75). -/
def HeldExtent.fill (h : HeldExtent) (k : Nat) (data : List Byte) : HeldExtent :=
  if h.extent = k then { h with phase := .read (crc64 data) data } else h

/-- A READ of extent `k` has succeeded (R75, R98). -/
def State.readSucceeded (s : State) (c : ChannelId) (k : Nat) (data : List Byte) : State :=
  match s.binding? c with
  | none => s
  | some b =>
    let s := s.modBinding c fun b =>
      { b with
        reading := false
        readAttempts := 0
        readPos := k + 1
        held := b.held.map fun h => h.fill k data
        peerRegister := if b.source.isPeer then crc64Feed b.peerRegister data else b.peerRegister
        peerNext := if b.source.isPeer then k + 1 else b.peerNext }
    let s := if b.source.isPeer then s else s.modClip b.clip fun r => r.fold k data
    s.releaseExtents c

/-- The end of a READ of the data source (R75, R77). -/
def State.readEnd (s : State) (c : ChannelId) (data : List Byte) (r : AskEnd) : State :=
  match s.binding? c, s.boundClip? c with
  | some b, some k =>
    match r with
    | .lost => s.loseDataSource c
    | .ok (.count n) =>
      if n = extentLength k.size b.readPos then s.readSucceeded c b.readPos data
      else s.readFailed c b.readPos (some n)
    | _ => s.readFailed c b.readPos none
  | _, _ => s

/-- A check read has succeeded: the peer register is fed (R97, R98). -/
def State.checkSucceeded (s : State) (c : ChannelId) (data : List Byte) : State :=
  s.modBinding c fun b =>
    { b with
      reading := false
      readAttempts := 0
      peerRegister := crc64Feed b.peerRegister data
      peerNext := b.peerNext + 1 }

/-- The end of a check read (R97, R98). -/
def State.checkEnd (s : State) (c : ChannelId) (data : List Byte) (r : AskEnd) : State :=
  match s.binding? c, s.boundClip? c with
  | some b, some k =>
    match r with
    | .lost => s.loseDataSource c
    | .ok (.count n) =>
      if n = extentLength k.size b.peerNext then s.checkSucceeded c data
      else s.readFailed c b.peerNext (some n)
    | _ => s.readFailed c b.peerNext none
  | _, _ => s

/-- The end of a CLOSING channel's CLOSE: the channel becomes FREE, whatever the outcome (R56). -/
def State.channelClosed (s : State) (c : ChannelId) : State :=
  match s.channel c with
  | .closing _ => s.setChannel c .free
  | .free | .bound _ => s

/-! ### Lanes (R70, R79 to R82, R84) -/

/-- The end of a lane's CREATE (R70). -/
def State.createEnd (s : State) (c : ChannelId) (d : Nat) (r : AskEnd) : State :=
  match s.laneView? c d with
  | none => s
  | some v =>
    match r with
    | .lost => s.loseLane c d
    | .ok (.created h) =>
      (s.modLane c d fun l => { l with creating := false, handle := some h }).modDest v.bind.clip d
        fun x => { x with attempts := 0 }
    | _ => (s.modLane c d fun l => { l with creating := false }).countAttempt c d r.reason false id

/-- A lane after an OK answer to its WRITE of extent `k` (R79). -/
def Lane.written (l : Lane) (k : Nat) : Lane :=
  { l with
    write := none
    writePos := if k = l.writePos then k + 1 else l.writePos
    rewrite := if l.rewrite = some k then none else l.rewrite }

/-- The end of a lane's WRITE of extent `k` (R79). -/
def State.writeEnd (s : State) (c : ChannelId) (d k : Nat) (r : AskEnd) : State :=
  match s.laneView? c d with
  | none => s
  | some v =>
    match r with
    | .lost => s.loseLane c d
    | .ok _ => s.modLane c d fun l => l.written k
    | .error _ | .noMedium | .timeout =>
      let s := s.modLane c d fun l => { l with write := none }
      if k = v.record.verified then s.countAttempt c d r.reason false fun l => { l with rewrite := some k }
      else s.modLane c d fun l => { l with heldFailure := some (k, r.reason) }

/-- A held failure is taken up when the verified prefix has reached its extent (R80). -/
def State.takeUpFailure (s : State) (c : ChannelId) (d : Nat) : State :=
  match s.laneView? c d with
  | none => s
  | some v =>
    match v.lane.heldFailure with
    | none => s
    | some (k, reason) =>
      if k = v.record.verified then
        (s.modLane c d fun l => { l with heldFailure := none }).countAttempt c d reason false
          fun l => { l with rewrite := some k }
      else s

/-- The extent CRC held for an extent (R81). -/
def Binding.crcOf (b : Binding) (k : Nat) : Option Word64 :=
  b.held.findSome? fun h =>
    if h.extent = k then
      match h.phase with
      | .reading => none
      | .read crc _ => some crc
    else none

/-- The read-back of extent `v` matches: the verified prefix advances (R80, R81). -/
def State.verified (s : State) (c : ChannelId) (d clip : Nat) : State :=
  let s := s.modDest clip d fun x => { x with verified := x.verified + 1, attempts := 0 }
  (s.releaseExtents c).takeUpFailure c d

/-- The end of a lane's verify READ of extent `k` (R81). -/
def State.verifyEnd (s : State) (c : ChannelId) (d k : Nat) (data : List Byte) (r : AskEnd) : State :=
  match s.laneView? c d with
  | none => s
  | some v =>
    let again : Lane → Lane := fun l => { l with rewrite := some k }
    let s := s.modLane c d fun l => { l with verify := none }
    match r with
    | .lost => s.loseLane c d
    | .ok (.count n) =>
      if n = extentLength v.clip.size k ∧ v.bind.crcOf k = some (crc64 data) then s.verified c d v.bind.clip
      else
        (s.file (copyFiling .verifyMismatch v.bind.clip v.record.endpoint k)).countAttempt c d .verifyMismatch true again
    | _ => s.countAttempt c d r.reason false again

/-- A record becomes VERIFIED (R84). -/
def DestRecord.verify (r : DestRecord) : DestRecord := { r with state := .verified, reason := none }

/-- The end of a lane's CLOSE (R84). -/
def State.laneCloseEnd (s : State) (c : ChannelId) (d : Nat) (r : AskEnd) : State :=
  match s.laneView? c d with
  | none => s
  | some v =>
    match r with
    | .lost => s.loseLane c d
    | .ok _ => s.closeLane c d DestRecord.verify none
    | .error _ | .noMedium | .timeout =>
      s.closeLane c d (DestRecord.fail r.reason)
        (some (copyFiling r.reason v.bind.clip v.record.endpoint v.clip.extents))

/-! ### Every ask -/

/-- The end of an ask reaches its asker (R16, R18, R19); `data` is the bytes received for a READ. -/
def State.askEnded (s : State) (p : Purpose) (data : List Byte) (r : AskEnd) : State :=
  match p with
  | .identify j => s.identifyEnd j r
  | .openSource c => s.openEnd c r
  | .readSource c => s.readEnd c data r
  | .checkRead c => s.checkEnd c data r
  | .closeSource c => s.channelClosed c
  | .create c d => s.createEnd c d r
  | .write c d k => s.writeEnd c d k r
  | .verify c d k => s.verifyEnd c d k data r
  | .closeLane c d => s.laneCloseEnd c d r

end Sys2Proof.Machine
end

