-- ==== Sys2Proof/Machine/Engine.lean ====
section
/-!
DEFINITION. What the offload engine asks next: opening asks, check reads and READs, the lanes' asks, CLOSEs and IDENTIFYs
(R51, R63, R68, R70, R74, R78, R80, R84, R90, R97, R98); the pool's waiting list (R72); the engine state (R62); activation
(R49, R50) and binding (R54, R55, R96).
-/

namespace Sys2Proof.Machine

/-- Whether the engine state is RUNNING (R63). -/
def State.engineRuns (s : State) : Bool := s.offload.state == .running

/-! ### The data source's asks (R68, R74, R97, R98) -/

/-- The opening ask of a binding (R68, R97). -/
def openingBody (j : JobRecord) (r : ClipRecord) (b : Binding) : AskBody :=
  match b.source with
  | .card _ => .openFile r.fileId
  | .peer _ d => .create .resume ((j.dests[d]?).elim [] (·.root)) r.name

/-- An ask is made; when it fails at once, its asker is told ENDPOINT_LOST, as if it had ended so later (R16, R19). -/
def State.ask (s : State) (a : Ask) : State :=
  let m := s.makeAsk a
  if m.2 then m.1.askEnded a.purpose [] .lost else m.1

/-- Whether the opening ask of a binding may be made: not yet open, none outstanding, the engine RUNNING, and the endpoint
not DRAINING (R63, R68, R90). -/
def State.mayOpen (s : State) (b : Binding) : Bool :=
  s.engineRuns && b.handle.isNone && !b.opening && !s.draining b.source.endpoint

/-- The opening ask is made when it may be (R68, R97). -/
def State.pumpOpen (s : State) (c : ChannelId) : State :=
  match s.binding? c, s.boundClip? c with
  | some b, some r =>
    match s.job? b.job with
    | none => s
    | some j =>
      if s.mayOpen b then
        (s.modBinding c fun b => { b with opening := true, openAttempts := b.openAttempts + 1 }).ask
          ⟨b.source.endpoint, .openSource c, openingBody j r b⟩
      else s
  | _, _ => s

/-- The read position moves up to the lowest verified prefix among the lanes, while no READ is outstanding (R74). With a
peer the attempt count stays, since the next extent to be read is still the one it was counted on (R77, R97, R98); with
the card the attempts counted on an extent passed over are forgotten (DEDUCED, log entry 18). -/
def State.raiseReadPos (s : State) (c : ChannelId) : State :=
  match s.binding? c, (s.boundClip? c).bind (·.lowestPrefix) with
  | some b, some low =>
    if b.handle.isSome && !b.reading && b.readPos < low then
      s.modBinding c fun b => { b with readPos := low, readAttempts := if b.source.isPeer then b.readAttempts else 0 }
    else s
  | _, _ => s

/-- Whether a binding has check reads left to make before its next READ (R97, R98). -/
def Binding.checking (b : Binding) : Bool := b.source.isPeer && b.peerNext < b.readPos

/-- Whether a binding holds the buffer taken for its read position (R72, R74). -/
def Binding.bufferReady (b : Binding) : Bool := b.held.any fun h => h.extent == b.readPos && h.phase == .reading

/-- The READ of one extent (R74, R80, R97). -/
def readBody (handle : Word32) (r : ClipRecord) (k : Nat) : AskBody :=
  .read handle (k * Config.extentBytes) (extentLength r.size k)

/-- A check read, or the READ of the extent whose buffer is held, is asked when it may be (R63, R74, R77, R97, R98). -/
def State.pumpRead (s : State) (c : ChannelId) : State :=
  match s.binding? c, s.boundClip? c with
  | some b, some r =>
    match b.handle with
    | none => s
    | some h =>
      if !s.engineRuns || b.reading || b.lanes.isEmpty || s.draining b.source.endpoint then s
      else if b.checking then
        (s.modBinding c fun b => { b with reading := true }).ask
          ⟨b.source.endpoint, .checkRead c, readBody h r b.peerNext⟩
      else if b.bufferReady then
        (s.modBinding c fun b => { b with reading := true }).ask
          ⟨b.source.endpoint, .readSource c, readBody h r b.readPos⟩
      else s
  | _, _ => s

/-- The asks of a channel's data source (R16: before those of its lanes). -/
def State.pumpSource (s : State) (c : ChannelId) : State := ((s.pumpOpen c).raiseReadPos c).pumpRead c

/-! ### The lanes' asks (R70, R78, R80, R84, R98) -/

/-- The mode of a lane's CREATE (R70). -/
def createMode (verified : Nat) : CreateMode := if verified = 0 then .new else .resume

/-- Whether a lane may ask its CREATE (R70, R90). -/
def State.mayCreate (s : State) (v : LaneView) : Bool :=
  v.bind.handle.isSome && v.lane.handle.isNone && !v.lane.creating && !s.draining v.record.endpoint

/-- A lane's CREATE is asked when it may be (R70). -/
def State.pumpCreate (s : State) (c : ChannelId) (d : Nat) : State :=
  match s.laneView? c d with
  | none => s
  | some v =>
    if s.mayCreate v then
      let root := ((s.job? v.bind.job).bind fun j => j.dests[d]?).elim [] (·.root)
      (s.modLane c d fun l => { l with creating := true }).ask
        ⟨v.record.endpoint, .create c d, .create (createMode v.record.verified) root v.clip.name⟩
    else s

/-- Whether a lane may verify its next extent (R80). -/
def LaneView.mayVerify (v : LaneView) : Bool :=
  let k := v.record.verified
  k < v.clip.extents && k < v.lane.writePos && v.lane.rewrite != some k && v.lane.verify.isNone &&
    v.lane.heldFailure.map (·.1) != some k

/-- A lane's verify READ is asked when it may be (R80). -/
def State.pumpVerify (s : State) (c : ChannelId) (d : Nat) : State :=
  match s.laneView? c d with
  | none => s
  | some v =>
    match v.lane.handle with
    | none => s
    | some h =>
      if v.mayVerify && !s.draining v.record.endpoint then
        let k := v.record.verified
        (s.modLane c d fun l => { l with verify := some k }).ask
          ⟨v.record.endpoint, .verify c d k, readBody h v.clip k⟩
      else s

/-- The bytes of a held extent in phase READ. -/
def Binding.dataOf (b : Binding) (k : Nat) : Option (List Byte) :=
  b.held.findSome? fun h =>
    if h.extent = k then
      match h.phase with
      | .reading => none
      | .read _ data => some data
    else none

/-- The extent a lane writes next: its pending rewrite, or without a held failure the extent at its write position, once
held in phase READ (R78). -/
def LaneView.writeChoice (v : LaneView) : Option (Nat × List Byte) :=
  match v.lane.rewrite with
  | some k => (v.bind.dataOf k).map fun data => (k, data)
  | none =>
    if v.lane.heldFailure.isNone && v.lane.writePos < v.clip.extents then
      (v.bind.dataOf v.lane.writePos).map fun data => (v.lane.writePos, data)
    else none

/-- A lane's WRITE is asked when it may be (R78). -/
def State.pumpWrite (s : State) (c : ChannelId) (d : Nat) : State :=
  match s.laneView? c d with
  | none => s
  | some v =>
    match v.lane.handle, v.writeChoice with
    | some h, some (k, data) =>
      if v.lane.write.isNone && !s.draining v.record.endpoint then
        (s.modLane c d fun l => { l with write := some k }).ask
          ⟨v.record.endpoint, .write c d k, .write h (k * Config.extentBytes) data⟩
      else s
    | _, _ => s

/-- Whether a lane has nothing left to copy: its verified prefix is the extent count, and in a binding from a peer every
extent has been fed to the peer register (R84, R98). -/
def LaneView.allVerified (v : LaneView) : Bool :=
  v.record.verified == v.clip.extents && (!v.bind.source.isPeer || v.bind.peerNext == v.clip.extents)

/-- Whether a lane may close: it has nothing left to copy, and neither a WRITE nor its CLOSE is outstanding (R84). -/
def LaneView.mayClose (v : LaneView) : Bool := v.allVerified && v.lane.write.isNone && !v.lane.closing

/-- The whole-file check of a peer-seeded lane (R98): the peer register against the clip's file CRC. -/
def LaneView.wholeFileGood (v : LaneView) : Bool :=
  match v.bind.source with
  | .card _ => true
  | .peer _ _ => v.clip.fileCrc == some (crc64Final v.bind.peerRegister)

/-- The whole-file check of a lane is made as soon as it has nothing left to copy, also while its endpoint is DRAINING,
which holds back asks alone (R90); a lane that fails it ends FAILED with PEER_MISMATCH, without a CLOSE (R98).
DEDUCED, log entry 26. -/
def State.checkWholeFile (s : State) (c : ChannelId) (d : Nat) : State :=
  match s.laneView? c d with
  | none => s
  | some v =>
    if v.allVerified && !v.wholeFileGood then
      s.closeLane c d (DestRecord.fail .peerMismatch)
        (some (copyFiling .peerMismatch v.bind.clip v.record.endpoint
          (v.bind.source.endpoint.port.val * 256 + v.bind.source.endpoint.id)))
    else s

/-- A lane's CLOSE is asked when it may be (R84). -/
def State.pumpClose (s : State) (c : ChannelId) (d : Nat) : State :=
  match s.laneView? c d with
  | none => s
  | some v =>
    match v.lane.handle with
    | none => s
    | some h =>
      if v.mayClose && !s.draining v.record.endpoint then
        (s.modLane c d fun l => { l with closing := true }).ask
          ⟨v.record.endpoint, .closeLane c d, .close h⟩
      else s

/-- The work of one lane: its whole-file check, then its asks, CREATE, verify READ, WRITE, CLOSE. -/
def State.pumpLane (s : State) (c : ChannelId) (d : Nat) : State :=
  ((((s.checkWholeFile c d).pumpCreate c d).pumpVerify c d).pumpWrite c d).pumpClose c d

/-! ### The CLOSE of a CLOSING channel (R56, R90) -/

/-- The CLOSE of a CLOSING channel is asked when it may be; a loss of the ask makes the channel FREE (R56). -/
def State.pumpClosing (s : State) (c : ChannelId) : State :=
  match s.channel c with
  | .closing x =>
    if x.asked || s.draining x.endpoint then s
    else
      (s.setChannel c (.closing { x with asked := true })).ask ⟨x.endpoint, .closeSource c, .close x.handle⟩
  | .free | .bound _ => s

/-- Every ask a channel can make now, in the order of R16: its data source's, then its lanes' in destination order. What
its lanes lost may let its data source go on. -/
def State.pumpChannel (s : State) (c : ChannelId) : State :=
  let s := s.pumpSource c
  let lanes := ((s.binding? c).elim [] (·.lanes)).map (·.dest)
  let s := lanes.foldl (fun s d => s.pumpLane c d) s
  (s.pumpSource c).pumpClosing c

/-! ### IDENTIFY (R51) -/

/-- One IDENTIFY attempt is asked of an IDENTIFYING job's source if none is outstanding (R51, R63). -/
def State.pumpIdentifyOnce (n : Nat) (s : State) : State :=
  match s.job? n with
  | none => s
  | some j =>
    let x := s.identifyOf n
    if j.state = .identifying && !x.asked && s.engineRuns && !s.draining j.source then
      (s.setIdentify n ⟨x.attempts + 1, true⟩).ask ⟨j.source, .identify n, .identify⟩
    else s

/-- The attempts an IDENTIFYING job asks now: up to three, since an attempt may fail at once (R51). -/
def State.pumpIdentify (s : State) (n : Nat) : State := Nat.repeat (State.pumpIdentifyOnce n) Config.attemptLimit s

/-! ### The engine state (R62) -/

/-- Whether a pause reason is present. -/
def OffloadEngine.paused (e : OffloadEngine) : Bool := e.pauseSupply || e.pauseOperator

/-- QUIESCED without an ask outstanding, QUIESCING with one (R62). -/
def quiescence (asks : Nat) : EngineState := if asks = 0 then .quiesced else .quiescing

/-- The resume delay in microseconds: 50 ms for LONG, 1 ms for SHORT (R62). -/
def resumeDelayUs (o : Options) : Nat := if o.resumeLong then 50000 else 1000

/-- The engine state after a change of the pause reasons or of the asks outstanding (R62). -/
def State.refreshEngine (s : State) : State :=
  let e := s.offload
  match e.state, e.paused with
  | .running, true => { s with offload := { e with state := quiescence s.askCount } }
  | .resuming, true => { s with offload := { e with state := quiescence s.askCount, resumeTimer := none } }
  | .quiescing, true | .quiesced, true => { s with offload := { e with state := quiescence s.askCount } }
  | .quiescing, false | .quiesced, false =>
    { s with offload := { e with state := .resuming, resumeTimer := some (s.later (resumeDelayUs s.supply.options)) } }
  | .running, false | .resuming, false => s

/-! ### The extent buffer pool (R72) -/

/-- The extent buffers a channel holds: one for each entry of its held list (R72). -/
def Channel.buffers : Channel → Nat
  | .bound b => b.held.length
  | .free | .closing _ => 0

/-- The extent buffers held over all channels (R72). -/
def State.buffersHeld (s : State) : Nat := (s.offload.channels.toList.map Channel.buffers).sum

/-- Whether a binding of a clip needs a buffer (R72). A peer's handle counts as present once the check reads are done
(R97). -/
def Binding.wantsBuffer (b : Binding) (r : ClipRecord) : Bool :=
  b.readPos < r.extents && !b.lanes.isEmpty && r.lowestPrefix.any (fun v => v ≤ b.readPos) && !b.reading &&
    !b.held.any (fun h => h.extent == b.readPos) && b.held.length < Config.heldLimit && b.handle.isSome && !b.checking

/-- Whether a channel needs a buffer (R72). -/
def State.needsBuffer (s : State) (c : ChannelId) : Bool :=
  match s.binding? c, s.boundClip? c with
  | some b, some r => s.engineRuns && b.wantsBuffer r
  | _, _ => false

/-- The channels that need a buffer, in the order they came to need it, and in ascending order where they did at the same
moment (R72; DEDUCED, log entry 12). -/
def State.refreshPool (s : State) : State :=
  let waiting := s.offload.bufferWaiting
  let old := waiting.filter s.needsBuffer
  let new := allChannels.filter fun c => s.needsBuffer c && !waiting.contains c
  { s with offload := { s.offload with bufferWaiting := old ++ new } }

/-- The buffer given to a channel: a held entry for its read position, in phase READING (R72). -/
def Binding.takeBuffer (b : Binding) (r : ClipRecord) : Binding :=
  { b with held := b.held ++ [⟨b.readPos, extentLength r.size b.readPos, .reading⟩] }

/-- Everything the engine can ask now (R51, R62, R63, R68, R72, R74, R78, R80, R84, R90): the closing part of every step
that touches it. DESIGN CHOICE, log entry 24. -/
def State.engineSettle (s : State) : State :=
  let s := s.refreshEngine
  let s := (List.range 16).foldl (fun s n => s.pumpIdentify n) s
  let s := allChannels.foldl (fun s c => s.pumpChannel c) s
  s.refreshEngine.refreshPool

/-! ### Activation (R49, R50) -/

/-- Whether a job stands on a source endpoint in one of some states. -/
def JobRecord.standsOn (j : JobRecord) (e : EpName) (p : JobState → Bool) : Bool := j.source == e && p j.state

/-- Whether a job state is IDENTIFYING or ACTIVE (R49). -/
def JobState.busy : JobState → Bool
  | .identifying | .active => true
  | .queued | .suspended | .done | .doneIncomplete | .cancelled => false

/-- The candidate of a source endpoint: the QUEUED job on it nearest the head of the admission list (R49). -/
def State.candidate (s : State) (e : EpName) : Option Nat :=
  s.table.admission.find? fun n =>
    match s.job? n with
    | none => false
    | some j => j.standsOn e (· == .queued)

/-- Whether some job on a source endpoint is IDENTIFYING or ACTIVE (R49). -/
def State.sourceBusy (s : State) (e : EpName) : Bool :=
  s.table.jobs.toList.any fun x =>
    match x with
    | none => false
    | some j => j.standsOn e JobState.busy

/-- Whether an endpoint is ONLINE. -/
def State.online (s : State) (e : EpName) : Bool :=
  match s.endpoint? e with
  | none => false
  | some x => x.state == .online

/-- Whether a job may activate now (R49). -/
def State.mayActivate (s : State) (n : Nat) (j : JobRecord) : Bool :=
  s.candidate j.source == some n && !s.sourceBusy j.source && s.engineRuns &&
    (s.online j.source || (j.reseed && !s.needsSource j))

/-- The orphaned records of a clip become FAILED with NO_SOURCE, one fault for each (R50 step 1). -/
def State.tidyOrphans (s : State) (clip : Nat) : State :=
  match s.clip? clip with
  | none => s
  | some c =>
    if c.orphaned then
      (c.placesIn .pending).foldl (fun s d =>
        match s.dest? clip d with
        | none => s
        | some r => (s.modDest clip d (DestRecord.fail .noSource)).file (noSourceFiling clip r.endpoint)) s
    else s

/-- An idle clip settles (R50 step 2). -/
def State.tidyIdle (s : State) (clip : Nat) : State :=
  if s.clipIs clip (·.idle) then s.settleRecord clip else s

/-- A job activates: its clips are tidied, and it settles or becomes IDENTIFYING (R50). Several NO_SOURCE faults are
filed in clip list order, then destination order: DESIGN CHOICE, log entry 37. -/
def State.activate (s : State) (n : Nat) (j : JobRecord) : State :=
  let s := j.clips.foldl (fun s k => s.tidyOrphans k) s
  let s := j.clips.foldl (fun s k => s.tidyIdle k) s
  if s.hasWork j then (s.modJob n fun j => { j with state := .identifying }).setIdentify n ⟨0, false⟩
  else s.settleJob n

/-! ### Binding (R54, R55, R96) -/

/-- The lowest-numbered FREE channel (R54). -/
def State.freeChannel (s : State) : Option ChannelId :=
  allChannels.find? fun c =>
    match s.channel c with
    | .free => true
    | .bound _ | .closing _ => false

/-- The first eligible clip of a job's clip list (R54). -/
def State.firstEligible (s : State) (j : JobRecord) : Option Nat := j.clips.find? s.eligible

/-- The clip the arbiter would bind for a job, if the job passes the three tests (R54). -/
def State.jobChoice (s : State) (n : Nat) : Option (Nat × Nat) :=
  match s.job? n with
  | none => none
  | some j =>
    if j.state = .active && (s.channelsOf n).length < j.limit then (s.firstEligible j).map fun k => (n, k) else none

/-- The job numbers in circular order after the last job served (R54). -/
def circularFrom (last : Nat) : List Nat := (List.range 16).map fun i => (last + 1 + i) % 16

/-- The arbiter's choice: a FREE channel, a job and its clip (R54). -/
def State.arbiterChoice (s : State) : Option (ChannelId × Nat × Nat) :=
  if s.engineRuns then
    match s.freeChannel, (circularFrom s.offload.lastJob).findSome? s.jobChoice with
    | some c, some (n, k) => some (c, n, k)
    | _, _ => none
  else none

/-- Whether the endpoint of a VERIFIED record can serve as a peer: ONLINE, on a port with the DEST role (R96). -/
def State.peerUsable (s : State) (r : DestRecord) : Bool :=
  r.state == .verified && s.online r.endpoint && hasRole (s.port r.endpoint.port).roles .dest

/-- The peer of a clip: the usable VERIFIED record with the lowest port, then the lowest id (R96). -/
def State.choosePeer (s : State) (c : ClipRecord) : Option DataSource :=
  let usable := c.dests.zipIdx.filter fun ri => s.peerUsable ri.1
  match usable with
  | [] => none
  | x :: xs =>
    let best := xs.foldl (fun b y => if y.1.endpoint.key < b.1.endpoint.key then y else b) x
    some (.peer best.1.endpoint best.2)

/-- The data source a binding takes, if there is a usable one (R96). -/
def State.chooseSource (s : State) (j : JobRecord) (c : ClipRecord) : Option DataSource :=
  if j.standing = some .confirmed then some (.card j.source)
  else if c.fileCrc.isSome then s.choosePeer c
  else none

/-- A lane at binding: its write position at its record's verified prefix, all else absent (R67). -/
def Lane.start (d verified : Nat) : Lane := ⟨d, none, verified, none, none, none, none, false, false⟩

/-- The lanes of a binding: one for each record made IN_PROGRESS, in destination order (R67). -/
def ClipRecord.startLanes (c : ClipRecord) : List Lane :=
  (c.dests.zipIdx.filter fun ri => ri.1.state == .inProgress).map fun ri => Lane.start ri.2 ri.1.verified

/-- A new binding (R55, R67). The read position, which the manual leaves unset until the opening ask is answered, is 0
until then: DESIGN CHOICE, log entry 39. -/
def Binding.start (job clip : Nat) (source : DataSource) (lanes : List Lane) : Binding where
  job := job
  clip := clip
  source := source
  handle := none
  openAttempts := 0
  opening := false
  readPos := 0
  readAttempts := 0
  reading := false
  held := []
  lanes := lanes
  peerRegister := crc64Start
  peerNext := 0
  notes := []

/-- A clip at binding: COPYING, its PENDING records IN_PROGRESS (R55). -/
def ClipRecord.bind (c : ClipRecord) : ClipRecord :=
  { c.mapIn .pending (fun r => { r with state := .inProgress }) with copyState := .copying }

/-- A bound clip without usable data source: every IN_PROGRESS record becomes FAILED with NO_SOURCE, one fault for each,
and the clip settles (R96). The faults are filed in destination order: DESIGN CHOICE, log entry 37. -/
def State.failNoSource (s : State) (ch : ChannelId) (clip : Nat) (c : ClipRecord) : State :=
  let s := (c.placesIn .inProgress).foldl (fun s d =>
    match s.dest? clip d with
    | none => s
    | some r => (s.modDest clip d (DestRecord.fail .noSource)).file (noSourceFiling clip r.endpoint)) s
  s.checkSettle ch

/-- A clip is bound to a channel (R54, R55, R96). -/
def State.bindClip (s : State) (ch : ChannelId) (n clip : Nat) : State :=
  match s.job? n, s.clip? clip with
  | some j, some c0 =>
    let c := c0.bind
    let s := s.setClip clip (some c)
    let s := { s with offload := { s.offload with lastJob := n } }
    match s.chooseSource j c with
    | some source => s.setChannel ch (.bound (Binding.start n clip source c.startLanes))
    | none => (s.setChannel ch (.bound (Binding.start n clip (.card j.source) []))).failNoSource ch clip c
  | _, _ => s

end Sys2Proof.Machine
end

