-- ==== Sys2Proof/Machine/Handover.lean ====
section
/-!
DEFINITION. Destination handover (chapter 6): deferral of records at the end of a drain and at a port's loss (R91, R93),
the end of a drain and its reply (R91, R92, R24), returns (R88, R95), and the suspension and cancellation of a job (R58,
R60, R64).
-/

namespace Sys2Proof.Machine

/-! ### Deferral (R91, R93) -/

/-- A record a deferral reaches: the clip, its place in the clip, and whether it was IN_PROGRESS. -/
structure Reached where
  clip : Nat
  place : Nat
  record : DestRecord
  deriving DecidableEq, Repr

/-- Whether a record is PENDING or IN_PROGRESS at an endpoint of a set (R91, R93). -/
def DestRecord.reached (p : EpName → Bool) (r : DestRecord) : Bool :=
  (r.state == .pending || r.state == .inProgress) && p r.endpoint

/-- The records of a clip that a deferral reaches. -/
def State.reachedIn (s : State) (p : EpName → Bool) (clip : Nat) : List Reached :=
  match s.clip? clip with
  | none => []
  | some c => (c.dests.zipIdx.filter fun ri => ri.1.reached p).map fun ri => ⟨clip, ri.2, ri.1⟩

/-- The records a deferral reaches: those of every job that is not CANCELLED (R91 step 2, R93), by ascending job number,
then clip list order, then destination order, in which their faults are filed: DESIGN CHOICE, log entry 37. -/
def State.reached (s : State) (p : EpName → Bool) : List Reached :=
  (s.table.jobs.toList.filterMap id).flatMap fun j =>
    if j.state = .cancelled then [] else j.clips.flatMap (s.reachedIn p)

/-- The end of the lane of a record that was IN_PROGRESS; a loss files ENDPOINT_LOST for it (R91 step 3, R93). -/
def State.deferLane (s : State) (reason : Option FaultKind) (x : Reached) : State :=
  if x.record.state = .inProgress then
    let s := match reason with
      | none => s
      | some k => s.file (copyFiling k x.clip x.record.endpoint x.record.verified)
    match s.channelOf x.clip with
    | none => s
    | some c => s.endLane c x.place
  else s

/-- An unbound WAITING clip of a job that was ACTIVE settles when its last PENDING record has been deferred, and its job
with it (R56, R91 step 4). `active` lists the jobs that were ACTIVE when the records were deferred (DEDUCED, log entry 15). -/
def State.settleUnbound (s : State) (active : List Nat) (clip : Nat) : State :=
  match s.clip? clip with
  | none => s
  | some c =>
    if !s.isBound clip && c.idle && active.contains c.job then (s.settleRecord clip).trySettleJob c.job else s

/-- The numbers of the ACTIVE jobs. -/
def State.activeJobs (s : State) : List Nat :=
  (List.range 16).filter fun n =>
    match s.job? n with
    | none => false
    | some j => j.state == .active

/-- The records at some endpoints are deferred, and settlements follow (R91 steps 2 to 4, R93). -/
def State.deferRecords (s : State) (p : EpName → Bool) (reason : Option FaultKind) : State :=
  let xs := s.reached p
  let active := s.activeJobs
  let s := xs.foldl (fun s x => s.modDest x.clip x.place (DestRecord.defer reason)) s
  let s := xs.foldl (fun s x => s.deferLane reason x) s
  xs.foldl (fun s x => if x.record.state = .pending then s.settleUnbound active x.clip else s) s

/-! ### The end of a drain (R24, R91, R92) -/

/-- The drain results: RELEASED 0, LINK_LOST 1 (R91, R92). -/
inductive DrainResult where
  | released | linkLost
  deriving DecidableEq, Repr

/-- A drain result's code. -/
def DrainResult.code : DrainResult → Nat
  | .released => 0
  | .linkLost => 1

/-- The deferred DEST RELEASE reply of an endpoint is formed and handed over, and its entry leaves the list (R24, R91,
R92). -/
def State.answerDrain (s : State) (e : EpName) (r : DrainResult) (records : Nat) : State :=
  match s.control.deferred.find? fun x => x.endpoint == e with
  | none => s
  | some x =>
    let s := { s with control := { s.control with deferred := s.control.deferred.filter fun y => y != x } }
    s.reply x.port x.tag x.number .done (byteOf r.code :: beBytes 2 records)

/-- Whether a channel is bound with a peer as its data source. -/
def State.readsPeer (s : State) (e : EpName) (c : ChannelId) : Bool :=
  match s.binding? c with
  | none => false
  | some b => b.source.isPeer && b.source.endpoint == e

/-- The drain of an endpoint completes (R91); a channel that reads from it as a peer is unbound without a fault (R99),
several by ascending number: DESIGN CHOICE, log entry 37. -/
def State.completeDrain (s : State) (e : EpName) : State :=
  let count := (s.reached (· == e)).length
  let s := s.setEndpointState e .released
  let s := s.deferRecords (· == e) none
  let s := (allChannels.filter (s.readsPeer e)).foldl (fun s c => s.unbind c) s
  s.answerDrain e .released count

/-- Whether the drain of an endpoint can complete: it is DRAINING and no ask to it is outstanding or waiting (R90). -/
def State.drained (s : State) (e : EpName) : Bool := s.draining e && s.asksTo e == 0

/-! ### Returns (R88, R95) -/

/-- A return noted by the channel a clip is bound to, once for each endpoint (R88). -/
def Binding.note (b : Binding) (e : EpName) : Binding :=
  if b.notes.contains e then b else { b with notes := b.notes ++ [e] }

/-- A return of an endpoint reaches one clip: noted while it is bound, else taken (R88, R95). -/
def State.returnTo (s : State) (e : EpName) (clip : Nat) : State :=
  match s.channelOf clip with
  | none => s.returnClip clip e
  | some c => if s.clipIs clip fun r => (r.deferredAt e).isSome then s.modBinding c (·.note e) else s

/-- The clips of every job that is not CANCELLED with a DEFERRED record that names an endpoint (R95).
DEDUCED, log entry 25. -/
def State.returning (s : State) (e : EpName) : List Nat :=
  (s.table.jobs.toList.filterMap id).flatMap fun j =>
    if j.state = .cancelled then [] else j.clips.filter fun n => s.clipIs n fun r => (r.deferredAt e).isSome

/-- A return of an endpoint is taken (R95). Its records are handled by ascending job number, then clip list: DESIGN
CHOICE, log entry 37. -/
def State.takeReturn (s : State) (e : EpName) : State := (s.returning e).foldl (fun s n => s.returnTo e n) s

/-- The number of jobs that are DONE or DONE_INCOMPLETE and QUEUED after a return (R94). -/
def requeued (before after : State) : Nat :=
  ((List.range 16).filter fun n =>
    match before.job? n, after.job? n with
    | some a, some b => (a.state == .done || a.state == .doneIncomplete) && b.state == .queued
    | _, _ => false).length

/-! ### Suspension and cancellation of a job (R60, R64) -/

/-- A job is suspended by the operator and its channels unbound (R57, R64). -/
def State.suspendJob (s : State) (n : Nat) : State :=
  let channels := s.channelsOf n
  channels.foldl (fun s c => s.unbind c) (s.suspendRecord n .operator)

/-- A clip's final copy state at a cancellation (R60). -/
def ClipRecord.cancel (c : ClipRecord) : ClipRecord :=
  let c := c.mapIn .inProgress DestRecord.pend
  { c with
    copyState :=
      if c.allVerified then .complete
      else if c.anyIn .verified then .partialCopy
      else if c.copyState = .failed then .failed
      else .cancelled }

/-- A channel of a cancelled job becomes FREE, its asks withdrawn and its notes discarded (R60, R88). -/
def State.dropChannel (s : State) (c : ChannelId) : State :=
  (s.withdrawAsks (Purpose.ofChannel c)).setChannel c .free

/-- A job is cancelled (R60). -/
def State.cancelJob (s : State) (n : Nat) (j : JobRecord) : State :=
  let channels := s.channelsOf n
  let s := s.modJob n fun j => { j with state := .cancelled, suspend := none, standing := none, reseed := false }
  let s := (s.withdrawAsks (Purpose.ofIdentify n)).setIdentify n ⟨0, false⟩
  let s := channels.foldl (fun s c => s.dropChannel c) s
  j.clips.foldl (fun s k => s.modClip k (·.cancel)) s

end Sys2Proof.Machine
end

