-- ==== Sys2Proof/Machine/Grade.lean ====
section
/-!
DEFINITION. The look computation (chapter 8): concealment, input curves, matrix, lattice, output encoding, bypass and
luma, on exact integers. Every divisor is positive, so Lean's integer division is the manual's floor division.
-/

namespace Sys2Proof.Machine

/-! ### Channels -/

/-- A function applied to each channel of a pixel. -/
def Rgb.map (f : Nat → Nat) (x : Rgb) : Rgb := ⟨f x.r, f x.g, f x.b⟩

/-- A function of two codes applied channel by channel. -/
def Rgb.map2 (f : Nat → Nat → Nat) (x y : Rgb) : Rgb := ⟨f x.r y.r, f x.g y.g, f x.b y.b⟩

/-- Three working values on the internal scale (R115). -/
structure Working where
  r : Int
  g : Int
  b : Int
  deriving DecidableEq, Repr

/-! ### Stage 0: concealment (R117) -/

/-- The replacement code of a concealed pixel, from its neighbours as received (R117). -/
def concealed (left right : Option Rgb) (received : Rgb) : Rgb :=
  match left, right with
  | none, none => received
  | none, some r => r
  | some l, none => l
  | some l, some r => Rgb.map2 (fun a b => (a + b + 1) / 2) l r

/-- A line with the pixels of some columns concealed; `col` is the first pixel's column and `left` the code received
before it (R117). -/
def concealFrom (bad : Nat → Bool) : Nat → Option Rgb → List Rgb → List Rgb
  | _, _, [] => []
  | col, left, x :: rest =>
    (if bad col then concealed left rest.head? x else x) :: concealFrom bad (col + 1) (some x) rest

/-- Stage 0 for one line of a frame, with the stream's concealment set (R116, R117). -/
def concealLine (set : List (Nat × Nat)) (line : Nat) (codes : List Rgb) : List Rgb :=
  concealFrom (fun col => set.contains (line, col)) 0 none codes

/-! ### Stage 1: input curves (R118) -/

/-- A table entry by its index; 0 for one never written, which no active bank has (R100). -/
def entryAt (table : List (Nat × Int)) (i : Nat) : Int := (table.lookup i).getD 0

/-- A code carried through its curve (R118). -/
def curveValue (table : List (Nat × Int)) (c : Nat) : Int :=
  let i := c / 16
  let f : Int := (c % 16 : Nat)
  (entryAt table i * (16 - f) + entryAt table (i + 1) * f + 8) / 16

/-! ### Stage 2: the matrix (R119) -/

/-- A value clamped to the internal scale. -/
def clampUnit (x : Int) : Int := max 0 (min x 65536)

/-- Output channel `k` of the matrix (R119). -/
def matrixValue (table : List (Nat × Int)) (k : Nat) (v : Working) : Int :=
  let s := entryAt table (3 * k) * v.r + entryAt table (3 * k + 1) * v.g + entryAt table (3 * k + 2) * v.b
  clampUnit ((s + 2048) / 4096 + entryAt table (9 + k))

/-! ### Stage 3: the lattice (R120 to R122) -/

/-- The cell index of a value along an axis (R120). -/
def latticeCell (n : Nat) (v : Int) : Int := min (v * (n - 1) / 65536) (n - 2)

/-- The fraction of a value along an axis (R120). -/
def latticeFrac (n : Nat) (v : Int) : Int := v * (n - 1) - latticeCell n v * 65536

/-- A corner of a cell, its offsets along red, green and blue, with its weight (R121). -/
structure WeightedCorner where
  dr : Nat
  dg : Nat
  db : Nat
  weight : Int
  deriving DecidableEq, Repr

/-- The tetrahedron of three fractions: its four corners and their weights (R121, the table's six cases). -/
def tetrahedron (fx fy fz : Int) : List WeightedCorner :=
  if fx ≥ fy ∧ fy ≥ fz then
    [⟨0, 0, 0, 65536 - fx⟩, ⟨1, 0, 0, fx - fy⟩, ⟨1, 1, 0, fy - fz⟩, ⟨1, 1, 1, fz⟩]
  else if fx ≥ fz ∧ fz > fy then
    [⟨0, 0, 0, 65536 - fx⟩, ⟨1, 0, 0, fx - fz⟩, ⟨1, 0, 1, fz - fy⟩, ⟨1, 1, 1, fy⟩]
  else if fz > fx ∧ fx ≥ fy then
    [⟨0, 0, 0, 65536 - fz⟩, ⟨0, 0, 1, fz - fx⟩, ⟨1, 0, 1, fx - fy⟩, ⟨1, 1, 1, fy⟩]
  else if fy > fx ∧ fx ≥ fz then
    [⟨0, 0, 0, 65536 - fy⟩, ⟨0, 1, 0, fy - fx⟩, ⟨1, 1, 0, fx - fz⟩, ⟨1, 1, 1, fz⟩]
  else if fy ≥ fz ∧ fz > fx then
    [⟨0, 0, 0, 65536 - fy⟩, ⟨0, 1, 0, fy - fz⟩, ⟨0, 1, 1, fz - fx⟩, ⟨1, 1, 1, fx⟩]
  else
    [⟨0, 0, 0, 65536 - fz⟩, ⟨0, 0, 1, fz - fy⟩, ⟨0, 1, 1, fy - fx⟩, ⟨1, 1, 1, fx⟩]

/-- The point number of a corner of the cell at (x, y, z) (R100, R121). -/
def cornerPoint (n : Nat) (x y z : Int) (c : WeightedCorner) : Nat :=
  (x + c.dr + n * (y + c.dg) + n * n * (z + c.db)).toNat

/-- Component `k` of the lattice output from weighted corners (R122). -/
def latticeMix (table : List (Nat × Int)) (n k : Nat) (x y z : Int) (corners : List WeightedCorner) : Int :=
  ((corners.map fun c => c.weight * entryAt table (3 * cornerPoint n x y z c + k)).sum + 32768) / 65536

/-- Stage 3 (R120 to R122). -/
def latticeValue (table : List (Nat × Int)) (n : Nat) (v : Working) : Working :=
  let x := latticeCell n v.r
  let y := latticeCell n v.g
  let z := latticeCell n v.b
  let corners := tetrahedron (latticeFrac n v.r) (latticeFrac n v.g) (latticeFrac n v.b)
  ⟨latticeMix table n 0 x y z corners, latticeMix table n 1 x y z corners, latticeMix table n 2 x y z corners⟩

/-! ### Stage 4: output encoding (R123) -/

/-- The output code of a working value (R123). -/
def Encoding.encode (e : Encoding) (v : Int) : Nat :=
  match e with
  | .full10 => (min ((v * 1023 + 32768) / 65536) 1023).toNat
  | .narrow10 => (64 + (v * 876 + 32768) / 65536).toNat
  | .full12 => (min ((v * 4095 + 32768) / 65536) 4095).toNat

/-- The black code of an encoding (R123). -/
def Encoding.blackCode : Encoding → Nat
  | .full10 => 0
  | .narrow10 => 64
  | .full12 => 0

/-- A line of output black (R123). -/
def blackLine (e : Encoding) (width : Nat) : List Rgb :=
  List.replicate width ⟨e.blackCode, e.blackCode, e.blackCode⟩

/-! ### The chain -/

/-- The working value of a code in bypass (R124). -/
def bypassValue (c : Nat) : Int := (((c * 65536 + 2047) / 4095 : Nat) : Int)

/-- Stages 1 to 3 with a bank's tables and lattice size (R118, R119, R122). -/
def Bank.grade (b : Bank) (c : Rgb) : Working :=
  let v : Working := ⟨curveValue b.tables[0] c.r, curveValue b.tables[1] c.g, curveValue b.tables[2] c.b⟩
  let m : Working := ⟨matrixValue b.tables[3] 0 v, matrixValue b.tables[3] 1 v, matrixValue b.tables[3] 2 v⟩
  latticeValue b.tables[4] (b.size.getD 17) m

/-- The working values of a pixel after concealment: graded with a bank, or in bypass (R115, R124). -/
def workingOf (bank : Option Bank) (c : Rgb) : Working :=
  match bank with
  | none => ⟨bypassValue c.r, bypassValue c.g, bypassValue c.b⟩
  | some b => b.grade c

/-- The output codes of a pixel after concealment (R115). -/
def gradePixel (bank : Option Bank) (e : Encoding) (c : Rgb) : Rgb :=
  let v := workingOf bank c
  ⟨e.encode v.r, e.encode v.g, e.encode v.b⟩

/-- The output codes of one line (R115): the received codes concealed, graded and encoded. -/
def gradeLine (bank : Option Bank) (e : Encoding) (set : List (Nat × Nat)) (line : Nat) (codes : List Rgb) : List Rgb :=
  (concealLine set line codes).map (gradePixel bank e)

/-- The luma of a pixel's three codes (R126). -/
def luma (c : Rgb) : Nat := (1741 * c.r + 5859 * c.g + 592 * c.b + 4096) / 8192

end Sys2Proof.Machine
end

