-- ==== Sys2Proof/Machine/Spot.lean ====
section
/-!
DEFINITION. The fault spotter's work on pictures (chapter 10): frame measures, persistence filters, the hot-pixel
detector and its candidate table, and the defect map.
-/

namespace Sys2Proof.Machine

/-! ### The defect map (R154) -/

/-- The place of a site in the map's order: camera tag, then line, then column (R154). -/
def DefectSite.key (d : DefectSite) : Nat := (d.tag * 4096 + d.line) * 4096 + d.column

/-- Insertion in the sorted place (R155). -/
def insertSite (d : DefectSite) (map : List DefectSite) : List DefectSite :=
  map.filter (fun x => x.key < d.key) ++ d :: map.filter (fun x => d.key < x.key)

/-- Removal; the map closes up in order (R156). -/
def removeSite (d : DefectSite) (map : List DefectSite) : List DefectSite :=
  map.filter fun x => x != d

/-- The positions of a camera tag's entries: the concealment set of a clip of that tag (R116). -/
def sitesOf (tag : Nat) (map : List DefectSite) : List (Nat × Nat) :=
  (map.filter fun x => x.tag == tag).map fun x => (x.line, x.column)

/-- The camera tag of a stream's current clip, read from its record (R149, R155, R157). -/
def State.currentTag (s : State) (st : StreamId) : Option Nat :=
  match (s.stream st).currentClip with
  | none => none
  | some n => (s.clip? n).map (·.cameraTag)

/-- The candidates of a table but for one coordinate. -/
def dropCandidate (line column : Nat) (cs : List Candidate) : List Candidate :=
  cs.filter fun c => !(c.line == line && c.column == column)

/-- A site goes into the map: it is inserted, and the matching candidate leaves the table of every stream whose current
clip has its camera tag (R155, R157). -/
def State.mapSite (s : State) (d : DefectSite) : State :=
  let s := { s with spotter := { s.spotter with defectMap := insertSite d s.spotter.defectMap } }
  allStreams.foldl (fun s st =>
    if s.currentTag st = some d.tag then
      s.modSpot st fun x => { x with candidates := dropCandidate d.line d.column x.candidates }
    else s) s

/-! ### Candidates (R150) -/

/-- The order of a candidate table: line, then column (R159). -/
def Candidate.key (c : Candidate) : Nat := c.line * 4096 + c.column

/-- A candidate put in its sorted place. -/
def insertCandidate (c : Candidate) (cs : List Candidate) : List Candidate :=
  cs.filter (fun x => x.key < c.key) ++ c :: cs.filter (fun x => c.key < x.key)

/-- How far a candidate's last frame lies behind a frame (R150). -/
def Candidate.behind (c : Candidate) (frame : Word32) : Nat := (frame - c.lastFrame).toNat

/-- Whether `a` is replaced rather than `b`, which stands before it in line and column: the lower count, then the last
frame furthest behind (R150). -/
def Candidate.replacedBefore (frame : Word32) (a b : Candidate) : Bool :=
  a.count < b.count || (a.count == b.count && a.behind frame > b.behind frame)

/-- The entry a full table gives up (R150): of a list in ascending order of line and column, the first among equals. -/
def victim (frame : Word32) : List Candidate → Option Candidate
  | [] => none
  | c :: cs => some (cs.foldl (fun best x => if x.replacedBefore frame best then x else best) c)

/-- The entry a detection leaves at its site (R150). -/
def detectedEntry (cs : List Candidate) (line column : Nat) (frame : Word32) : Candidate :=
  match cs.find? fun c => c.line == line && c.column == column with
  | some c =>
    { c with
      count := if c.lastFrame = frame - 1 then min (c.count + 1) 255 else 1
      lastFrame := frame
      seen := true }
  | none => ⟨line, column, 1, frame, false, true⟩

/-- The candidate table after a detection (R150). -/
def detectInto (cs : List Candidate) (line column : Nat) (frame : Word32) : List Candidate :=
  let entry := detectedEntry cs line column frame
  let known := cs.any fun c => c.line == line && c.column == column
  let others := dropCandidate line column cs
  if known || cs.length < Config.candidateLimit then insertCandidate entry others
  else
    match victim frame cs with
    | none => insertCandidate entry others
    | some v => insertCandidate entry (dropCandidate v.line v.column others)

/-- The reported mark of a site's candidate set (R152). -/
def markReported (line column : Nat) (cs : List Candidate) : List Candidate :=
  cs.map fun c => if c.line = line ∧ c.column = column then { c with reported := true } else c

/-- A filing about a stream's frame. -/
def frameFiling (st : StreamId) (kind : FaultKind) (clip : Nat) (frame : Word32) (detail : Nat) : Filing :=
  { kind := kind, clip := some clip, frame := some frame, stream := some st, detail := detail }

/-- A detection is taken (R151, then R150 and R152): `mask` is the set of channels in which the pixel was hot. -/
def State.takeDetection (s : State) (st : StreamId) (clip : Nat) (frame : Word32) (line column mask : Nat) : State :=
  let x := s.spot st
  let n := x.measures.detections
  if n < Config.detectionLimit then
    let entry := detectedEntry x.candidates line column frame
    let s := s.modSpot st fun y =>
      { y with
        measures := { y.measures with detections := n + 1 }
        candidates := detectInto y.candidates line column frame }
    if x.config.hotFrames ≤ entry.count && !entry.reported then
      let s := s.file { frameFiling st .hotPixel clip frame mask with coordinate := some (line, column) }
      s.modSpot st fun y => { y with candidates := markReported line column y.candidates }
    else s
  else if n = Config.detectionLimit then
    let s := s.modSpot st fun y => { y with measures := { y.measures with detections := n + 1, saturated := true } }
    s.file (frameFiling st .hotScanSaturated clip frame 256)
  else s

/-! ### Measures of a line (R146, R147, R149) -/

/-- The channels in which a pixel exceeds both neighbours by `h` or more: red 1, green 2, blue 4 (R149, R152). -/
def hotMask (h : Nat) (left x right : Rgb) : Nat :=
  bitIf (left.r + h ≤ x.r && right.r + h ≤ x.r) 1 + bitIf (left.g + h ≤ x.g && right.g + h ≤ x.g) 2 +
    bitIf (left.b + h ≤ x.b && right.b + h ≤ x.b) 4

/-- The hot pixels of a line, column and channel set, from the column of the first pixel's right neighbour on: column 0
and the last column are skipped (R149). They are examined by ascending column: DESIGN CHOICE, log entry 40. -/
def hotPixels (h : Nat) : Nat → List Rgb → List (Nat × Nat)
  | col, l :: x :: r :: rest =>
    let tail := hotPixels h (col + 1) (x :: r :: rest)
    if hotMask h l x r = 0 then tail else (col, hotMask h l x r) :: tail
  | _, _ => []

/-- The detections of a line at tap A: its hot pixels that the map does not hold under the tag (R149). -/
def detections (h : Nat) (map : List DefectSite) (tag : Option Nat) (line : Nat) (codes : List Rgb) : List (Nat × Nat) :=
  if h = 0 then []
  else (hotPixels h 1 codes).filter fun cm =>
    match tag with
    | none => true
    | some t => !map.contains ⟨t, line, cm.1⟩

/-- The codes of the tap in use (R143). -/
def Tap.choose (t : Tap) (a b : List Rgb) : List Rgb :=
  match t with
  | .a => a
  | .b => b

/-- The measures after a line (R146, R147). -/
def Measures.addLine (m : Measures) (c : QcConfig) (tapA tapB : List Rgb) : Measures :=
  let clip := c.clipTap.choose tapA tapB
  let count (f : Rgb → Nat) : Nat := (clip.filter fun x => c.clipLevel ≤ f x).length
  { m with
    clipped := ⟨m.clipped.r + count Rgb.r, m.clipped.g + count Rgb.g, m.clipped.b + count Rgb.b⟩
    lumaSum := m.lumaSum + ((c.blackTap.choose tapA tapB).map luma).sum }

/-- The fault spotter takes the two copies of a line (R145 to R152), its detections by ascending column: DESIGN CHOICE,
log entry 40. -/
def State.spotLine (s : State) (st : StreamId) (clip : Nat) (frame : Word32) (line : Nat) (tapA tapB : List Rgb) : State :=
  let config := (s.spot st).config
  let found := detections config.hotThreshold s.spotter.defectMap (s.currentTag st) line tapA
  let s := s.modSpot st fun x => { x with measures := x.measures.addLine config tapA tapB }
  found.foldl (fun s cm => s.takeDetection st clip frame line cm.1 cm.2) s

/-! ### Frame end (R145, R148, R153) -/

/-- A filter after a judged frame, and whether it files its fault (R148). -/
def Filter.step (x : Filter) (k : Nat) (condition : Bool) : Filter × Bool :=
  if condition then
    let run := min (x.run + 1) 255
    if k ≤ run && !x.raised then (⟨run, true⟩, true) else (⟨run, x.raised⟩, false)
  else (Filter.zero, false)

/-- Whether a channel has the clipping condition (R146). -/
def clippingCondition (c : QcConfig) (clipped pixels : Nat) : Bool := c.clipFraction * pixels ≤ clipped * 1000

/-- Whether a frame has the black condition (R147). -/
def blackCondition (c : QcConfig) (lumaSum pixels : Nat) : Bool := lumaSum < c.blackLevel * pixels

/-- The CLIPPING filing of a channel (R146). -/
def clippingFiling (st : StreamId) (clip : Nat) (frame : Word32) (channel clipped pixels : Nat) : Filing :=
  frameFiling st .clipping clip frame (channel + 256 * (clipped * 1000 / pixels))

/-- A filing made or not. -/
def State.fileIf (s : State) (b : Bool) (f : Filing) : State := if b then s.file f else s

/-- The filters of a judged frame: red, green, blue, black (R148; the order is DESIGN CHOICE, log entry 9). -/
def State.judgeFrame (s : State) (st : StreamId) (clip : Nat) (frame : Word32) (pixels : Nat) : State :=
  let x := s.spot st
  let c := x.config
  let m := x.measures
  let red := x.clipRed.step c.clipFrames (clippingCondition c m.clipped.r pixels)
  let green := x.clipGreen.step c.clipFrames (clippingCondition c m.clipped.g pixels)
  let blue := x.clipBlue.step c.clipFrames (clippingCondition c m.clipped.b pixels)
  let black := x.black.step c.blackFrames (blackCondition c m.lumaSum pixels)
  let s := s.modSpot st fun y =>
    { y with clipRed := red.1, clipGreen := green.1, clipBlue := blue.1, black := black.1 }
  let s := s.fileIf red.2 (clippingFiling st clip frame 0 m.clipped.r pixels)
  let s := s.fileIf green.2 (clippingFiling st clip frame 1 m.clipped.g pixels)
  let s := s.fileIf blue.2 (clippingFiling st clip frame 2 m.clipped.b pixels)
  s.fileIf black.2 (frameFiling st .blackFrame clip frame (m.lumaSum / pixels))

/-- The candidate table at a frame's end: unseen entries leave it if the whole frame was scanned, and every seen mark
is cleared (R153). -/
def pruneCandidates (scanned : Bool) (cs : List Candidate) : List Candidate :=
  (cs.filter fun c => !scanned || c.seen).map fun c => { c with seen := false }

/-- The fault spotter takes a frame's end with the frame's gap and geometry marks (R145, R148, R153). -/
def State.spotFrameEnd (s : State) (st : StreamId) (x : FrameInProgress) : State :=
  let p := (s.stream st).params
  let m := (s.spot st).measures
  let judged := !x.gap && !x.geometry && !m.unjudged
  let s := if judged then s.judgeFrame st x.clip x.number (p.width * p.height) else s
  s.modSpot st fun y =>
    { y with candidates := pruneCandidates (judged && !m.saturated) y.candidates, measures := Measures.zero }

/-- The four persistence filters reset (R148). -/
def SpotterStream.resetFilters (x : SpotterStream) : SpotterStream :=
  { x with clipRed := Filter.zero, clipGreen := Filter.zero, clipBlue := Filter.zero, black := Filter.zero }

/-- The filters reset and the candidate table emptied: at a finalisation (R148, R153). -/
def SpotterStream.leaveClip (x : SpotterStream) : SpotterStream := { x.resetFilters with candidates := [] }

end Sys2Proof.Machine
end

