-- ==== Sys2Proof/Machine/Look.lean ====
section
/-!
DEFINITION. Look slots, banks and tables (R100 to R106), latches (R107), the look directory and the resolution of a
stream's look (R108 to R110).
-/

namespace Sys2Proof.Machine

/-! ### Slots and banks (R100) -/

/-- The look slot `k`. -/
def State.slot (s : State) (k : Fin 16) : Slot := s.look.slots[k]

/-- The state with a look slot changed. -/
def State.modSlot (s : State) (k : Fin 16) (f : Slot → Slot) : State :=
  { s with look := { s.look with slots := s.look.slots.set k.val (f (s.slot k)) k.isLt } }

/-- The shadow of a slot: the bank that is not active; A while none is active (R100). -/
def Slot.shadowName (x : Slot) : BankName :=
  match x.active with
  | none => .a
  | some .a => .b
  | some .b => .a

/-- A bank of a slot. -/
def Slot.bank (x : Slot) : BankName → Bank
  | .a => x.bankA
  | .b => x.bankB

/-- A slot with one bank replaced. -/
def Slot.setBank (x : Slot) (n : BankName) (b : Bank) : Slot :=
  match n with
  | .a => { x with bankA := b }
  | .b => { x with bankB := b }

/-- The shadow bank of a slot. -/
def Slot.shadowBank (x : Slot) : Bank := x.bank x.shadowName

/-- The number of entries of a table for a lattice size: 257, 257, 257, 12 and 3·N³ (R100). -/
def tableEntries (n : Nat) (code : Nat) : Nat :=
  match code with
  | 0 => 257
  | 1 => 257
  | 2 => 257
  | 3 => 12
  | 4 => 3 * n ^ 3
  | _ => 0

/-- A bank's entry total, 0 when its lattice size is absent (R100, R113). -/
def Bank.total (b : Bank) : Nat :=
  match b.size with
  | none => 0
  | some n => 3 * 257 + 12 + 3 * n ^ 3

/-- The number of a bank's entries marked written. -/
def Bank.written (b : Bank) : Nat := (b.tables.toList.map List.length).sum

/-- A slot's coverage: the written entries of its shadow (R100, R105). -/
def Slot.coverage (x : Slot) : Nat := x.shadowBank.written

/-- Entries written at consecutive indices from `first`, over whatever stood there (R103). -/
def writeRun (table : List (Nat × Int)) (first : Nat) (values : List Int) : List (Nat × Int) :=
  table.filter (fun e => e.1 < first) ++ values.zipIdx.map (fun vi => (first + vi.2, vi.1)) ++
    table.filter fun e => first + values.length ≤ e.1

/-- The stored value of a received entry (R104). -/
def clampEntry (code index : Nat) (raw : Int) : Int :=
  if code = 3 then
    if index ≤ 8 then max (-32768) (min raw 32767) else max (-65536) (min raw 65536)
  else max 0 (min raw 65536)

/-- A received entry as a number: MATRIX entries are signed, the others unsigned (R103). -/
def entryValue (code : Nat) (w : Word32) : Int :=
  if code = 3 then w.toInt else (w.toNat : Int)

/-- The streams that latch a bank: its latch set (R100, R107). -/
def State.latchedBy (s : State) (k : Fin 16) (n : BankName) : List StreamId :=
  allStreams.filter fun st => (s.stream st).latch == some (k, n)

/-- Whether a bank is latched (R107). -/
def State.latched (s : State) (k : Fin 16) (n : BankName) : Bool := !(s.latchedBy k n).isEmpty

/-- A latch set as a byte: stream 0 0x01, stream 1 0x02 (R113). -/
def State.latchCode (s : State) (k : Fin 16) (n : BankName) : Nat :=
  ((s.latchedBy k n).map fun st => 2 ^ st.val).sum

/-! ### Resolution (R109) -/

/-- The chain of R109: broken with its cause, or a slot and its active bank. -/
inductive Chain where
  | broken (cause : Nat)
  | reached (slot : Fin 16) (bank : BankName)
  deriving DecidableEq, Repr

/-- The directory entry of a look number (R108). -/
def State.directoryAt (s : State) (look : Nat) : Option (Fin 16) := (s.look.directory[look]?).join

/-- The look number of a clip; a free record has none. -/
def State.lookOf (s : State) (clip : Nat) : Option Nat := (s.clip? clip).bind (·.look)

/-- The chain from a clip's look number through the directory to a slot's active bank (R109). -/
def State.chain (s : State) (clip : Nat) : Chain :=
  match s.lookOf clip with
  | none => .broken 1
  | some look =>
    match s.directoryAt look with
    | none => .broken 2
    | some k =>
      match (s.slot k).active with
      | none => .broken 3
      | some name => .reached k name

/-- The graded resolution a chain gives (R109). -/
def Chain.resolution : Chain → Resolution
  | .broken _ => .bypass
  | .reached k name => .bank k name

/-- The latch a chain takes (R107, R109). -/
def Chain.latch : Chain → Option (Fin 16 × BankName)
  | .broken _ => none
  | .reached k name => some (k, name)

/-- The LOOK_MISSING filing of a broken chain (R110). -/
def Chain.missing (c : Chain) (st : StreamId) (clip : Nat) (frame : Word32) (look : Option Nat) : Option Filing :=
  match c with
  | .reached _ _ => none
  | .broken cause => some (frameFiling st .lookMissing clip frame (cause + 256 * lookCode look))

/-- The filing a resolution makes now: LOOK_MISSING on bypass while the stream's look-missing mark is clear (R110). -/
def State.resolutionFault (s : State) (st : StreamId) (clip : Nat) (frame : Word32) : Option Filing :=
  if (s.stream st).lookMissing then none else (s.chain clip).missing st clip frame (s.lookOf clip)

/-- The concealment set of a stream whose current clip is `clip` (R116). -/
def State.concealmentFor (s : State) (clip : Nat) : List (Nat × Nat) :=
  match s.clip? clip with
  | none => []
  | some c => sitesOf c.cameraTag s.spotter.defectMap

/-- A stream resolves its look for its current clip: graded resolution, latch, concealment set, and LOOK_MISSING once
for the clip (R107, R109, R110, R116). -/
def State.resolve (s : State) (st : StreamId) (clip : Nat) (frame : Word32) : State :=
  let c := s.chain clip
  let set := s.concealmentFor clip
  let fault := s.resolutionFault st clip frame
  let s := s.modStream st fun x =>
    { x with graded := c.resolution, latch := c.latch, concealment := set, lookMissing := x.lookMissing || fault.isSome }
  match fault with
  | none => s
  | some f => s.file f

/-- The bank a resolution names; none in bypass (R109). -/
def State.bankOf (s : State) : Resolution → Option Bank
  | .bypass => none
  | .bank k name => some ((s.slot k).bank name)

end Sys2Proof.Machine
end

