-- ==== Sys2Proof/Machine/Review.lean ====
section
/-!
DEFINITION. The review unit's operations: raster packets out and in, frame start, lines, frame end, presentation and
ticks (chapter 9), hold entry, regrade and look changes (chapter 11, R112), finalisation (R139).
-/

namespace Sys2Proof.Machine

/-! ### Outgoing packets (R135, R136) -/

/-- The flags of a RASTER (section 1.7). -/
structure RasterFlags where
  start : Bool
  finish : Bool
  clipEnd : Bool
  damaged : Bool
  deriving DecidableEq, Repr

/-- The flag byte: FRAME_START 0x01, FRAME_END 0x02, CLIP_END 0x04, DAMAGED 0x08 (section 1.7). -/
def RasterFlags.code (f : RasterFlags) : Nat :=
  bitIf f.start 1 + bitIf f.finish 2 + bitIf f.clipEnd 4 + bitIf f.damaged 8

/-- A pixel's six bytes (section 1.7). -/
def pixelBytes (x : Rgb) : List Byte := beBytes 2 x.r ++ beBytes 2 x.g ++ beBytes 2 x.b

/-- A RASTER payload: the raster header and the pixels, line by line (section 1.7). -/
def rasterPayload (clip : Nat) (frame : Word32) (first width : Nat) (flags : RasterFlags) (lines : List (List Rgb)) :
    List Byte :=
  beBytes 2 clip ++ beBytes 4 frame.toNat ++ beBytes 2 first ++ [byteOf lines.length] ++ beBytes 2 width ++
    [byteOf flags.code] ++ (lines.flatten.map pixelBytes).flatten

/-- A leaving RASTER: it carries the output endpoint's id, the stream and tag 0 (R135). -/
def outgoingRaster (st : StreamId) (p : StreamParams) (clip : Nat) (frame : Word32) (first : Nat) (flags : RasterFlags)
    (lines : List (List Rgb)) : Packet where
  kind := .raster
  endpoint := p.output.id
  stream := st.val
  tag := 0
  payload := rasterPayload clip frame first p.width flags lines
  owner := .raster st

/-- Numbered lines gathered into packets of consecutive lines, at most 8 in each: the first line's number and the lines.
`open_` is the packet being gathered (R136, R167; DESIGN CHOICE, log entry 10). -/
def gatherLines : Option (Nat × List (List Rgb)) → List (Nat × List Rgb) → List (Nat × List (List Rgb))
  | none, [] => []
  | some g, [] => [g]
  | none, (n, l) :: rest => gatherLines (some (n, [l])) rest
  | some (f, ls), (n, l) :: rest =>
    if n = f + ls.length ∧ ls.length < 8 then gatherLines (some (f, ls ++ [l])) rest
    else (f, ls) :: gatherLines (some (n, [l])) rest

/-- The packets of an outgoing frame: the first carries FRAME_START, the last FRAME_END and, for a damaged frame,
DAMAGED (R136, R167). -/
def framePackets (st : StreamId) (p : StreamParams) (clip : Nat) (frame : Word32) (damaged : Bool)
    (lines : List (Nat × List Rgb)) : List Packet :=
  let groups := gatherLines none lines
  groups.zipIdx.map fun gi =>
    let last := gi.2 + 1 == groups.length
    outgoingRaster st p clip frame gi.1.1 ⟨gi.2 == 0, last, false, damaged && last⟩ gi.1.2

/-- The packets that present a graded frame, from line 0 (R136). -/
def GradedFrame.packets (f : GradedFrame) (st : StreamId) (p : StreamParams) : List Packet :=
  framePackets st p f.clip f.number f.damaged (f.lines.zipIdx.map fun li => (li.2, li.1))

/-- Whether a packet of a stream waits in the send queue of its output port (R135). -/
def State.rasterWaiting (s : State) (st : StreamId) : Bool :=
  !((s.port (s.stream st).params.output.port).queueOf (.raster st)).isEmpty

/-- Whether a stream's outgoing frame is not yet wholly in transmission or dropped: a presentation in progress (R136). -/
def State.presentingNow (s : State) (st : StreamId) : Bool :=
  !(s.stream st).presenting.isEmpty || s.rasterWaiting st

/-- The next packet of the outgoing frame is handed over, once the previous one has begun transmission or been dropped;
on a port that is not UP each is dropped at once (R9, R136). -/
def State.handNext (s : State) (st : StreamId) : State :=
  if s.rasterWaiting st then s
  else
    let x := s.stream st
    match x.presenting with
    | [] => s
    | pk :: rest =>
      let p := x.params.output.port
      if s.isUp p then
        (s.modStream st fun y => { y with presenting := rest }).modPort p (·.enqueue (.raster st) pk)
      else s.modStream st fun y => { y with presenting := [] }

/-- The raster buffer that a taken packet still occupies is freed once that packet's own outgoing packet is gone, whatever
packet of a regrade waits in its place; while the stream is HELD no buffer is freed, and it is noted that the packet is
gone, so that the release frees the buffer (R7, R132, R166). DEDUCED, log entry 20. -/
def State.releaseInHand (s : State) (st : StreamId) : State :=
  let x := s.stream st
  match x.inHand with
  | none => s
  | some b =>
    if !b.outputGone && s.rasterWaiting st then s
    else if x.state = .held then s.modStream st fun y => { y with inHand := some { b with outputGone := true } }
    else (s.modStream st fun y => { y with inHand := none }).freeRaster st b.port

/-- A stream's outgoing packet has begun transmission or been dropped (R132, R135, R136). -/
def State.outputGone (s : State) (st : StreamId) : State := (s.releaseInHand st).handNext st

/-- An outgoing frame is started: its packets are handed over one at a time (R136, R167). -/
def State.sendFrame (s : State) (st : StreamId) (packets : List Packet) : State :=
  (s.modStream st fun x => { x with presenting := packets }).handNext st

/-! ### Finalisation (R139) -/

/-- A clip's QC state at finalisation (R35). -/
def ClipRecord.judge (c : ClipRecord) : ClipRecord :=
  { c with qc := if c.copyFaults = 0 ∧ c.pictureFaults = 0 ∧ c.timingFaults = 0 then .clean else .flagged }

/-- A clip with a stream added to or removed from its current streams (R36). -/
def ClipRecord.setCurrent (c : ClipRecord) (st : StreamId) (b : Bool) : ClipRecord :=
  { c with currentStreams := c.currentStreams.set st.val b st.isLt }

/-- The FRAME_COUNT filing of a finalisation (R139 step 1). -/
def frameCountFault (st : StreamId) (clip : Nat) (c : ClipRecord) : Option Filing :=
  match c.expectedFrames with
  | none => none
  | some n =>
    if n.toNat = c.framesSeen then none
    else some { kind := .frameCount, clip := some clip, stream := some st, detail := c.framesSeen }

/-- A filing made if there is one. -/
def State.fileOpt (s : State) (f : Option Filing) : State :=
  match f with
  | none => s
  | some f => s.file f

/-- A stream finalises its current clip (R139), with the effects on the fault spotter's stream (R148, R153). -/
def State.finalise (s : State) (st : StreamId) : State :=
  match (s.stream st).currentClip with
  | none => s.modStream st fun x => { x with finaliseWaiting := false }
  | some n =>
    let s := s.fileOpt ((s.clip? n).bind (frameCountFault st n))
    let s := s.modClip n fun c => c.judge.setCurrent st false
    let s := s.modStream st fun x =>
      { x with currentClip := none, lastFrame := none, lookMissing := false, finaliseWaiting := false }
    s.modSpot st (·.leaveClip)

/-! ### Presentation and ticks (R134, R136, R137, R166) -/

/-- The open repeat run is filed and its length returns to 0 (R137). -/
def State.fileRun (s : State) (st : StreamId) : State :=
  let r := (s.stream st).run
  if r.length = 0 then s
  else
    let s := s.file (frameFiling st .outputRepeat r.clip r.frame r.length)
    s.modStream st fun x => { x with run := ⟨0, 0, 0⟩ }

/-- The buffers exchange roles: the READY buffer becomes the front buffer, the former front buffer the back buffer,
IDLE (R134). -/
def Stream.exchange (x : Stream) : Stream :=
  { x with front := x.back, back := x.front, backState := .idle }

/-- The front frame is presented (R136). -/
def State.present (s : State) (st : StreamId) : State :=
  let x := s.stream st
  match x.front with
  | none => s
  | some f => s.sendFrame st (f.packets st x.params)

/-- One more repeat in the open run, which on the first repeat records the front frame (R137). -/
def Stream.repeatTick (x : Stream) : Stream :=
  match x.front with
  | none => x
  | some f => { x with run := if x.run.length = 0 then ⟨1, f.clip, f.number⟩ else { x.run with length := x.run.length + 1 } }

/-- A tick of a PACED stream: an overrun while a presentation is in progress; else a READY frame is presented, or the
front frame again, which is a repeat unless the tick is a hold tick (R136, R137, R166). -/
def State.tick (s : State) (st : StreamId) (hold : Bool) : State :=
  let x := s.stream st
  if s.presentingNow st then s.modStream st fun y => { y with overruns := bump32 y.overruns }
  else if x.backState = .ready then
    let s := if hold then s else s.fileRun st
    (s.modStream st (·.exchange)).present st
  else
    let s := if hold then s else s.modStream st (·.repeatTick)
    s.present st

/-- The instant of tick `k` after an origin (R136). -/
def tickInstant (p : StreamParams) (origin : Word64) (k : Nat) : Word64 :=
  origin + BitVec.ofNat 64 (k * p.rateDen * 1000000 / p.rateNum)

/-- The stream's timer moved to its next tick (R136). -/
def Stream.nextTick (x : Stream) : Stream :=
  match x.origin with
  | none => x
  | some o =>
    if x.tick + 1 ≥ x.params.rateNum then
      { x with origin := some (o + BitVec.ofNat 64 (x.params.rateDen * 1000000)), tick := 0 }
    else { x with tick := x.tick + 1 }

/-! ### Regrades (R167) -/

/-- The graded lines of the source buffer, with their numbers (R167 step 3). -/
def State.regradedLines (s : State) (st : StreamId) : List (Nat × List Rgb) :=
  let x := s.stream st
  x.source.map fun nl => (nl.1, gradeLine (s.bankOf x.graded) x.params.encoding x.concealment nl.1 nl.2)

/-- A whole frame from numbered lines, with output black where a line has no received mark (R167 step 3). -/
def fillFrame (e : Encoding) (width height : Nat) (lines : List (Nat × List Rgb)) : List (List Rgb) :=
  (List.range height).map fun n => (lines.lookup n).getD (blackLine e width)

/-- A regrade of the held frame is started (R167 steps 1 to 3). Its lines reach the taps marked as from a regrade, which
the fault spotter ignores (R145). DEDUCED, log entry 30. -/
def State.startRegrade (s : State) (st : StreamId) : State :=
  let x := s.stream st
  match x.heldFrame, x.currentClip with
  | some h, some clip =>
    let s := s.resolve st clip h.number
    let lines := s.regradedLines st
    let s := s.modStream st fun y => { y with regrading := true }
    match x.params.mode with
    | .paced =>
      let whole := fillFrame x.params.encoding x.params.width x.params.height lines
      s.modStream st fun y => { y with backState := .writing, back := some ⟨h.clip, h.number, h.damaged, whole⟩ }
    | .streaming => s.sendFrame st (framePackets st x.params h.clip h.number h.damaged lines)
  | _, _ => s

/-- A regrade is ended before its end: the latch is released, the back buffer becomes IDLE, packets not yet handed over
are not sent, and the regrade-again mark is cleared (R167). -/
def State.cutRegrade (s : State) (st : StreamId) : State :=
  if (s.stream st).regrading then
    s.modStream st fun x =>
      let x := { x with latch := none, regrading := false, regradeAgain := false }
      match x.params.mode with
      | .paced => { x with backState := .idle }
      | .streaming => { x with presenting := [] }
  else s

/-- The changes the look engine reports (R112). -/
inductive LookChange where
  | slot (k : Fin 16)
  | look (n : Nat)
  | clip (n : Nat)
  deriving DecidableEq, Repr

/-- Whether a look change could apply to a HELD stream (R112). -/
def State.changeApplies (s : State) (st : StreamId) (c : LookChange) : Bool :=
  let x := s.stream st
  match x.currentClip with
  | none => false
  | some clip =>
    match c with
    | .clip n => clip == n
    | .look n => s.lookOf clip == some n
    | .slot k =>
      (match x.graded with
       | .bank k' _ => k' == k
       | .bypass => false) ||
      (match s.lookOf clip with
       | none => false
       | some n => s.directoryAt n == some k)

/-- Whether the stream's chain now gives another resolution than its graded one (R112). -/
def State.resolutionDiffers (s : State) (st : StreamId) : Bool :=
  let x := s.stream st
  match x.currentClip with
  | none => false
  | some clip => (s.chain clip).resolution != x.graded

/-- A look change is judged for one stream: a HELD stream whose resolution it alters regrades its held frame, or is
marked to regrade again (R112, R167). -/
def State.judgeChange (s : State) (c : LookChange) (st : StreamId) : State :=
  if (s.stream st).state = .held && s.changeApplies st c && s.resolutionDiffers st then
    if (s.stream st).regrading then s.modStream st fun x => { x with regradeAgain := true }
    else s.startRegrade st
  else s

/-- A look change is reported to the review unit (R112), judged for stream 0, then stream 1: DESIGN CHOICE, log entry 37. -/
def State.lookChanged (s : State) (c : LookChange) : State := allStreams.foldl (fun s st => s.judgeChange c st) s

/-! ### Frame end and hold entry (R133, R166) -/

/-- The back buffer with lines missing before line `n` filled with output black (R132, R133). -/
def GradedFrame.fillTo (f : GradedFrame) (e : Encoding) (width n : Nat) : GradedFrame :=
  { f with lines := f.lines ++ List.replicate (n - f.lines.length) (blackLine e width) }

/-- In PACED mode the back buffer is filled with output black up to line `n`. -/
def Stream.fillBack (x : Stream) (n : Nat) : Stream :=
  match x.params.mode with
  | .streaming => x
  | .paced => { x with back := x.back.map fun f => f.fillTo x.params.encoding x.params.width n }

/-- The state with a stream's frame in progress changed. -/
def State.modFrame (s : State) (st : StreamId) (f : FrameInProgress → FrameInProgress) : State :=
  s.modStream st fun x => { x with frame := x.frame.map f }

/-- Lines from `e` on are missing: LINE_GAP once for the frame, and the gap mark (R132, R133). -/
def State.noteGap (s : State) (st : StreamId) (x : FrameInProgress) (e : Nat) : State :=
  if x.gap then s
  else (s.file (frameFiling st .lineGap x.clip x.number e)).modFrame st fun y => { y with gap := true }

/-- A stream enters HELD at the end of a processed frame; on entry an open repeat run is filed, which matches no hold
point, since the stream is HELD by then (R165, R166). The held frame's damaged mark is the one stage 1 found: log entry 44. -/
def State.enterHold (s : State) (st : StreamId) (x : FrameInProgress) : State :=
  (s.modStream st fun y =>
    { y with
      state := .held
      holdPending := false
      heldFrame := some ⟨x.clip, x.number, x.damaged⟩
      stallTimer := none
      stallSilent := false }).fileRun st

/-- Stage 1 of a frame's end: in PACED mode the back buffer becomes READY with the frame's damaged mark, and the first
READY frame sets the pacing origin and is tick 0 (R133, R134, R136). -/
def State.readyBack (s : State) (st : StreamId) (x : FrameInProgress) : State :=
  match (s.stream st).params.mode with
  | .streaming => s
  | .paced =>
    let s := s.modStream st fun y =>
      { y with backState := .ready, back := y.back.map fun f => { f with damaged := x.damaged } }
    match (s.stream st).origin with
    | some _ => s
    | none => (s.modStream st fun y => { y with origin := some s.now, tick := 0 }).tick st false

/-- The end of a processed frame (R133): missing lines, then stages 1 to 5. The frame is no longer in progress from stage 1
on, so a CLIPPING or BLACK_FRAME of stage 3 sets no damaged mark, and the held frame keeps the mark as stage 1 found it:
DESIGN CHOICE, log entry 44. -/
def State.endProcessed (s : State) (st : StreamId) (x0 : FrameInProgress) : State :=
  let height := (s.stream st).params.height
  let s := if x0.next < height then (s.noteGap st x0 x0.next).modStream st (·.fillBack height) else s
  let x := (s.stream st).frame.getD x0
  let s := s.modStream st fun y => { y with frame := none }
  let s := s.readyBack st x
  let s := s.modStream st fun y => { y with latch := none }
  let s := s.spotFrameEnd st x
  let s := if (s.stream st).holdPending then s.enterHold st x else s
  if x.clipEnd then
    if (s.stream st).state = .held then s.modStream st fun y => { y with finaliseWaiting := true }
    else s.finalise st
  else s

/-- The frame in progress ends: a refused frame simply ends, a processed one as R133 gives (R130, R133). -/
def State.endFrame (s : State) (st : StreamId) : State :=
  match (s.stream st).frame with
  | none => s
  | some x => if x.refused then s.modStream st fun y => { y with frame := none } else s.endProcessed st x

/-! ### Lines (R132, R135) -/

/-- Whether a packet's lines fail the geometry check (R132). -/
def RasterPacket.misfits (pk : RasterPacket) (p : StreamParams) (x : FrameInProgress) : Bool :=
  pk.width != p.width || pk.firstLine + pk.lines.length > p.height || pk.firstLine < x.next

/-- The packet's lines with their numbers. -/
def RasterPacket.numbered (pk : RasterPacket) : List (Nat × List Rgb) :=
  pk.lines.zipIdx.map fun li => (pk.firstLine + li.2, li.1)

/-- Geometry failed: the lines are discarded, and GEOMETRY is filed once for the frame (R132). -/
def State.rejectLines (s : State) (st : StreamId) (pk : RasterPacket) (x : FrameInProgress) : State :=
  let s :=
    if x.geometry then s
    else
      (s.file (frameFiling st .geometry x.clip x.number (pk.firstLine + 65536 * pk.width))).modFrame st fun y =>
        { y with geometry := true }
  s.freeRaster st pk.port

/-- The packet's lines are written to the source buffer, graded, handed to the taps, and sent to the back buffer or out
in one packet (R115, R125, R132, R135). DEDUCED, log entry 21. -/
def State.gradeLines (s : State) (st : StreamId) (pk : RasterPacket) (x : FrameInProgress) : State :=
  let y := s.stream st
  let bank := s.bankOf y.graded
  let graded := pk.numbered.map fun nl => gradeLine bank y.params.encoding y.concealment nl.1 nl.2
  let s := s.modStream st fun z => { z with source := z.source ++ pk.numbered }
  let s := (pk.numbered.zip graded).foldl (fun s ng => s.spotLine st x.clip x.number ng.1.1 ng.1.2 ng.2) s
  let s := s.modFrame st fun z => { z with next := pk.firstLine + pk.lines.length }
  match y.params.mode with
  | .paced =>
    (s.modStream st fun z => { z with back := z.back.map fun f => { f with lines := f.lines ++ graded } }).freeRaster st pk.port
  | .streaming =>
    let damaged := match (s.stream st).frame with
      | none => false
      | some z => z.damaged
    let out := outgoingRaster st y.params x.clip x.number pk.firstLine
      ⟨pk.frameStart, pk.frameEnd, pk.clipEnd, pk.frameEnd && damaged⟩ graded
    let s := s.modStream st fun z => { z with inHand := some ⟨pk.port, false⟩ }
    (s.sendFrame st [out]).releaseInHand st

/-- The lines of a packet of the processed frame in progress (R132). -/
def State.takeLines (s : State) (st : StreamId) (pk : RasterPacket) : State :=
  match (s.stream st).frame with
  | none => s
  | some x =>
    let p := (s.stream st).params
    if pk.misfits p x then s.rejectLines st pk x
    else
      let s := if x.next < pk.firstLine then (s.noteGap st x x.next).modStream st (·.fillBack pk.firstLine) else s
      s.gradeLines st pk x

/-- The flags of a packet of the frame in progress are acted on, then FRAME_END ends the frame (R129, R132, R133). -/
def State.actOnFlags (s : State) (st : StreamId) (pk : RasterPacket) : State :=
  let s := if pk.clipEnd then s.modFrame st fun x => { x with clipEnd := true } else s
  if pk.frameEnd then s.endFrame st else s

/-! ### Frame start (R130, R131) -/

/-- The verified-copy gate: at least one destination record of the clip is VERIFIED (R130, R45). -/
def State.secured (s : State) (clip : Nat) : Bool :=
  match s.clip? clip with
  | none => false
  | some c => c.dests.any fun d => d.state == .verified

/-- The continuity fault of frame `n` after frame `last` (R131 step 2). -/
def continuityFault (st : StreamId) (clip : Nat) (last n : Word32) : Option Filing :=
  let d := (n - last).toNat
  if d = 1 then none
  else if d = 0 then some (frameFiling st .duplicateFrame clip n 0)
  else if d ≤ 2147483648 then some (frameFiling st .droppedFrames clip n (d - 1))
  else some (frameFiling st .outOfOrder clip n last.toNat)

/-- The clip record at a frame start (R36). -/
def ClipRecord.noteFrame (c : ClipRecord) (st : StreamId) (n : Word32) : ClipRecord :=
  { c.setCurrent st true with
    framesSeen := bump32 c.framesSeen
    highestFrame := match c.highestFrame with
      | none => some n
      | some h => if h.toNat < n.toNat then some n else some h }

/-- The back buffer begins to receive a frame; a READY frame it held is lost and counted as skipped (R134). -/
def Stream.beginBack (x : Stream) (clip : Nat) (n : Word32) (damaged : Bool) : Stream :=
  match x.params.mode with
  | .streaming => x
  | .paced =>
    { x with
      backState := .writing
      back := some ⟨clip, n, damaged, []⟩
      skipped := if x.backState = .ready then bump32 x.skipped else x.skipped }

/-- The frame becomes the frame in progress (R131 step 5). -/
def Stream.beginFrame (x : Stream) (clip : Nat) (n : Word32) (damaged : Bool) : Stream :=
  { x.beginBack clip n damaged with
    state := .running
    frame := some ⟨clip, n, false, 0, false, false, damaged, false⟩
    source := []
    processed := bump32 x.processed }

/-- A frame that passes the gate is started (R131 steps 1 to 5), after the FRAME hold points have seen it (R165). -/
def State.startFrame (s : State) (st : StreamId) (clip : Nat) (n : Word32) : State :=
  let s := s.modStream st fun x => { x with notSecured := none }
  let s := s.matchHolds st (HoldCondition.isFrame clip n)
  let change : Bool := match (s.stream st).currentClip with
    | none => false
    | some c => c != clip
  let s := if change then s.finalise st else s
  let s := s.modStream st fun x => { x with currentClip := some clip }
  let continuity := (s.stream st).lastFrame.bind fun last => continuityFault st clip last n
  let s := s.fileOpt continuity
  let s := s.modStream st fun x => { x with lastFrame := some n }
  let s := s.modClip clip (·.noteFrame st n)
  let missing := s.resolutionFault st clip n
  let s := s.resolve st clip n
  s.modStream st (·.beginFrame clip n (continuity.isSome || missing.isSome))

/-- A frame the gate refuses becomes the frame in progress, marked refused (R130). Its next expected line is 0 and its gap,
geometry and damaged marks are clear, which the manual states of a frame that passes alone: DESIGN CHOICE, log entry 43. -/
def State.refuseFrame (s : State) (st : StreamId) (clip : Nat) (n : Word32) : State :=
  let filed : Bool := (s.stream st).notSecured != some clip
  let s := s.modStream st fun x =>
    { x with
      frame := some ⟨clip, n, true, 0, false, false, false, false⟩
      gated := bump32 x.gated
      notSecured := some clip }
  s.fileIf filed (frameFiling st .notSecured clip n 0)

/-- A packet of a refused frame is discarded; FRAME_END ends the frame (R129, R130). -/
def State.discardRefused (s : State) (st : StreamId) (pk : RasterPacket) : State :=
  let s := s.freeRaster st pk.port
  if pk.frameEnd then s.endFrame st else s

/-- A packet with FRAME_START is taken (R130). If the frame it ends puts the stream in HELD, the packet waits, untaken
(R129, R166; DEDUCED, log entry 11). -/
def State.takeStart (s : State) (st : StreamId) (pk : RasterPacket) : State :=
  let s := s.endFrame st
  if (s.stream st).state = .held then
    s.modStream st fun x => { x with queue := pk :: x.queue }
  else if s.secured pk.clip then
    (((s.startFrame st pk.clip pk.frame).takeLines st pk)).actOnFlags st pk
  else (s.refuseFrame st pk.clip pk.frame).discardRefused st pk

/-- A packet without FRAME_START is taken: of the frame in progress, or a stray (R129). -/
def State.takeRest (s : State) (st : StreamId) (pk : RasterPacket) : State :=
  match (s.stream st).frame with
  | none => (s.modStream st fun x => { x with stray := bump32 x.stray }).freeRaster st pk.port
  | some x =>
    if x.clip = pk.clip ∧ x.number = pk.frame then
      if x.refused then s.discardRefused st pk else (s.takeLines st pk).actOnFlags st pk
    else (s.modStream st fun x => { x with stray := bump32 x.stray }).freeRaster st pk.port

/-- Whether a stream can take a packet now: WAITING or RUNNING, and in STREAMING mode the previous outgoing packet has
begun transmission or been dropped (R129, R135). -/
def State.canTake (s : State) (st : StreamId) : Bool :=
  let x := s.stream st
  x.state.takes && (x.params.mode == .paced || !s.presentingNow st)

/-- The stall timer starts or restarts at the full stall timeout (R138). -/
def State.restartStall (s : State) (st : StreamId) : State :=
  s.modStream st fun x => { x with stallTimer := some (s.later (x.params.stallMs * 1000)) }

/-- A stream takes its next RASTER in order of arrival (R129). A packet that waited when the stream was released restarts
the stall timer when taken (R168). -/
def State.takeRaster (s : State) (st : StreamId) : State :=
  if s.canTake st then
    match (s.stream st).queue with
    | [] => s
    | pk :: rest =>
      let s := s.modStream st fun x => { x with queue := rest, stallSilent := false }
      let s := if pk.waitedRelease then s.restartStall st else s
      if pk.frameStart then s.takeStart st pk else s.takeRest st pk
  else s

/-- A RASTER reaches an open stream: the stall timer restarts unless the stream is HELD, and the packet waits in its
buffer (R129, R138, R166). -/
def State.rasterArrives (s : State) (st : StreamId) (pk : RasterPacket) : State :=
  let s := s.modStream st fun x => { x with queue := x.queue ++ [pk] }
  if (s.stream st).state = .held then s else s.restartStall st

/-- Packets that waited are taken in order, as far as the stream can take them (R168 step 5); `fuel` bounds their
number. -/
def State.takeWaiting (st : StreamId) : Nat → State → State
  | 0, s => s
  | fuel + 1, s => State.takeWaiting st fuel (s.takeRaster st)

/-! ### Release (R168) -/

/-- The packets in a stream's raster buffers at a release, each marked as having waited there (R168 step 5). -/
def Stream.markWaiting (x : Stream) : Stream :=
  { x with queue := x.queue.map fun pk => { pk with waitedRelease := true } }

/-- A HELD stream is released (R168 steps 1 to 5). -/
def State.releaseHold (s : State) (st : StreamId) : State :=
  let s := s.cutRegrade st
  let s := if (s.stream st).finaliseWaiting then s.finalise st else s
  let s :=
    match (s.stream st).params.mode with
    | .streaming => s
    | .paced => (s.modStream st fun x => { x with origin := some s.now, tick := 0 }).tick st true
  let s := (s.restartStall st).modStream st fun x => { x with stallSilent := true }
  let s := s.modStream st fun x => { x.markWaiting with state := .running, holdPending := false, heldFrame := none }
  let s := s.releaseInHand st
  State.takeWaiting st (s.stream st).queue.length s

end Sys2Proof.Machine
end

