-- ==== Sys2Proof/Machine/Link.lean ====
section
/-!
DEFINITION. The link unit's steps (chapter 1): link states, losses and link-up (R1 to R3), arriving frames (R4, R5),
answers and blocks (R18), the transmitter (R9, R17), the answer timers and the waiting list (R16, R19). Each meaning
`exec<Command>` is the whole step of the row of that name.
-/

namespace Sys2Proof.Machine

/-! ### Leaving UP (R2, R25, R92, R93, R58, R141) -/

/-- The causes of a LINK_DOWN entry (R2). -/
inductive LossCause where
  | linkDown | headerError
  deriving DecidableEq, Repr

/-- A cause's code (R2). -/
def LossCause.code : LossCause → Nat
  | .linkDown => 1
  | .headerError => 2

/-- The link state a loss leads to (R1). -/
def LossCause.next : LossCause → LinkState
  | .linkDown => .down
  | .headerError => .training

/-- An ask that has ended, with the bytes received for it. -/
abbrev EndedAsk := Purpose × List Byte

/-- The asks of a port as they fail with it (R2): the outstanding ones by entry number, then the waiting ones. The order
is DESIGN CHOICE, log entry 37. -/
def PortState.failing (x : PortState) : List EndedAsk :=
  (x.asks.toList.filterMap fun e => e.live.map fun l => (l.ask.purpose, l.received)) ++
    x.waiting.map fun a => (a.purpose, [])

/-- The owners of a port's unsent packets and of the frame in transmission. -/
def PortState.owners (x : PortState) : List Owner :=
  (x.queues.toList.flatten.map fun pk => pk.owner) ++
    match x.transmitting with
    | some (.packet pk) => [pk.owner]
    | some (.credit _ _ _ _) | none => []

/-- A port that has left UP: asks gone, queues empty, credits zero (R2). -/
def PortState.lose (x : PortState) (link : LinkState) : PortState :=
  { x with
    link := link
    receive := Vector.replicate 4 Credit.zero
    send := Vector.replicate 4 Credit.zero
    creditDue := false
    creditTimer := none
    queues := Vector.replicate 4 []
    transmitting := none
    wire := []
    asks := x.asks.map fun e => { e with live := none }
    waiting := [] }

/-- The endpoints of a port that left UP: ONLINE and DRAINING ones become OFFLINE (R2, R12). -/
def Endpoint.lose (p : Port) (e : Endpoint) : Endpoint :=
  if e.name.port = p && (e.state == .online || e.state == .draining) then { e with state := .offline } else e

/-- The control unit's response to a loss (R25, R29, R174): the port's request queue and deferred replies go, a notice
dropped there ends, and a dropped SOFT RESTART reply lets the restart begin. -/
def ControlUnit.lose (u : ControlUnit) (p : Port) (owners : List Owner) : ControlUnit :=
  { u with
    queues := u.queues.set p.val [] p.isLt
    deferred := u.deferred.filter fun x => x.port != p
    notice := if owners.contains .notice then .none else u.notice
    softRestart := if owners.contains .softRestartReply then .ready else u.softRestart }

/-- The deferral of a lost port's records, and the replies of the drains it cuts short (R92, R93; the count of each is
DEDUCED, log entry 36). Several replies are handed over in the endpoint table's order: DESIGN CHOICE, log entry 37. -/
def State.loseDestinations (s : State) (p : Port) (draining : List EpName) : State :=
  let xs := s.reached (·.port == p)
  let s := s.deferRecords (·.port == p) (some .endpointLost)
  draining.foldl (fun s e => s.answerDrain e .linkLost (xs.filter fun x => x.record.endpoint == e).length) s

/-- The jobs that lose their source with a port: ACTIVE, CONFIRMED, with the source endpoint on it (R58), by ascending
number: DESIGN CHOICE, log entry 37. -/
def State.losingJobs (s : State) (p : Port) : List Nat :=
  s.activeJobs.filter fun n =>
    match s.job? n with
    | none => false
    | some j => j.standing == some .confirmed && j.source.port == p

/-- The streams whose output endpoint is on a port. -/
def State.outputsOn (s : State) (p : Port) : List StreamId :=
  allStreams.filter fun st => (s.stream st).params.output.port == p

/-- A port leaves UP (R2), with the response of each block: LINK_DOWN, asks, endpoints, queues and credits, the control
unit (R25), destinations (R92, R93), sources (R58), the failed asks, outputs (R141). DEDUCED, log entry 19. -/
def State.leavePort (s : State) (p : Port) (cause : LossCause) : State :=
  let failing := (s.port p).failing
  let owners := (s.port p).owners
  let draining := (s.link.endpoints.filter fun e => e.name.port == p && e.state == .draining).map (·.name)
  let s := s.file { kind := .linkDown, detail := p.val + 256 * cause.code }
  let s := s.setEndpoints (s.link.endpoints.map (Endpoint.lose p))
  let s := s.modPort p (·.lose cause.next)
  let s := { s with control := s.control.lose p owners }
  let s := s.loseDestinations p draining
  let s := (s.losingJobs p).foldl (fun s n => s.loseSource n) s
  let s := failing.foldl (fun s a => s.askEnded a.1 a.2 .lost) s
  let s := (s.outputsOn p).foldl (fun s st => s.outputGone st) s
  s.engineSettle

/-! ### Entering UP (R3) -/

/-- The raster buffers of a stream held on a port. -/
def Stream.buffersOn (x : Stream) (p : Port) : Nat :=
  (x.queue.filter fun pk => pk.port == p).length + if x.inHand.any fun b => b.port == p then 1 else 0

/-- The raster credits granted for a stream when a port enters UP, or at its opening (R3, R7). -/
def State.rasterGrant (s : State) (st : StreamId) (p : Port) : Nat :=
  if s.grantsRaster st p then Config.rasterBuffers - (s.stream st).buffersOn p else 0

/-- A credit total granted from zero. -/
def Credit.granted (n : Nat) : Credit := ⟨BitVec.ofNat 16 n, 0⟩

/-- A port that has entered UP: receive totals granted, partner totals zero, a credit frame due, the queue last served
raster stream 1 (R3, R9). -/
def PortState.enterUp (x : PortState) (raster0 raster1 : Nat) : PortState :=
  { x with
    link := .up
    receive := #v[Credit.granted Config.controlBuffers, Credit.granted Config.bulkBuffers, Credit.granted raster0,
      Credit.granted raster1]
    send := Vector.replicate 4 Credit.zero
    creditDue := true
    creditTimer := none
    lastServed := 3 }

/-- The endpoints of a port that entered UP: OFFLINE ones become ONLINE (R3, R12). -/
def Endpoint.comeUp (p : Port) (e : Endpoint) : Endpoint :=
  if e.name.port = p && e.state == .offline then { e with state := .online } else e

/-- The DEST endpoints of a port that are ONLINE: those whose return is taken at its link-up (R95). -/
def State.returnsOn (s : State) (p : Port) : List EpName :=
  (s.link.endpoints.filter fun e => e.name.port == p && e.kind == .dest && e.state == .online).map (·.name)

/-- A TRAINING port enters UP (R1, R3, R95). The returns of several endpoints are taken in the table's order: DESIGN
CHOICE, log entry 37. -/
def State.enterUp (s : State) (p : Port) : State :=
  let r0 := s.rasterGrant 0 p
  let r1 := s.rasterGrant 1 p
  let s := s.modPort p (·.enterUp r0 r1)
  let s := s.setEndpoints (s.link.endpoints.map (Endpoint.comeUp p))
  let s := (s.returnsOn p).foldl (fun s e => s.takeReturn e) s
  s.engineSettle

/-! ### Arriving frames: discards (R4, R5) -/

/-- The LINK_PROTOCOL filing of a packet (R5). -/
def protocolFiling (p : Port) (endpoint reason : Nat) : Filing :=
  { kind := .linkProtocol, endpoint := some ⟨p, endpoint⟩, detail := reason }

/-- A packet that holds a buffer is discarded with a LINK_PROTOCOL entry (R5). -/
def State.rejectPacket (s : State) (p : Port) (c : PacketClass) (h : RxHeader) (reason : Nat) : State :=
  (s.file (protocolFiling p h.endpoint reason)).freeBuffer p c

/-- The class of a packet kind on a stream (R5 check 1); a RASTER must name stream 0 or 1. -/
def PacketKind.packetClass (k : PacketKind) (stream : Nat) : Option PacketClass :=
  match k with
  | .control | .reply | .notice | .ask | .answer => some .control
  | .block => some .bulk
  | .raster => if stream = 0 then some (.raster 0) else if stream = 1 then some (.raster 1) else none

/-- Whether the partner holds credit of a class (R6). -/
def PortState.partnerHolds (x : PortState) (c : PacketClass) : Bool :=
  (x.receive[c.index]).total != (x.receive[c.index]).count

/-! ### CONTROL packets (R20) -/

/-- A CONTROL packet on a port without the CONTROL role is answered NOT_PERMITTED (R20). -/
def State.refuseControl (s : State) (p : Port) (h : RxHeader) (payload : List Byte) : State :=
  (s.reply p h.tag (payload.head?.elim 0 (·.toNat)) .notPermitted []).freeBuffer p .control

/-- Whether a CONTROL payload has its form: a control header whose argument length is the payload's less 4 (section
2.1). -/
def controlForm (payload : List Byte) : Bool :=
  4 ≤ payload.length && beNat ((payload.drop 1).take 3) == payload.length - 4

/-- A CONTROL packet is placed: queued, or answered BUSY (R20). -/
def State.placeControl (s : State) (p : Port) (h : RxHeader) (payload : List Byte) : State :=
  let number := payload.head?.elim 0 (·.toNat)
  let q := s.control.queues[p]
  let s :=
    if q.length < Config.requestQueueDepth then
      { s with control :=
          { s.control with queues := s.control.queues.set p.val (q ++ [⟨number, h.tag, payload.drop 4⟩]) p.isLt } }
    else s.reply p h.tag number .busy []
  s.freeBuffer p .control

/-! ### ANSWERs and BLOCKs (R5 check 5, R18) -/

/-- The end of an ask that an ANSWER payload states, or none when its length does not match its status and the ask's kind,
or it states more bytes than a READ asked for (R5, R18, section 1.7). `received` is the number of bytes received.
DEDUCED, log entry 23; an ANSWER of right length with values outside section 1.7 is taken: DESIGN CHOICE, log entry 38. -/
def parseAnswer (body : AskBody) (received : Nat) (payload : List Byte) : Option AskEnd :=
  let field (at_ n : Nat) : Nat := beNat ((payload.drop at_).take n)
  match (payload.head?).map (·.toNat) with
  | some 1 => if payload.length = 5 then some (.error (BitVec.ofNat 32 (field 1 4))) else none
  | some 2 => if payload.length = 5 then some .noMedium else none
  | some 0 =>
    match body with
    | .identify => if payload.length = 13 then some (.ok (.identity (BitVec.ofNat 64 (field 5 8)))) else none
    | .openFile _ =>
      if payload.length = 17 then some (.ok (.opened (BitVec.ofNat 32 (field 5 4)) (field 9 8))) else none
    | .create _ _ _ => if payload.length = 9 then some (.ok (.created (BitVec.ofNat 32 (field 5 4)))) else none
    | .read _ _ length =>
      if payload.length = 9 ∧ field 5 4 ≤ length then some (.ok (.count (min (field 5 4) received))) else none
    | .write _ _ _ | .close _ => if payload.length = 5 then some (.ok .done) else none
  | _ => none

/-- A port's bulk queue with the unsent BLOCKs of a tag taken out (R17). -/
def PortState.dropBlocks (x : PortState) (tag : Nat) : PortState :=
  { x with queues := x.queues.map fun q => q.filter fun pk => !(pk.kind == .block && pk.owner == .ask tag) }

/-- An ask completes with an ANSWER: its entry is freed, its tag retired, and its asker told (R18). -/
def State.completeAsk (s : State) (p : Port) (tag : Nat) (l : LiveAsk) (r : AskEnd) : State :=
  let s := s.modPort p fun x => (x.setLive (tag % 64) none).dropBlocks tag
  (s.askEnded l.ask.purpose l.received r).engineSettle

/-- An ANSWER that passed the role and field checks (R5 checks 5 and 6, R18). -/
def State.takeAnswer (s : State) (p : Port) (h : RxHeader) (payload : List Byte) : State :=
  match (s.port p).liveAsk h.tag with
  | none => s.freeBuffer p .control
  | some l =>
    match parseAnswer l.ask.body l.received.length payload with
    | none => s.rejectPacket p .control h 5
    | some r =>
      if l.ask.endpoint.id = h.endpoint then (s.freeBuffer p .control).completeAsk p h.tag l r
      else s.rejectPacket p .control h 6

/-- The answer timeout of an endpoint in microseconds (R13, R17). -/
def State.timeoutUs (s : State) (e : EpName) : Nat :=
  (s.endpoint? e).elim Config.defaultTimeoutMs (·.timeoutMs) * 1000

/-- A live READ with more bytes; in AWAITING its timer restarts (R17, R18). -/
def LiveAsk.append (l : LiveAsk) (bytes : List Byte) (deadline : Word64) : LiveAsk :=
  { l with
    received := l.received ++ bytes
    phase := match l.phase with
      | .sending => .sending
      | .awaiting _ => .awaiting deadline }

/-- Whether a BLOCK may be appended to an ask: the ask is a READ and the total stays within its length (R18). -/
def LiveAsk.admits (l : LiveAsk) (n : Nat) : Bool :=
  match l.ask.body with
  | .read _ _ length => l.received.length + n ≤ length
  | .identify | .openFile _ | .create _ _ _ | .write _ _ _ | .close _ => false

/-- A BLOCK that passed the role and field checks (R5 checks 5 and 6, R18). One discarded for carrying the total past
the READ's length does not restart the answer timer (R17, R18): DESIGN CHOICE, log entry 42. -/
def State.takeBlock (s : State) (p : Port) (h : RxHeader) (payload : List Byte) : State :=
  match (s.port p).liveAsk h.tag with
  | none => s.freeBuffer p .bulk
  | some l =>
    if payload = [] ∨ Config.blockBytes < payload.length then s.rejectPacket p .bulk h 5
    else if l.ask.endpoint.id = h.endpoint then
      if l.admits payload.length then
        let deadline := s.later (s.timeoutUs l.ask.endpoint)
        (s.modPort p (·.setLive (h.tag % 64) (some (l.append payload deadline)))).freeBuffer p .bulk
      else s.rejectPacket p .bulk h 5
    else s.rejectPacket p .bulk h 6

/-! ### RASTERs (R5, R129) -/

/-- Bytes as arriving pixels: six bytes each, the low 12 bits of each code (section 1.7). -/
def parsePixels : List Byte → List Rgb
  | r1 :: r0 :: g1 :: g0 :: b1 :: b0 :: rest =>
    ⟨beNat [r1, r0] % 4096, beNat [g1, g0] % 4096, beNat [b1, b0] % 4096⟩ :: parsePixels rest
  | _ => []

/-- Pixels cut into lines of a width. -/
def splitLines (width : Nat) : Nat → List Rgb → List (List Rgb)
  | 0, _ => []
  | n + 1, xs => xs.take width :: splitLines width n (xs.drop width)

/-- A RASTER payload in its form: 12 plus 6 times the line count times the width, 1 to 8 lines (R5, section 1.7). Flag
bits other than the three read here are ignored: DESIGN CHOICE, log entry 38. -/
def parseRaster (p : Port) (payload : List Byte) : Option RasterPacket :=
  match payload with
  | c1 :: c0 :: f3 :: f2 :: f1 :: f0 :: l1 :: l0 :: n :: w1 :: w0 :: flags :: pixels =>
    let width := beNat [w1, w0]
    if 1 ≤ n.toNat ∧ n.toNat ≤ 8 ∧ pixels.length = 6 * n.toNat * width then
      some
        { port := p
          clip := beNat [c1, c0]
          frame := BitVec.ofNat 32 (beNat [f3, f2, f1, f0])
          firstLine := beNat [l1, l0]
          width := width
          frameStart := flags.getLsbD 0
          frameEnd := flags.getLsbD 1
          clipEnd := flags.getLsbD 2
          lines := splitLines width n.toNat (parsePixels pixels)
          waitedRelease := false }
    else none
  | _ => none

/-- A RASTER that passed the role check (R5 checks 5 and 6, R129): a stream whose decoder is another endpoint gets
LINK_PROTOCOL reason 6; a CLOSED stream discards it. -/
def State.takeRasterPacket (s : State) (p : Port) (st : StreamId) (h : RxHeader) (payload : List Byte) : State :=
  match parseRaster p payload with
  | none => s.rejectPacket p (.raster st) h 5
  | some pk =>
    if (s.stream st).state = .closed then s.freeBuffer p (.raster st)
    else if (s.stream st).params.decoder = ⟨p, h.endpoint⟩ then s.rasterArrives st pk
    else s.rejectPacket p (.raster st) h 6

/-! ### A packet frame (R4, R5) -/

/-- Checks 4 to 6 of R5 for a packet that passed the role check. -/
def State.deliver (s : State) (p : Port) (k : PacketKind) (c : PacketClass) (x : RxPacket) : State :=
  match k, c with
  | .raster, .raster st => s.takeRasterPacket p st x.header x.payload
  | .control, _ =>
    if x.header.stream ≠ 0 ∨ x.header.endpoint ≠ 0 then s.rejectPacket p c x.header 4
    else if controlForm x.payload then s.placeControl p x.header x.payload
    else s.rejectPacket p c x.header 5
  | .answer, _ =>
    if x.header.stream ≠ 0 then s.rejectPacket p c x.header 4 else s.takeAnswer p x.header x.payload
  | .block, _ =>
    if x.header.stream ≠ 0 then s.rejectPacket p c x.header 4 else s.takeBlock p x.header x.payload
  | _, _ => s.rejectPacket p c x.header 3

/-- Check 3 of R5: the port's roles allow the kind (R10, R20). -/
def State.checkRole (s : State) (p : Port) (k : PacketKind) (c : PacketClass) (x : RxPacket) : State :=
  if rolesAdmit (s.port p).roles k then s.deliver p k c x
  else if k = .control then s.refuseControl p x.header x.payload
  else s.rejectPacket p c x.header 3

/-- A packet frame with a good header check (R4, R5): class and credit from the header, then the CRC-32, then the other
checks (DEDUCED, log entry 13). -/
def State.receivePacket (s : State) (p : Port) (x : RxPacket) : State :=
  let discard (reason : Nat) : State := s.file (protocolFiling p x.header.endpoint reason)
  match PacketKind.ofCode x.header.kind with
  | none => discard 1
  | some k =>
    match k.packetClass x.header.stream with
    | none => discard 1
    | some c =>
      if (s.port p).partnerHolds c then
        let s := s.modPort p (·.countReceived c)
        if x.crcGood then s.checkRole p k c x else s.freeBuffer p c
      else discard 2

/-- A port's partner totals replaced by a good credit frame (R8). -/
def PortState.credited (x : PortState) (t : Word16 × Word16 × Word16 × Word16) : PortState :=
  { x with
    send := #v[⟨t.1, x.send[0].count⟩, ⟨t.2.1, x.send[1].count⟩, ⟨t.2.2.1, x.send[2].count⟩,
      ⟨t.2.2.2, x.send[3].count⟩] }

/-- A frame arrives on a port (R4): dropped unless the port is UP, checked by its type, a header error takes the port out
of UP. DESIGN CHOICE, log entry 14. -/
def State.receiveFrame (s : State) (p : Port) (frame : List Byte) : State :=
  if !s.isUp p then s
  else if frameType frame = 1 then
    match parsePacket frame with
    | none => s.leavePort p .headerError
    | some x => s.receivePacket p x
  else if frameType frame = 2 then
    match parseCredit frame with
    | none => s
    | some t => s.modPort p (·.credited t)
  else s.leavePort p .headerError

/-! ### The transmitter (R8, R9, R17, R29, R174) -/

/-- Whether the part holds credit of a class (R8). -/
def Credit.available (c : Credit) : Bool := c.total != c.count && (c.total - c.count).toNat ≤ 32767

/-- The send queues in round-robin order after the one last served (R9). -/
def roundRobin (last : Fin 4) : List (Fin 4) := [last + 1, last + 2, last + 3, last]

/-- Whether a queue can be served: not empty, and its class has credit (R8, R9). -/
def PortState.servable (x : PortState) (k : Fin 4) : Bool := !(x.queues[k]).isEmpty && (x.send[k]).available

/-- A credit frame starts (R6, R9): it carries the four totals, and the 1 ms timer starts. DEDUCED, log entry 29. -/
def PortState.startCredit (x : PortState) (timer : Word64) : PortState :=
  let f : TxFrame := .credit x.receive[0].total x.receive[1].total x.receive[2].total x.receive[3].total
  { x with creditDue := false, creditTimer := some timer, transmitting := some f, wire := f.bytes }

/-- The packet at the head of a queue starts, spending a credit (R8, R9). -/
def PortState.startPacket (x : PortState) (k : Fin 4) (pk : Packet) (rest : List Packet) : PortState :=
  { x with
    queues := x.queues.set k.val rest k.isLt
    send := x.send.set k.val { x.send[k] with count := x.send[k].count + 1 } k.isLt
    lastServed := k
    transmitting := some (.packet pk)
    wire := (TxFrame.packet pk).bytes }

/-- The head of a queue starts; the review unit is told that its packet has begun transmission (R9, R135, R136). -/
def State.servePacket (s : State) (p : Port) (k : Fin 4) : State :=
  match (s.port p).queues[k] with
  | [] => s
  | pk :: rest =>
    let s := s.modPort p (·.startPacket k pk rest)
    match pk.owner with
    | .raster st => s.outputGone st
    | .ask _ | .reply | .softRestartReply | .notice => s

/-- The transmitter of an UP port starts its next frame: a pending credit frame, or the next queue (R9). -/
def State.startFrameOn (s : State) (p : Port) : State :=
  let x := s.port p
  if x.link ≠ .up ∨ x.transmitting.isSome then s
  else if x.creditDue then s.modPort p (·.startCredit (s.later Config.creditIntervalUs))
  else
    match (roundRobin x.lastServed).find? x.servable with
    | none => s
    | some k => s.servePacket p k

/-- Whether packets of an ask are still to be sent. -/
def PortState.unsent (x : PortState) (tag : Nat) : Bool := x.queues.toList.any fun q => q.any fun pk => pk.owner == .ask tag

/-- The last packet of an ask has been sent: it enters AWAITING and its timer starts (R17). -/
def State.askSent (s : State) (p : Port) (tag : Nat) : State :=
  if (s.port p).unsent tag then s
  else
    match (s.port p).liveAsk tag with
    | none => s
    | some l =>
      let deadline := s.later (s.timeoutUs l.ask.endpoint)
      s.modPort p (·.setLive (tag % 64) (some { l with phase := .awaiting deadline }))

/-- The entry at a place of the log marked noticed (R29). -/
def markNoticed (log : List FaultEntry) (place : Nat) : List FaultEntry :=
  match log[place]? with
  | none => log
  | some e => log.set place { e with noticed := true }

/-- The NOTICE has been sent: its entry is marked noticed, and no notice is in flight (R29). -/
def State.noticeSent (s : State) : State :=
  let s := match s.control.notice with
    | .carrying place => { s with spotter := { s.spotter with log := markNoticed s.spotter.log place } }
    | .none | .orphan => s
  { s with control := { s.control with notice := .none } }

/-- A packet has been sent, and its owner is told (R9, R17, R29, R174). -/
def State.packetSent (s : State) (p : Port) (o : Owner) : State :=
  match o with
  | .ask tag => s.askSent p tag
  | .notice => s.noticeSent
  | .softRestartReply => { s with control := { s.control with softRestart := .ready } }
  | .reply | .raster _ => s

/-- The transmission of a port's frame ends (R9). -/
def State.endFrameOn (s : State) (p : Port) : State :=
  match (s.port p).transmitting with
  | none => s
  | some f =>
    let s := s.modPort p fun x => { x with transmitting := none, wire := [] }
    match f with
    | .credit _ _ _ _ => s
    | .packet pk => s.packetSent p pk.owner

/-! ### Timers and the waiting list (R6, R16, R19) -/

/-- The 1 ms credit timer of a port ends: a credit frame is due (R6; DESIGN CHOICE, log entry 8). -/
def State.creditTimerEnds (s : State) (p : Port) : State :=
  match (s.port p).creditTimer with
  | none => s
  | some t => (s.advanceTo t).modPort p fun x => { x with creditDue := true, creditTimer := none }

/-- The ask of an entry that is AWAITING, with the instant its timer ends. -/
def AskEntry.awaiting? (e : AskEntry) : Option (LiveAsk × Word64) :=
  match e.live with
  | none => none
  | some l =>
    match l.phase with
    | .sending => none
    | .awaiting t => some (l, t)

/-- The answer timer of an AWAITING ask ends: the ask fails with TIMEOUT (R19; DESIGN CHOICE, log entry 8). -/
def State.expireAsk (s : State) (p : Port) (entry : EntryId) : State :=
  match ((s.port p).asks[entry]).awaiting? with
  | none => s
  | some (l, t) =>
    let s := (s.advanceTo t).modPort p (·.setLive entry.val none)
    (s.askEnded l.ask.purpose l.received .timeout).engineSettle

/-- A free entry of a port goes to the ask that has waited longest (R16). -/
def State.grantEntry (s : State) (p : Port) : State :=
  match (s.port p).waiting, (s.port p).freeEntry with
  | a :: rest, some entry =>
    let up := s.isUp p
    let s := s.modPort p fun x => { x with waiting := rest }.place entry a
    (if up then s else s.askEnded a.purpose [] .lost).engineSettle
  | _, _ => s

/-! ### The meanings -/

/-- PARTNER_DETECTED (R1). -/
def execPartnerDetected (port : Port) (s : State) : Host.Outcome State Fault Refusal :=
  .next (s.whenRunning fun s =>
    if (s.port port).link = .down then s.modPort port fun x => { x with link := .training } else s)

/-- LINK_UP (R1, R3). -/
def execLinkUp (port : Port) (s : State) : Host.Outcome State Fault Refusal :=
  .next (s.whenRunning fun s => if (s.port port).link = .training then s.enterUp port else s)

/-- LINK_DOWN (R1, R2). -/
def execLinkDown (port : Port) (s : State) : Host.Outcome State Fault Refusal :=
  .next (s.whenRunning fun s =>
    match (s.port port).link with
    | .down => s
    | .training => s.modPort port fun x => { x with link := .down }
    | .up => s.leavePort port .linkDown)

/-- PACKET_FRAME_RECEIVED (R4, R5). -/
def execPacketFrameReceived (port : Port) (frame : List Byte) (s : State) : Host.Outcome State Fault Refusal :=
  .next (s.whenRunning fun s => s.receiveFrame port frame)

/-- CREDIT_FRAME_RECEIVED (R4, R8). -/
def execCreditFrameReceived (port : Port) (frame : List Byte) (s : State) : Host.Outcome State Fault Refusal :=
  .next (s.whenRunning fun s => s.receiveFrame port frame)

/-- CREDIT_FRAME_TIMER (R6). -/
def execCreditFrameTimer (port : Port) (s : State) : Host.Outcome State Fault Refusal :=
  .next (s.whenRunning fun s => s.creditTimerEnds port)

/-- FRAME_TRANSMIT_START (R9). DESIGN CHOICE, log entry 34. -/
def execFrameTransmitStart (port : Port) (s : State) : Host.Outcome State Fault Refusal :=
  .next (s.whenRunning fun s => s.startFrameOn port)

/-- FRAME_TRANSMIT_END (R9). -/
def execFrameTransmitEnd (port : Port) (s : State) : Host.Outcome State Fault Refusal :=
  .next (s.whenRunning fun s => s.endFrameOn port)

/-- ASK_EXPIRY (R19). -/
def execAskExpiry (port : Port) (entry : EntryId) (s : State) : Host.Outcome State Fault Refusal :=
  .next (s.whenRunning fun s => s.expireAsk port entry)

/-- ASK_ENTRY_GRANT (R16). -/
def execAskEntryGrant (port : Port) (s : State) : Host.Outcome State Fault Refusal :=
  .next (s.whenRunning fun s => s.grantEntry port)

end Sys2Proof.Machine
end

