-- ==== Sys2Proof/Machine/Operands.lean ====
section
/-!
DEFINITION. The argument forms of the requests (R22): each parser answers none for an argument length its request's rule
does not allow, and says nothing of the values. Multi-byte fields are most significant byte first.
-/

namespace Sys2Proof.Machine

/-- Two bytes as a number. -/
def be2 (a b : Byte) : Nat := beNat [a, b]

/-- Four bytes as a number. -/
def be4 (a b c d : Byte) : Nat := beNat [a, b, c, d]

/-- A port number, if it is at most 3. -/
def portOf (n : Nat) : Option Port := if h : n < 4 then some ⟨n, h⟩ else none

/-- A stream number, if it is at most 1. -/
def streamOf (n : Nat) : Option StreamId := if h : n < 2 then some ⟨n, h⟩ else none

/-- A look slot, if it is at most 15. -/
def slotOf (n : Nat) : Option (Fin 16) := if h : n < 16 then some ⟨n, h⟩ else none

/-- An endpoint name of a port at most 3 and an id from 1 to 15. -/
def nameOf (port id : Nat) : Option EpName :=
  match portOf port with
  | none => none
  | some p => if 1 ≤ id ∧ id ≤ 15 then some ⟨p, id⟩ else none

/-- A flag byte, 0 or 1. -/
def flagOf (n : Nat) : Option Bool := if n = 0 then some false else if n = 1 then some true else none

/-- A look number byte: 0 to 63, or 255 for NONE (R39, R111). -/
def lookOfCode (n : Nat) : Option (Option Nat) :=
  if n ≤ 63 then some (some n) else if n = 255 then some none else none

/-- No argument. -/
def parseNone (args : List Byte) : Option Unit :=
  match args with
  | [] => some ()
  | _ => none

/-- One byte. -/
def parseOne (args : List Byte) : Option Nat :=
  match args with
  | [a] => some a.toNat
  | _ => none

/-- Two one-byte fields. -/
def parseTwo (args : List Byte) : Option (Nat × Nat) :=
  match args with
  | [a, b] => some (a.toNat, b.toNat)
  | _ => none

/-- One two-byte field. -/
def parseWord (args : List Byte) : Option Nat :=
  match args with
  | [a, b] => some (be2 a b)
  | _ => none

/-- A one-byte field and two two-byte fields (R155 to R157). -/
def parseSite (args : List Byte) : Option (Nat × Nat × Nat) :=
  match args with
  | [a, b, c, d, e] => some (a.toNat, be2 b c, be2 d e)
  | _ => none

/-- A two-byte field and a one-byte field (R111). -/
def parseWordByte (args : List Byte) : Option (Nat × Nat) :=
  match args with
  | [a, b, c] => some (be2 a b, c.toNat)
  | _ => none

/-- The arguments of ENDPOINT ADD (R13; the layout is DESIGN CHOICE, log entry 7). -/
structure EndpointArgs where
  port : Nat
  id : Nat
  kind : Nat
  timeout : Nat
  deriving DecidableEq, Repr

/-- ENDPOINT ADD: port, id, kind (1 byte each), timeout (2 bytes). -/
def parseEndpoint (args : List Byte) : Option EndpointArgs :=
  match args with
  | [p, i, k, a, b] => some ⟨p.toNat, i.toNat, k.toNat, be2 a b⟩
  | _ => none

/-! ### JOB ADD (R39) -/

/-- A destination of a JOB ADD. -/
structure DestArgs where
  port : Nat
  id : Nat
  root : List Byte
  deriving DecidableEq, Repr

/-- A clip of a JOB ADD. -/
structure ClipArgs where
  tag : Nat
  fileId : Nat
  size : Nat
  flag : Nat
  frames : Nat
  look : Nat
  name : List Byte
  deriving DecidableEq, Repr

/-- The arguments of JOB ADD (R39). -/
structure JobArgs where
  port : Nat
  id : Nat
  limit : Nat
  dests : List DestArgs
  clips : List ClipArgs
  deriving DecidableEq, Repr

/-- A run of bytes of a stated length, and what follows it. -/
def splitRun (n : Nat) (args : List Byte) : Option (List Byte × List Byte) :=
  if n ≤ args.length then some (args.take n, args.drop n) else none

/-- One destination: port, id, root length, root. -/
def parseDest (args : List Byte) : Option (DestArgs × List Byte) :=
  match args with
  | p :: i :: n :: rest => (splitRun n.toNat rest).map fun r => (⟨p.toNat, i.toNat, r.1⟩, r.2)
  | _ => none

/-- One clip: camera tag, source file id, size, expected frame count flag and count, look number, name length, name. -/
def parseClip (args : List Byte) : Option (ClipArgs × List Byte) :=
  match args with
  | t :: f3 :: f2 :: f1 :: f0 :: s4 :: s3 :: s2 :: s1 :: s0 :: flag :: e3 :: e2 :: e1 :: e0 :: look :: n :: rest =>
    (splitRun n.toNat rest).map fun r =>
      (⟨t.toNat, be4 f3 f2 f1 f0, beNat [s4, s3, s2, s1, s0], flag.toNat, be4 e3 e2 e1 e0, look.toNat, r.1⟩, r.2)
  | _ => none

/-- A number of items, one after another. -/
def parseMany {α : Type} (item : List Byte → Option (α × List Byte)) : Nat → List Byte → Option (List α × List Byte)
  | 0, args => some ([], args)
  | n + 1, args =>
    match item args with
    | none => none
    | some (x, rest) => (parseMany item n rest).map fun r => (x :: r.1, r.2)

/-- JOB ADD: the argument length must be the one its counts and lengths imply (R22, R39). -/
def parseJob (args : List Byte) : Option JobArgs :=
  match args with
  | p :: i :: limit :: n :: rest =>
    match parseMany parseDest n.toNat rest with
    | some (dests, m :: rest) =>
      match parseMany parseClip m.toNat rest with
      | some (clips, []) => some ⟨p.toNat, i.toNat, limit.toNat, dests, clips⟩
      | _ => none
    | _ => none
  | _ => none

/-! ### LOOK DATA (R103) -/

/-- The arguments of LOOK DATA (R103). -/
structure LookDataArgs where
  slot : Nat
  code : Nat
  first : Nat
  entries : List Word32
  deriving DecidableEq, Repr

/-- Bytes as 32-bit entries. -/
def parseEntries : List Byte → List Word32
  | a :: b :: c :: d :: rest => (a ++ b ++ c ++ d : BitVec 32) :: parseEntries rest
  | _ => []

/-- LOOK DATA: 10 bytes plus 4 times the entry count (R103). -/
def parseLookData (args : List Byte) : Option LookDataArgs :=
  match args with
  | k :: t :: f3 :: f2 :: f1 :: f0 :: n3 :: n2 :: n1 :: n0 :: rest =>
    if rest.length = 4 * be4 n3 n2 n1 n0 then some ⟨k.toNat, t.toNat, be4 f3 f2 f1 f0, parseEntries rest⟩ else none
  | _ => none

/-! ### REVIEW OPEN (R128) -/

/-- The arguments of REVIEW OPEN (R128). -/
structure OpenArgs where
  stream : Nat
  decoderPort : Nat
  decoderId : Nat
  outputPort : Nat
  outputId : Nat
  width : Nat
  height : Nat
  encoding : Nat
  mode : Nat
  num : Nat
  den : Nat
  stall : Nat
  permission : Nat
  deriving DecidableEq, Repr

/-- REVIEW OPEN: 20 bytes (R128). -/
def parseOpen (args : List Byte) : Option OpenArgs :=
  match args with
  | [st, dp, di, op, oi, w1, w0, h1, h0, enc, mode, n3, n2, n1, n0, d1, d0, s1, s0, perm] =>
    some
      { stream := st.toNat
        decoderPort := dp.toNat
        decoderId := di.toNat
        outputPort := op.toNat
        outputId := oi.toNat
        width := be2 w1 w0
        height := be2 h1 h0
        encoding := enc.toNat
        mode := mode.toNat
        num := be4 n3 n2 n1 n0
        den := be2 d1 d0
        stall := be2 s1 s0
        permission := perm.toNat }
  | _ => none

/-! ### QC CONFIG and HOLD SET (R144, R164) -/

/-- The arguments of QC CONFIG (R144). -/
structure QcArgs where
  stream : Nat
  clipTap : Nat
  clipLevel : Nat
  clipFraction : Nat
  clipFrames : Nat
  blackTap : Nat
  blackLevel : Nat
  blackFrames : Nat
  hotThreshold : Nat
  hotFrames : Nat
  deriving DecidableEq, Repr

/-- QC CONFIG: 14 bytes (R144). -/
def parseQc (args : List Byte) : Option QcArgs :=
  match args with
  | [st, ct, l1, l0, p1, p0, kc, bt, t1, t0, kb, h1, h0, kh] =>
    some ⟨st.toNat, ct.toNat, be2 l1 l0, be2 p1 p0, kc.toNat, bt.toNat, be2 t1 t0, kb.toNat, be2 h1 h0, kh.toNat⟩
  | _ => none

/-- The arguments of HOLD SET (R164). -/
structure HoldArgs where
  point : Nat
  stream : Nat
  condition : Nat
  clip : Nat
  frame : Nat
  kind : Nat
  oneShot : Nat
  deriving DecidableEq, Repr

/-- HOLD SET: 11 bytes (R164). -/
def parseHold (args : List Byte) : Option HoldArgs :=
  match args with
  | [pt, st, ty, c1, c0, f3, f2, f1, f0, k, os] =>
    some ⟨pt.toNat, st.toNat, ty.toNat, be2 c1 c0, be4 f3 f2 f1 f0, k.toNat, os.toNat⟩
  | _ => none

end Sys2Proof.Machine
end

