-- ==== Sys2Proof/Machine/Control.lean ====
section
/-!
DEFINITION. The control unit's path of a request (R21 to R24): the arbiter, the number and length checks, the reply; the
answer to an unknown request; the notice egress (R28).
-/

namespace Sys2Proof.Machine

/-! ### The arbiter (R21) -/

/-- The ports in circular order after the port served last (R21). -/
def portsAfter (p : Port) : List Port := [p + 1, p + 2, p + 3, p]

/-- The oldest request of a port's queue. -/
def State.oldestRequest (s : State) (p : Port) : Option (Port × Request) :=
  (s.control.queues[p]).head?.map fun r => (p, r)

/-- The request the control unit takes next (R21): the oldest of the first non-empty queue after the port it served last.
Once a SOFT RESTART has been carried out it takes none (R174). -/
def State.nextRequest (s : State) : Option (Port × Request) :=
  if s.control.softRestart = .none then (portsAfter s.control.lastServed).findSome? s.oldestRequest else none

/-- The taken request leaves its queue, and its port becomes the port served last (R21). -/
def State.takeRequest (s : State) (p : Port) : State :=
  { s with control :=
      { s.control with queues := s.control.queues.set p.val (s.control.queues[p]).tail p.isLt, lastServed := p } }

/-! ### Carrying out a request (R22, R23) -/

/-- An outcome with its result fields (R23). -/
structure Reply where
  code : ReplyCode
  result : List Byte
  deriving DecidableEq, Repr

/-- DONE with result fields. -/
def Reply.done (result : List Byte) : Reply := ⟨.done, result⟩

/-- An outcome without result fields. -/
def Reply.refuse (code : ReplyCode) : Reply := ⟨code, []⟩

/-- What a request's rule answers: none for an argument length it does not allow (R22), else the state and the reply. -/
abbrev Served := Option (State × Reply)

/-- A request refused with an outcome: it has no effect beyond its reply (R23). -/
def State.refuse (s : State) (code : ReplyCode) : Served := some (s, Reply.refuse code)

/-- A request answered DONE. -/
def State.done (s : State) (result : List Byte) : Served := some (s, Reply.done result)

/-- The control unit takes the next request and carries it out by a rule, if it is the request of this number; else
nothing happens (R21; DESIGN CHOICE, log entry 2). -/
def State.carryOut (s : State) (number : Nat) (rule : State → Port → Request → State) : State :=
  s.whenRunning fun s =>
    match s.nextRequest with
    | none => s
    | some (p, r) => if r.number = number then rule (s.takeRequest p) p r else s

/-- A request's reply is handed over (R22, R23). -/
def State.answer (s : State) (p : Port) (r : Request) (y : Served) : State :=
  match y with
  | none => s.reply p r.tag r.number .badArgument []
  | some (t, y) => t.reply p r.tag r.number y.code y.result

/-- A request that is replied to at once is carried out by its rule on its arguments (R21 to R23). -/
def State.serve (s : State) (number : Nat) (rule : State → List Byte → Served) : State :=
  s.carryOut number fun s p r => s.answer p r (rule s r.args)

/-- Arguments parsed, and the values judged by a rule (R22). -/
def withArgs {α : Type} (x : Option α) (rule : α → Served) : Served := x.bind rule

/-! ### Unknown requests (R22) -/

/-- Whether a number names a request (R22 check 1). -/
def knownRequest (n : Nat) : Bool :=
  (0x01 ≤ n && n ≤ 0x08) || (0x10 ≤ n && n ≤ 0x1A) || (0x20 ≤ n && n ≤ 0x26) || (0x30 ≤ n && n ≤ 0x32) ||
    (0x38 ≤ n && n ≤ 0x40) || (0x48 ≤ n && n ≤ 0x4A)

/-- UNKNOWN_REQUEST (R22). -/
def execUnknownRequest (s : State) : Host.Outcome State Fault Refusal :=
  .next (s.whenRunning fun s =>
    match s.nextRequest with
    | none => s
    | some (p, r) =>
      if knownRequest r.number then s else (s.takeRequest p).reply p r.tag r.number .unknownRequest [])

/-! ### The notice egress (R28) -/

/-- The presence bits of a fault entry (section 3.9). -/
def FaultEntry.presence (e : FaultEntry) : Nat :=
  bitIf e.clip.isSome 0x01 + bitIf e.frame.isSome 0x02 + bitIf e.endpoint.isSome 0x04 +
    bitIf e.coordinate.isSome 0x08 + bitIf e.stream.isSome 0x10

/-- A fault entry as returned: 28 bytes (section 3.9). -/
def FaultEntry.bytes (e : FaultEntry) : List Byte :=
  [byteOf e.kind.code, byteOf e.kind.severity, byteOf e.presence, byteOf (e.stream.elim 0 (·.val))] ++
    beBytes 8 e.time.toNat ++ beBytes 2 (e.clip.getD 0) ++ beBytes 4 (e.frame.elim 0 (·.toNat)) ++
    [byteOf (e.endpoint.elim 0 (·.port.val)), byteOf (e.endpoint.elim 0 (·.id))] ++
    beBytes 2 (e.coordinate.elim 0 (·.1)) ++ beBytes 2 (e.coordinate.elim 0 (·.2)) ++ beBytes 4 e.detail.toNat

/-- Un-noticed log entries of a severity, by place. -/
def unnoticedOf (log : List FaultEntry) (severity : Nat) : Option Nat :=
  log.findIdx? fun e => !e.noticed && e.kind.severity == severity

/-- The place of the entry the egress chooses: of the highest severity, the oldest (R28). -/
def noticePlace (log : List FaultEntry) : Option Nat := [3, 2, 1, 0].findSome? (unnoticedOf log)

/-- The NOTICE packet of an entry (R28). -/
def noticePacket (e : FaultEntry) : Packet where
  kind := .notice
  endpoint := 0
  stream := 0
  tag := 0
  payload := e.bytes
  owner := .notice

/-- The notice egress chooses an entry when it may (R28). -/
def State.chooseNotice (s : State) : State :=
  let p := s.control.noticePort
  if s.control.notice = .none && s.isUp p && hasRole (s.port p).roles .control then
    match noticePlace s.spotter.log with
    | none => s
    | some n =>
      match s.spotter.log[n]? with
      | none => s
      | some e =>
        { s.modPort p (·.enqueue .control (noticePacket e)) with control := { s.control with notice := .carrying n } }
  else s

/-- NOTICE_CHOOSE (R28). -/
def execNoticeChoose (s : State) : Host.Outcome State Fault Refusal := .next (s.whenRunning fun s => s.chooseNotice)

end Sys2Proof.Machine
end

