-- ==== Sys2Proof/Machine/Device.lean ====
section
/-!
DEFINITION. The requests of the device group (0x01 to 0x08): STATUS READ (R26), SOFT RESTART (R174), OPTIONS READ (R171),
PORT ROLES SET (R11), ENDPOINT ADD, REMOVE and LIST (R13 to R15), NOTICE PORT SET (R27). The layouts the manual does not
state are DESIGN CHOICE, log entry 7.
-/

namespace Sys2Proof.Machine

/-! ### STATUS READ (R26) -/

/-- The job records allocated. -/
def State.jobsInUse (s : State) : Nat := (s.table.jobs.toList.filterMap id).length

/-- The clip records allocated. -/
def State.clipsInUse (s : State) : Nat := (s.table.clips.toList.filterMap id).length

/-- The STATUS READ result, 22 bytes (section 2.6). -/
def State.statusBytes (s : State) : List Byte :=
  [byteOf s.supply.resetCause.code, byteOf s.supply.state.code, byteOf (flagCode s.supply.defaulted),
    byteOf s.offload.state.code, byteOf (pauseCode s.offload), byteOf s.buffersHeld, byteOf s.jobsInUse] ++
    beBytes 2 s.clipsInUse ++ [byteOf s.spotter.log.length] ++ beBytes 4 s.spotter.overflow ++ beBytes 8 s.now.toNat

/-- The state with the reset cause record empty (R26). -/
def State.clearCause (s : State) : State := { s with supply := { s.supply with resetCause := ⟨false, false, false⟩ } }

/-- STATUS READ (R26). -/
def State.statusRead (s : State) (args : List Byte) : Served :=
  withArgs (parseNone args) fun _ => s.clearCause.done s.statusBytes

/-- STATUS_READ, request 0x01 (R26). -/
def execStatusRead (s : State) : Host.Outcome State Fault Refusal := .next (s.serve 0x01 State.statusRead)

/-! ### SOFT RESTART (R174) -/

/-- SOFT RESTART is answered DONE, and the restart waits for the reply to leave or be dropped (R174). -/
def State.softRestartRequest (s : State) (p : Port) (r : Request) : State :=
  match parseNone r.args with
  | none => s.reply p r.tag r.number .badArgument []
  | some _ =>
    if s.isUp p then
      let s := s.modPort p (·.enqueue .control (replyPacket r.tag r.number .done [] .softRestartReply))
      { s with control := { s.control with softRestart := .replyPending } }
    else { s with control := { s.control with softRestart := .ready } }

/-- SOFT_RESTART, request 0x02 (R174). -/
def execSoftRestart (s : State) : Host.Outcome State Fault Refusal := .next (s.carryOut 0x02 State.softRestartRequest)

/-! ### OPTIONS READ (R171) -/

/-- A WARN level's code (section 12.5). -/
def warnCode (mv : Nat) : Nat := (mv - 3100) / 50

/-- A CRIT level's code (section 12.5). -/
def critCode (mv : Nat) : Nat := (mv - 2900) / 50

/-- The option block layout, 11 bytes (section 12.5). -/
def Options.bytes (o : Options) : List Byte :=
  [byteOf 1, byteOf (warnCode o.warnMv), byteOf (critCode o.critMv), byteOf (flagCode o.quiesce),
    byteOf (flagCode o.restartLong), byteOf (flagCode o.resumeLong)] ++
    (o.roles.toList.map fun r => byteOf r.toNat) ++ [byteOf o.noticePort.val]

/-- OPTIONS READ (R171). -/
def State.optionsRead (s : State) (args : List Byte) : Served :=
  withArgs (parseNone args) fun _ => s.done (s.supply.options.bytes ++ [byteOf (flagCode s.supply.defaulted)])

/-- OPTIONS_READ, request 0x03 (R171). -/
def execOptionsRead (s : State) : Host.Outcome State Fault Refusal := .next (s.serve 0x03 State.optionsRead)

/-! ### PORT ROLES SET (R11) -/

/-- Whether a job is QUEUED, IDENTIFYING, ACTIVE or SUSPENDED and names an endpoint (R11, R14). -/
def JobRecord.liveNames (j : JobRecord) (e : EpName) : Bool :=
  !j.state.finished && (j.source == e || j.dests.any fun d => d.endpoint == e)

/-- Whether a job that is not DONE, DONE_INCOMPLETE or CANCELLED names an endpoint (R11, R14). -/
def State.jobNames (s : State) (e : EpName) : Bool :=
  s.table.jobs.toList.any fun x =>
    match x with
    | none => false
    | some j => j.liveNames e

/-- Whether an open review stream uses a role of a port: DECODE for its decoder, DISPLAY for its output (R11). -/
def State.streamUses (s : State) (p : Port) (r : Role) : Bool :=
  allStreams.any fun st =>
    (s.stream st).state != .closed &&
      ((r == .decode && (s.stream st).params.decoder.port == p) ||
        (r == .display && (s.stream st).params.output.port == p))

/-- Whether a role of a port is in use (R11). -/
def State.roleInUse (s : State) (p : Port) (r : Role) : Bool :=
  s.streamUses p r || s.link.endpoints.any fun e => e.name.port == p && e.kind.role == r && s.jobNames e.name

/-- The roles. -/
def allRoles : List Role := [.control, .source, .dest, .decode, .display]

/-- Whether a new role set removes a role still in use (R11). -/
def State.removesUsed (s : State) (p : Port) (roles : BitVec 5) : Bool :=
  allRoles.any fun r => hasRole (s.port p).roles r && !hasRole roles r && s.roleInUse p r

/-- The state with a port's role set replaced. -/
def State.setRoles (s : State) (p : Port) (roles : BitVec 5) : State := s.modPort p fun x => { x with roles := roles }

/-- Whether some port has the CONTROL role. -/
def State.anyControl (s : State) : Bool := allPorts.any fun p => hasRole (s.port p).roles .control

/-- PORT ROLES SET (R11): a port and a role set, one byte each. -/
def State.portRolesSet (s : State) (args : List Byte) : Served :=
  withArgs (parseTwo args) fun a =>
    match portOf a.1 with
    | none => s.refuse .badArgument
    | some p =>
      let roles := BitVec.ofNat 5 a.2
      if 31 < a.2 then s.refuse .badArgument
      else if s.removesUsed p roles then s.refuse .inUse
      else if (s.setRoles p roles).anyControl then (s.setRoles p roles).done [byteOf a.2]
      else s.refuse .notPermitted

/-- PORT_ROLES_SET, request 0x04 (R11). -/
def execPortRolesSet (s : State) : Host.Outcome State Fault Refusal := .next (s.serve 0x04 State.portRolesSet)

/-! ### ENDPOINT ADD, REMOVE and LIST (R13 to R15) -/

/-- The answer timeout an argument stands for, if it is 0 or within 100 to 10,000 (R13). -/
def timeoutOf (n : Nat) : Option Nat :=
  if n = 0 then some Config.defaultTimeoutMs else if 100 ≤ n ∧ n ≤ 10000 then some n else none

/-- An endpoint table with an entry more, in ascending order of port, then id (R15). -/
def insertEndpoint (e : Endpoint) (es : List Endpoint) : List Endpoint :=
  es.filter (fun x => x.name.key < e.name.key) ++ e :: es.filter (fun x => e.name.key ≤ x.name.key)

/-- ENDPOINT ADD (R13). -/
def State.endpointAdd (s : State) (args : List Byte) : Served :=
  withArgs (parseEndpoint args) fun a =>
    match nameOf a.port a.id, EndpointKind.ofCode a.kind, timeoutOf a.timeout with
    | some e, some k, some t =>
      if (s.endpoint? e).isSome then s.refuse .badArgument
      else if !hasRole (s.port e.port).roles k.role then s.refuse .notPermitted
      else if Config.endpointLimit ≤ s.link.endpoints.length then s.refuse .full
      else
        let entry : Endpoint := ⟨e, k, t, if s.isUp e.port then .online else .offline⟩
        (s.setEndpoints (insertEndpoint entry s.link.endpoints)).done []
    | _, _, _ => s.refuse .badArgument

/-- ENDPOINT_ADD, request 0x05 (R13). -/
def execEndpointAdd (s : State) : Host.Outcome State Fault Refusal := .next (s.serve 0x05 State.endpointAdd)

/-- Whether an open stream has an endpoint as its decoder or output (R14). -/
def State.streamNames (s : State) (e : EpName) : Bool :=
  allStreams.any fun st =>
    (s.stream st).state != .closed && ((s.stream st).params.decoder == e || (s.stream st).params.output == e)

/-- ENDPOINT REMOVE (R14). -/
def State.endpointRemove (s : State) (args : List Byte) : Served :=
  withArgs (parseTwo args) fun a =>
    match nameOf a.1 a.2 with
    | none => s.refuse .badArgument
    | some e =>
      match s.endpoint? e with
      | none => s.refuse .notFound
      | some x =>
        if x.state = .draining then s.refuse .wrongState
        else if s.jobNames e || s.streamNames e || s.asksTo e != 0 then s.refuse .inUse
        else (s.setEndpoints (s.link.endpoints.filter fun y => y.name != e)).done []

/-- ENDPOINT_REMOVE, request 0x06 (R14). -/
def execEndpointRemove (s : State) : Host.Outcome State Fault Refusal := .next (s.serve 0x06 State.endpointRemove)

/-- An endpoint table entry as returned (R15). -/
def State.endpointBytes (s : State) (e : Endpoint) : List Byte :=
  [byteOf e.name.port.val, byteOf e.name.id, byteOf e.kind.code] ++ beBytes 2 e.timeoutMs ++
    [byteOf e.state.code, byteOf (s.entriesTo e.name)]

/-- ENDPOINT LIST (R15). -/
def State.endpointList (s : State) (args : List Byte) : Served :=
  withArgs (parseNone args) fun _ =>
    s.done (byteOf s.link.endpoints.length :: (s.link.endpoints.map s.endpointBytes).flatten)

/-- ENDPOINT_LIST, request 0x07 (R15). -/
def execEndpointList (s : State) : Host.Outcome State Fault Refusal := .next (s.serve 0x07 State.endpointList)

/-! ### NOTICE PORT SET (R27) -/

/-- NOTICE PORT SET (R27). -/
def State.noticePortSet (s : State) (args : List Byte) : Served :=
  withArgs (parseOne args) fun n =>
    match portOf n with
    | none => s.refuse .badArgument
    | some p =>
      if hasRole (s.port p).roles .control then
        State.done { s with control := { s.control with noticePort := p } } [byteOf n]
      else s.refuse .notPermitted

/-- NOTICE_PORT_SET, request 0x08 (R27). -/
def execNoticePortSet (s : State) : Host.Outcome State Fault Refusal := .next (s.serve 0x08 State.noticePortSet)

end Sys2Proof.Machine
end

