-- ==== Sys2Proof/Machine/ReviewRequests.lean ====
section
/-!
DEFINITION. The requests REVIEW OPEN, REVIEW CLOSE and REVIEW READ (0x30 to 0x32; R128, R140, R142, R169), and the review
unit's own steps: RASTER_TAKEN (R129), PACING_TICK (R136), STALL_TIMER_EXPIRY (R138), REGRADE_END (R167).
-/

namespace Sys2Proof.Machine

/-! ### REVIEW OPEN (R128) -/

/-- Whether a rate is admitted in PACED mode (R128 check 1). -/
def OpenArgs.rateGood (a : OpenArgs) : Bool :=
  1 ≤ a.num && a.num ≤ 655350 && 1 ≤ a.den && a.den ≤ 65535 && a.den ≤ a.num && a.num ≤ 120 * a.den

/-- Whether the plain values of a REVIEW OPEN are in range (R128 check 1). -/
def OpenArgs.good (a : OpenArgs) : Bool :=
  16 ≤ a.width && a.width ≤ 4096 && 16 ≤ a.height && a.height ≤ 2304 &&
    (a.stall == 0 || (10 ≤ a.stall && a.stall ≤ 10000)) && (a.mode != 1 || a.rateGood)

/-- The stream and parameters a REVIEW OPEN names, if its values pass check 1 (R128). -/
def OpenArgs.params (a : OpenArgs) : Option (StreamId × StreamParams) :=
  if a.good then
    match streamOf a.stream, nameOf a.decoderPort a.decoderId, nameOf a.outputPort a.outputId,
      Encoding.ofCode a.encoding, Mode.ofCode a.mode, flagOf a.permission with
    | some st, some decoder, some output, some encoding, some mode, some permission =>
      some (st,
        { decoder := decoder
          output := output
          width := a.width
          height := a.height
          encoding := encoding
          mode := mode
          rateNum := a.num
          rateDen := a.den
          stallMs := if a.stall = 0 then Config.defaultStallMs else a.stall
          clearWhileHeld := permission })
    | _, _, _, _, _, _ => none
  else none

/-- A port with the raster credits of a stream raised so that the credits outstanding equal `free` (R7). -/
def PortState.grantRaster (x : PortState) (st : StreamId) (free : Nat) : PortState :=
  let k := (PacketClass.raster st).index
  let old := x.receive[k]
  let total := old.count + BitVec.ofNat 16 free
  { x with
    receive := x.receive.set k.val { old with total := total } k.isLt
    creditDue := x.creditDue || total != old.total }

/-- The fault spotter's stream at REVIEW OPEN: measures cleared, filters reset, candidates gone (R145, R148, R153). -/
def SpotterStream.opened (x : SpotterStream) : SpotterStream := { x.leaveClip with measures := Measures.zero }

/-- A stream is opened (R128, R7). -/
def State.openStream (s : State) (st : StreamId) (p : StreamParams) : State :=
  let s := s.modStream st fun _ => { Stream.closed p with state := .waiting }
  let s := (s.restartStall st).modSpot st (·.opened)
  let port := p.decoder.port
  if s.isUp port then s.modPort port (·.grantRaster st (s.rasterGrant st port)) else s

/-- REVIEW OPEN (R128). -/
def State.reviewOpen (s : State) (args : List Byte) : Served :=
  withArgs (parseOpen args) fun a =>
    match a.params with
    | none => s.refuse .badArgument
    | some (st, p) =>
      if (s.stream st).state ≠ .closed then s.refuse .wrongState
      else if (s.endpoint? p.decoder).isNone || (s.endpoint? p.output).isNone then s.refuse .notFound
      else
        let kinds : Bool :=
          (s.endpoint? p.decoder).any (fun e => e.kind == .decoder) &&
            (s.endpoint? p.output).any fun e => e.kind == .display
        if !kinds then s.refuse .badArgument
        else if !(hasRole (s.port p.decoder.port).roles .decode && hasRole (s.port p.output.port).roles .display) then
          s.refuse .notPermitted
        else (s.openStream st p).done []

/-- REVIEW_OPEN, request 0x30 (R128). -/
def execReviewOpen (s : State) : Host.Outcome State Fault Refusal := .next (s.serve 0x30 State.reviewOpen)

/-! ### REVIEW CLOSE (R140, R169) -/

/-- A stream without its frame in progress and latch (R140 steps 1 and 2). -/
def Stream.dropFrame (x : Stream) : Stream :=
  match x.params.mode with
  | .streaming => { x with frame := none, latch := none }
  | .paced => { x with frame := none, latch := none, backState := .idle, back := none }

/-- A stream is closed (R140 steps 1 to 7, R169). The counts, marks and buffers that the rule does not name take the value
they have after a restart: DESIGN CHOICE, log entry 41. -/
def State.closeStream (s : State) (st : StreamId) : State :=
  let s := s.modStream st (·.dropFrame)
  let s := s.fileRun st
  let s := if (s.stream st).currentClip.isSome then s.finalise st else s
  let output := (s.stream st).params.output.port
  let s := s.modPort output (·.removePackets fun o => o == .raster st)
  let s := s.modSpot st fun x => { x with measures := Measures.zero }
  s.modStream st fun x => Stream.closed x.params

/-- A request on a stream number: above 1 BAD_ARGUMENT. -/
def State.onStream (s : State) (n : Nat) (rule : StreamId → Served) : Served :=
  match streamOf n with
  | none => s.refuse .badArgument
  | some st => rule st

/-- REVIEW CLOSE (R140). -/
def State.reviewClose (s : State) (args : List Byte) : Served :=
  withArgs (parseOne args) fun n => s.onStream n fun st =>
    if (s.stream st).state = .closed then s.refuse .wrongState else (s.closeStream st).done []

/-- REVIEW_CLOSE, request 0x31 (R140). -/
def execReviewClose (s : State) : Host.Outcome State Fault Refusal := .next (s.serve 0x31 State.reviewClose)

/-! ### REVIEW READ (R142) -/

/-- An endpoint name as returned: port and id. -/
def EpName.bytes (e : EpName) : List Byte := [byteOf e.port.val, byteOf e.id]

/-- The frame in progress as returned: frame number, next expected line, marks (R142); zero when there is none. -/
def frameBytes : Option FrameInProgress → List Byte
  | none => beBytes 7 0
  | some x =>
    beBytes 4 x.number.toNat ++ beBytes 2 x.next ++
      [byteOf (bitIf x.refused 0x01 + bitIf x.gap 0x02 + bitIf x.geometry 0x04 + bitIf x.damaged 0x08)]

/-- An open stream's status as returned (R142). DEDUCED, log entry 22. -/
def Stream.openBytes (x : Stream) : List Byte :=
  [byteOf x.state.code, byteOf x.params.mode.code, byteOf x.params.encoding.code] ++ beBytes 2 x.params.width ++
    beBytes 2 x.params.height ++ x.params.decoder.bytes ++ x.params.output.bytes ++
    [byteOf (bitIf x.currentClip.isSome 0x01 + bitIf x.lastFrame.isSome 0x02 + bitIf x.frame.isSome 0x04 +
      bitIf x.origin.isSome 0x08)] ++
    beBytes 2 (x.currentClip.getD 0) ++ beBytes 4 (x.lastFrame.elim 0 (·.toNat)) ++ frameBytes x.frame ++
    (x.graded.bytes.map byteOf) ++ [byteOf x.backState.code] ++ beBytes 4 x.tick ++ beBytes 4 x.run.length ++
    beBytes 4 x.processed ++ beBytes 4 x.gated ++ beBytes 4 x.stray ++ beBytes 4 x.skipped ++ beBytes 4 x.overruns

/-- A CLOSED stream's status: all zero but the endpoints, width and height of the last opening (R142). -/
def Stream.closedBytes (x : Stream) : List Byte :=
  [byteOf x.state.code, 0, 0] ++ beBytes 2 x.params.width ++ beBytes 2 x.params.height ++ x.params.decoder.bytes ++
    x.params.output.bytes ++ List.replicate 45 0

/-- A stream's status as returned (R142). -/
def Stream.bytes (x : Stream) : List Byte := if x.state = .closed then x.closedBytes else x.openBytes

/-- REVIEW READ (R142). -/
def State.reviewRead (s : State) (args : List Byte) : Served :=
  withArgs (parseOne args) fun n => s.onStream n fun st => s.done (s.stream st).bytes

/-- REVIEW_READ, request 0x32 (R142). -/
def execReviewRead (s : State) : Host.Outcome State Fault Refusal := .next (s.serve 0x32 State.reviewRead)

/-! ### The review unit's own steps -/

/-- RASTER_TAKEN (R129). -/
def execRasterTaken (stream : StreamId) (s : State) : Host.Outcome State Fault Refusal :=
  .next (s.whenRunning fun s => s.takeRaster stream)

/-- The stream's pacing timer ticks (R136, R166; DESIGN CHOICE, log entry 8). -/
def State.pacingTicks (s : State) (st : StreamId) : State :=
  match (s.stream st).nextTick.origin with
  | none => s
  | some o =>
    let x := (s.stream st).nextTick
    let s := s.advanceTo (tickInstant x.params o x.tick)
    (s.modStream st fun _ => x).tick st (x.state == .held)

/-- PACING_TICK (R136). -/
def execPacingTick (stream : StreamId) (s : State) : Host.Outcome State Fault Refusal :=
  .next (s.whenRunning fun s => s.pacingTicks stream)

/-- The STALL filing of a stream (R138). -/
def stallFiling (st : StreamId) (x : Stream) : Filing :=
  { kind := .stall, clip := x.currentClip, stream := some st, detail := x.params.stallMs }

/-- A stream's stall timer expires: STALL is filed, unless this is the first interval after a release (R138, R168). -/
def State.stallExpires (s : State) (st : StreamId) : State :=
  let x := s.stream st
  match x.stallTimer with
  | none => s
  | some t =>
    let s := (s.advanceTo t).modStream st fun y => { y with stallTimer := none, stallSilent := false }
    if x.stallSilent then s else s.file (stallFiling st x)

/-- STALL_TIMER_EXPIRY (R138). -/
def execStallTimerExpiry (stream : StreamId) (s : State) : Host.Outcome State Fault Refusal :=
  .next (s.whenRunning fun s => s.stallExpires stream)

/-- Whether a stream's regrade can end now: in STREAMING mode its packets have all been handed over (R167). -/
def Stream.regradeDone (x : Stream) : Bool := x.regrading && (x.params.mode == .paced || x.presenting.isEmpty)

/-- A stream after the end of its regrade (R167 step 4). -/
def Stream.endRegrade (x : Stream) : Stream :=
  let x := { x with latch := none, regrading := false, regradeAgain := false }
  match x.params.mode with
  | .paced => { x with backState := .ready }
  | .streaming => x

/-- A regrade finishes; a regrade-again mark starts another (R167). -/
def State.finishRegrade (s : State) (st : StreamId) : State :=
  if (s.stream st).regradeDone then
    let again := (s.stream st).regradeAgain
    let s := s.modStream st (·.endRegrade)
    if again then s.startRegrade st else s
  else s

/-- REGRADE_END (R167). -/
def execRegradeEnd (stream : StreamId) (s : State) : Host.Outcome State Fault Refusal :=
  .next (s.whenRunning fun s => s.finishRegrade stream)

end Sys2Proof.Machine
end

