-- ==== Sys2Proof/Machine/Table.lean ====
section
/-!
DEFINITION. The requests on jobs, clips and the offload engine (0x10 to 0x18): JOB ADD, JOB REMOVE, JOB READ, CLIP READ
(R39 to R43), JOB CANCEL, JOB RESUME, CHANNEL LIMIT SET, OFFLOAD PAUSE and OFFLOAD CONTINUE (R59 to R61, R64, R65).
-/

namespace Sys2Proof.Machine

/-! ### JOB ADD (R39, R40) -/

/-- The names of a JOB ADD's destinations, if every port and id is in range. -/
def JobArgs.destNames (a : JobArgs) : Option (List EpName) := a.dests.mapM fun d => nameOf d.port d.id

/-- Whether a clip's values are in range (R39 check 1). -/
def ClipArgs.good (c : ClipArgs) : Bool :=
  c.tag ≤ 15 && c.flag ≤ 1 && (lookOfCode c.look).isSome && !c.name.isEmpty

/-- Whether a list holds no value twice. -/
def noRepeat {α : Type} [BEq α] : List α → Bool
  | [] => true
  | x :: xs => !xs.contains x && noRepeat xs

/-- Whether the values of a JOB ADD pass the first check, its endpoints apart (R39 check 1). -/
def JobArgs.good (a : JobArgs) (dests : List EpName) : Bool :=
  a.limit ≤ 8 && 1 ≤ a.dests.length && a.dests.length ≤ 4 && 1 ≤ a.clips.length && a.clips.length ≤ 128 &&
    a.dests.all (fun d => !d.root.isEmpty) && a.clips.all ClipArgs.good && noRepeat dests &&
    noRepeat (a.clips.map (·.name))

/-- Whether an endpoint table entry has a kind. -/
def State.kindIs (s : State) (e : EpName) (k : EndpointKind) : Bool :=
  match s.endpoint? e with
  | none => false
  | some x => x.kind == k

/-- Whether an endpoint is DRAINING or RELEASED (R39 check 4). -/
def State.leaving (s : State) (e : EpName) : Bool :=
  match s.endpoint? e with
  | none => false
  | some x => x.state == .draining || x.state == .released

/-- The lowest-numbered free job record. -/
def State.freeJob (s : State) : Option Nat := s.table.jobs.toList.findIdx? fun x => x.isNone

/-- The free clip records, in ascending order. -/
def State.freeClips (s : State) : List Nat :=
  (s.table.clips.toList.zipIdx.filter fun xi => xi.1.isNone).map fun xi => xi.2

/-- A new clip record (R30 to R33, section 3.2, R40). -/
def ClipArgs.record (c : ClipArgs) (job : Nat) (dests : List EpName) : ClipRecord where
  job := job
  cameraTag := c.tag
  fileId := BitVec.ofNat 32 c.fileId
  name := c.name
  size := c.size
  expectedFrames := if c.flag = 1 then some (BitVec.ofNat 32 c.frames) else none
  look := (lookOfCode c.look).join
  copyState := .waiting
  hashed := 0
  register := crc64Start
  fileCrc := none
  dests := dests.map fun e => ⟨e, .pending, 0, 0, none⟩
  qc := .unchecked
  framesSeen := 0
  highestFrame := none
  copyFaults := 0
  pictureFaults := 0
  timingFaults := 0
  currentStreams := Vector.replicate 2 false

/-- A new job record (R37, R40). -/
def JobArgs.record (a : JobArgs) (source : EpName) (dests : List EpName) (clips : List Nat) : JobRecord where
  source := source
  dests := (dests.zip a.dests).map fun ed => ⟨ed.1, ed.2.root⟩
  clips := clips
  limit := if a.limit = 0 then Config.defaultChannelLimit else a.limit
  reseed := false
  state := .queued
  suspend := none
  medium := none
  standing := none

/-- A JOB ADD that passes its checks takes effect whole (R40). -/
def State.allocate (s : State) (a : JobArgs) (source : EpName) (dests : List EpName) (job : Nat) (clips : List Nat) :
    State :=
  let s := (clips.zip a.clips).foldl (fun s nc => s.setClip nc.1 (some (nc.2.record job dests))) s
  let s := s.setJob job (some (a.record source dests clips))
  { s with table := { s.table with admission := s.table.admission ++ [job] } }

/-- The checks 2 to 5 of JOB ADD, and its effect (R39, R40). -/
def State.enrol (s : State) (a : JobArgs) (source : EpName) (dests : List EpName) : Served :=
  if !(source :: dests).all fun e => (s.endpoint? e).isSome then s.refuse .notFound
  else if !(s.kindIs source .source && dests.all fun e => s.kindIs e .dest) then s.refuse .badArgument
  else if dests.any s.leaving then s.refuse .wrongState
  else
    match s.freeJob with
    | none => s.refuse .full
    | some job =>
      if s.freeClips.length < a.clips.length then s.refuse .full
      else
        let clips := s.freeClips.take a.clips.length
        (s.allocate a source dests job clips).done
          (byteOf job :: byteOf clips.length :: (clips.map fun n => beBytes 2 n).flatten)

/-- JOB ADD (R39, R40). -/
def State.jobAdd (s : State) (args : List Byte) : Served :=
  withArgs (parseJob args) fun a =>
    match nameOf a.port a.id, a.destNames with
    | some source, some dests => if a.good dests then s.enrol a source dests else s.refuse .badArgument
    | _, _ => s.refuse .badArgument

/-- JOB_ADD, request 0x10 (R39, R40). -/
def execJobAdd (s : State) : Host.Outcome State Fault Refusal := .next (s.serve 0x10 State.jobAdd)

/-! ### Requests that name a job -/

/-- A request on a job number: above 15 BAD_ARGUMENT, a free record NOT_FOUND (R41, R42, R59 to R61). -/
def State.onJob (s : State) (n : Nat) (rule : JobRecord → Served) : Served :=
  if 15 < n then s.refuse .badArgument
  else
    match s.job? n with
    | none => s.refuse .notFound
    | some j => rule j

/-- JOB CANCEL (R60). -/
def State.jobCancel (s : State) (args : List Byte) : Served :=
  withArgs (parseOne args) fun n => s.onJob n fun j =>
    if j.state.finished then s.refuse .wrongState else (s.cancelJob n j).engineSettle.done []

/-- JOB_CANCEL, request 0x11 (R60). -/
def execJobCancel (s : State) : Host.Outcome State Fault Refusal := .next (s.serve 0x11 State.jobCancel)

/-- JOB RESUME (R59). -/
def State.jobResume (s : State) (args : List Byte) : Served :=
  withArgs (parseOne args) fun n => s.onJob n fun j =>
    if j.state = .suspended then (s.modJob n fun j => { j with state := .queued, suspend := none }).done []
    else s.refuse .wrongState

/-- JOB_RESUME, request 0x12 (R59). -/
def execJobResume (s : State) : Host.Outcome State Fault Refusal := .next (s.serve 0x12 State.jobResume)

/-- A CLOSING channel of a removed job belongs to no job from then on (R56). -/
def Channel.disown (n : Nat) : Channel → Channel
  | .closing c => .closing (if c.job = some n then { c with job := none } else c)
  | .free => .free
  | .bound b => .bound b

/-- Whether some stream has the clip as its current clip (R36). -/
def ClipRecord.isCurrent (c : ClipRecord) : Bool := c.currentStreams.toList.any fun x => x

/-- A job and its clip records are freed (R41). -/
def State.removeJob (s : State) (n : Nat) (j : JobRecord) : State :=
  let s := j.clips.foldl (fun s k => s.setClip k none) s
  let s := s.setJob n none
  let s := { s with table := { s.table with admission := s.table.admission.filter fun k => k != n } }
  { s with offload := { s.offload with channels := s.offload.channels.map (Channel.disown n) } }

/-- JOB REMOVE (R41). -/
def State.jobRemove (s : State) (args : List Byte) : Served :=
  withArgs (parseOne args) fun n => s.onJob n fun j =>
    if !j.state.finished then s.refuse .wrongState
    else if j.clips.any fun k => s.clipIs k (·.isCurrent) then s.refuse .inUse
    else (s.removeJob n j).done [byteOf j.clips.length]

/-- JOB_REMOVE, request 0x13 (R41). -/
def execJobRemove (s : State) : Host.Outcome State Fault Refusal := .next (s.serve 0x13 State.jobRemove)

/-! ### JOB READ and CLIP READ (R42, R43, section 3.9) -/

/-- A destination of a job record as returned. -/
def Destination.bytes (d : Destination) : List Byte :=
  byteOf d.endpoint.port.val :: byteOf d.endpoint.id :: byteOf d.root.length :: d.root

/-- A job record as returned (section 3.9); `place` is its place in the admission list. -/
def JobRecord.bytes (j : JobRecord) (n place : Nat) : List Byte :=
  [byteOf n, byteOf j.state.code,
    byteOf (bitIf j.medium.isSome 0x01 + bitIf j.suspend.isSome 0x02 + bitIf j.standing.isSome 0x04),
    byteOf (suspendCode j.suspend), byteOf (standingCode j.standing), byteOf j.limit, byteOf (flagCode j.reseed),
    byteOf place, byteOf j.source.port.val, byteOf j.source.id] ++
    beBytes 8 (j.medium.elim 0 (·.toNat)) ++ [byteOf j.dests.length] ++ (j.dests.map Destination.bytes).flatten ++
    [byteOf j.clips.length] ++ (j.clips.map fun k => beBytes 2 k).flatten

/-- The copy states in the order of the tallies (R42). -/
def tallyOrder : List CopyState := [.waiting, .copying, .complete, .partialCopy, .failed, .cancelled]

/-- How many of a job's clips are in a copy state (R42). -/
def State.tally (s : State) (j : JobRecord) (x : CopyState) : Nat :=
  (j.clips.filter fun k => s.clipIs k fun c => c.copyState == x).length

/-- JOB READ (R42). -/
def State.jobRead (s : State) (args : List Byte) : Served :=
  withArgs (parseOne args) fun n => s.onJob n fun j =>
    s.done (j.bytes n (s.table.admission.idxOf n) ++ tallyOrder.map fun x => byteOf (s.tally j x))

/-- JOB_READ, request 0x14 (R42). -/
def execJobRead (s : State) : Host.Outcome State Fault Refusal := .next (s.serve 0x14 State.jobRead)

/-- A destination record as returned: 9 bytes (section 3.9). -/
def DestRecord.bytes (r : DestRecord) : List Byte :=
  [byteOf r.endpoint.port.val, byteOf r.endpoint.id, byteOf r.state.code, byteOf r.attempts,
    byteOf (reasonCode r.reason)] ++ beBytes 4 r.verified

/-- The current streams as a byte: stream 0 0x01, stream 1 0x02 (section 3.9). -/
def ClipRecord.streamCode (c : ClipRecord) : Nat := bitIf c.currentStreams[0] 0x01 + bitIf c.currentStreams[1] 0x02

/-- A clip record as returned (section 3.9). -/
def ClipRecord.bytes (c : ClipRecord) (n : Nat) : List Byte :=
  beBytes 2 n ++ [byteOf c.job, byteOf c.cameraTag] ++ beBytes 4 c.fileId.toNat ++ beBytes 5 c.size ++
    beBytes 4 c.extents ++ [byteOf c.copyState.code,
      byteOf (bitIf c.expectedFrames.isSome 0x01 + bitIf c.fileCrc.isSome 0x02 + bitIf c.highestFrame.isSome 0x04),
      byteOf (lookCode c.look)] ++
    beBytes 4 c.hashed ++ beBytes 8 c.register.toNat ++ beBytes 8 (c.fileCrc.elim 0 (·.toNat)) ++
    beBytes 4 (c.expectedFrames.elim 0 (·.toNat)) ++ [byteOf c.qc.code, byteOf c.streamCode] ++
    beBytes 4 c.framesSeen ++ beBytes 4 (c.highestFrame.elim 0 (·.toNat)) ++ beBytes 2 c.copyFaults ++
    beBytes 2 c.pictureFaults ++ beBytes 2 c.timingFaults ++ [byteOf c.dests.length] ++
    (c.dests.map DestRecord.bytes).flatten ++ [byteOf c.name.length] ++ c.name

/-- A request on a clip number: above 511 BAD_ARGUMENT, a free record NOT_FOUND (R43, R111, R163). -/
def State.onClip (s : State) (n : Nat) (rule : ClipRecord → Served) : Served :=
  if 511 < n then s.refuse .badArgument
  else
    match s.clip? n with
    | none => s.refuse .notFound
    | some c => rule c

/-- CLIP READ (R43). -/
def State.clipRead (s : State) (args : List Byte) : Served :=
  withArgs (parseWord args) fun n => s.onClip n fun c => s.done (c.bytes n)

/-- CLIP_READ, request 0x15 (R43). -/
def execClipRead (s : State) : Host.Outcome State Fault Refusal := .next (s.serve 0x15 State.clipRead)

/-! ### CHANNEL LIMIT SET (R61) -/

/-- CHANNEL LIMIT SET (R61). -/
def State.channelLimitSet (s : State) (args : List Byte) : Served :=
  withArgs (parseTwo args) fun a =>
    if a.2 = 0 ∨ 8 < a.2 then s.refuse .badArgument
    else s.onJob a.1 fun _ => (s.modJob a.1 fun j => { j with limit := a.2 }).done [byteOf a.2]

/-- CHANNEL_LIMIT_SET, request 0x16 (R61). -/
def execChannelLimitSet (s : State) : Host.Outcome State Fault Refusal := .next (s.serve 0x16 State.channelLimitSet)

/-! ### OFFLOAD PAUSE and OFFLOAD CONTINUE (R62, R64, R65) -/

/-- The state with the OPERATOR pause reason present or not, with the effects of R62. -/
def State.setOperator (s : State) (b : Bool) : State :=
  State.engineSettle { s with offload := { s.offload with pauseOperator := b } }

/-- The engine state and the set of reasons (R64). -/
def State.engineBytes (s : State) : List Byte := [byteOf s.offload.state.code, byteOf (pauseCode s.offload)]

/-- Whether a job can be suspended by the operator (R64). -/
def JobState.suspendable : JobState → Bool
  | .queued | .identifying | .active => true
  | .suspended | .done | .doneIncomplete | .cancelled => false

/-- OFFLOAD PAUSE (R64). -/
def State.offloadPause (s : State) (args : List Byte) : Served :=
  withArgs (parseOne args) fun scope =>
    if scope = 255 then
      let t := s.setOperator true
      t.done t.engineBytes
    else s.onJob scope fun j =>
      if j.state.suspendable then (s.suspendJob scope).engineSettle.done [byteOf JobState.suspended.code]
      else s.refuse .wrongState

/-- OFFLOAD_PAUSE, request 0x17 (R64). -/
def execOffloadPause (s : State) : Host.Outcome State Fault Refusal := .next (s.serve 0x17 State.offloadPause)

/-- OFFLOAD CONTINUE (R65). -/
def State.offloadContinue (s : State) (args : List Byte) : Served :=
  withArgs (parseNone args) fun _ =>
    let t := s.setOperator false
    t.done t.engineBytes

/-- OFFLOAD_CONTINUE, request 0x18 (R65). -/
def execOffloadContinue (s : State) : Host.Outcome State Fault Refusal := .next (s.serve 0x18 State.offloadContinue)

end Sys2Proof.Machine
end

