-- ==== Sys2Proof/Machine/FaultRequests.lean ====
section
/-!
DEFINITION. The requests of the fault spotter (0x38 to 0x40: QC CONFIG, the defect map, the candidate tables, the fault
log, CLIP CLEAR FAULTS; R144, R155 to R159, R161 to R163) and the hold requests (0x48 to 0x4A; R164, R168).
-/

namespace Sys2Proof.Machine

/-! ### QC CONFIG (R144) -/

/-- The stream and configuration a QC CONFIG names, if every value is in its range (R143, R144). -/
def QcArgs.config (a : QcArgs) : Option (StreamId × QcConfig) :=
  let good : Bool :=
    a.clipLevel ≤ 4095 && 1 ≤ a.clipFraction && a.clipFraction ≤ 1000 && 1 ≤ a.clipFrames && a.blackLevel ≤ 4095 &&
      1 ≤ a.blackFrames && a.hotThreshold ≤ 4095 && 1 ≤ a.hotFrames
  match streamOf a.stream, Tap.ofCode a.clipTap, Tap.ofCode a.blackTap with
  | some st, some ct, some bt =>
    if good then
      some (st, ⟨ct, a.clipLevel, a.clipFraction, a.clipFrames, bt, a.blackLevel, a.blackFrames, a.hotThreshold,
        a.hotFrames⟩)
    else none
  | _, _, _ => none

/-- Whether a stream has a processed frame in progress, which the fault spotter is measuring. -/
def Stream.measuring (x : Stream) : Bool :=
  match x.frame with
  | none => false
  | some f => !f.refused

/-- A stream's spotter after a QC CONFIG: configuration replaced, filters reset, the frame being measured unjudged (R144). -/
def SpotterStream.configure (x : SpotterStream) (c : QcConfig) (measuring : Bool) : SpotterStream :=
  { x.resetFilters with
    config := c
    measures := if measuring then { x.measures with unjudged := true } else x.measures }

/-- QC CONFIG (R144). -/
def State.qcConfig (s : State) (args : List Byte) : Served :=
  withArgs (parseQc args) fun a =>
    match a.config with
    | none => s.refuse .badArgument
    | some (st, c) => (s.modSpot st fun x => x.configure c (s.stream st).measuring).done []

/-- QC_CONFIG, request 0x38 (R144). -/
def execQcConfig (s : State) : Host.Outcome State Fault Refusal := .next (s.serve 0x38 State.qcConfig)

/-! ### The defect map (R155 to R158) -/

/-- A site of a camera tag, line and column in range (R154, R155). -/
def siteOf (tag line column : Nat) : Option DefectSite :=
  if tag ≤ 15 ∧ line ≤ 2303 ∧ column ≤ 4095 then some ⟨tag, line, column⟩ else none

/-- The number of map entries as returned. -/
def State.mapCount (s : State) : List Byte := beBytes 2 s.spotter.defectMap.length

/-- DEFECT ADD (R155). -/
def State.defectAdd (s : State) (args : List Byte) : Served :=
  withArgs (parseSite args) fun a =>
    match siteOf a.1 a.2.1 a.2.2 with
    | none => s.refuse .badArgument
    | some d =>
      if d ∈ s.spotter.defectMap then s.done (byteOf 1 :: s.mapCount)
      else if Config.defectLimit ≤ s.spotter.defectMap.length then s.refuse .full
      else (s.mapSite d).done (byteOf 0 :: (s.mapSite d).mapCount)

/-- DEFECT_ADD, request 0x39 (R155). -/
def execDefectAdd (s : State) : Host.Outcome State Fault Refusal := .next (s.serve 0x39 State.defectAdd)

/-- The state with a site taken out of the map (R156). -/
def State.unmapSite (s : State) (d : DefectSite) : State :=
  { s with spotter := { s.spotter with defectMap := removeSite d s.spotter.defectMap } }

/-- DEFECT REMOVE (R156). -/
def State.defectRemove (s : State) (args : List Byte) : Served :=
  withArgs (parseSite args) fun a =>
    match siteOf a.1 a.2.1 a.2.2 with
    | none => s.refuse .badArgument
    | some d => if d ∈ s.spotter.defectMap then (s.unmapSite d).done (s.unmapSite d).mapCount else s.refuse .notFound

/-- DEFECT_REMOVE, request 0x3A (R156). -/
def execDefectRemove (s : State) : Host.Outcome State Fault Refusal := .next (s.serve 0x3A State.defectRemove)

/-- Whether a stream has a candidate at a coordinate (R157). -/
def SpotterStream.hasCandidate (x : SpotterStream) (line column : Nat) : Bool :=
  x.candidates.any fun c => c.line == line && c.column == column

/-- DEFECT PROMOTE (R157). -/
def State.defectPromote (s : State) (args : List Byte) : Served :=
  withArgs (parseSite args) fun a => s.onStream a.1 fun st =>
    if 2303 < a.2.1 ∨ 4095 < a.2.2 then s.refuse .badArgument
    else
      match s.currentTag st with
      | none => s.refuse .wrongState
      | some tag =>
        if !(s.spot st).hasCandidate a.2.1 a.2.2 then s.refuse .notFound
        else if Config.defectLimit ≤ s.spotter.defectMap.length then s.refuse .full
        else
          let t := s.mapSite ⟨tag, a.2.1, a.2.2⟩
          t.done (byteOf tag :: t.mapCount)

/-- DEFECT_PROMOTE, request 0x3B (R157). -/
def execDefectPromote (s : State) : Host.Outcome State Fault Refusal := .next (s.serve 0x3B State.defectPromote)

/-- A map entry as returned: 5 bytes (R158). -/
def DefectSite.bytes (d : DefectSite) : List Byte := byteOf d.tag :: (beBytes 2 d.line ++ beBytes 2 d.column)

/-- DEFECT LIST (R158). -/
def State.defectList (s : State) (args : List Byte) : Served :=
  withArgs (parseOne args) fun n =>
    if 15 < n ∧ n ≠ 255 then s.refuse .badArgument
    else
      let entries := if n = 255 then s.spotter.defectMap else s.spotter.defectMap.filter fun d => d.tag == n
      s.done (beBytes 2 entries.length ++ (entries.map DefectSite.bytes).flatten)

/-- DEFECT_LIST, request 0x3C (R158). -/
def execDefectList (s : State) : Host.Outcome State Fault Refusal := .next (s.serve 0x3C State.defectList)

/-! ### CANDIDATES READ (R159) -/

/-- A candidate as returned: 10 bytes (R159). -/
def Candidate.bytes (c : Candidate) : List Byte :=
  beBytes 2 c.line ++ beBytes 2 c.column ++ [byteOf c.count] ++ beBytes 4 c.lastFrame.toNat ++
    [byteOf (bitIf c.reported 0x01 + bitIf c.seen 0x02)]

/-- CANDIDATES READ (R159). -/
def State.candidatesRead (s : State) (args : List Byte) : Served :=
  withArgs (parseOne args) fun n => s.onStream n fun st =>
    let cs := (s.spot st).candidates
    s.done ([byteOf (flagCode (s.stream st).currentClip.isSome), byteOf ((s.currentTag st).getD 0), byteOf cs.length] ++
      (cs.map Candidate.bytes).flatten)

/-- CANDIDATES_READ, request 0x3D (R159). -/
def execCandidatesRead (s : State) : Host.Outcome State Fault Refusal := .next (s.serve 0x3D State.candidatesRead)

/-! ### The fault log (R161, R162) -/

/-- The notice in flight after the oldest entries have left the log (R29): places count from the oldest entry left. -/
def NoticeFlight.afterTake (x : NoticeFlight) (taken : Nat) : NoticeFlight :=
  match x with
  | .none => .none
  | .orphan => .orphan
  | .carrying place => if place < taken then .orphan else .carrying (place - taken)

/-- The oldest entries, up to `n`, leave the log; the overflow count is cleared or not (R161). -/
def State.takeFaults (s : State) (n : Nat) (clear : Bool) : State :=
  { s with
    spotter :=
      { s.spotter with
        log := s.spotter.log.drop n
        overflow := if clear then 0 else s.spotter.overflow }
    control := { s.control with notice := s.control.notice.afterTake (min n s.spotter.log.length) } }

/-- FAULT TAKE (R161). -/
def State.faultTake (s : State) (args : List Byte) : Served :=
  withArgs (parseTwo args) fun a =>
    match flagOf a.2 with
    | none => s.refuse .badArgument
    | some clear =>
      if a.1 = 0 ∨ 128 < a.1 then s.refuse .badArgument
      else
        let taken := s.spotter.log.take a.1
        (s.takeFaults a.1 clear).done
          ([byteOf taken.length, byteOf (s.spotter.log.length - taken.length)] ++ beBytes 4 s.spotter.overflow ++
            (taken.map FaultEntry.bytes).flatten)

/-- FAULT_TAKE, request 0x3E (R161). -/
def execFaultTake (s : State) : Host.Outcome State Fault Refusal := .next (s.serve 0x3E State.faultTake)

/-- FAULT PEEK (R162). -/
def State.faultPeek (s : State) (args : List Byte) : Served :=
  withArgs (parseTwo args) fun a =>
    if 127 < a.1 ∨ a.2 = 0 ∨ 128 < a.2 then s.refuse .badArgument
    else
      let seen := (s.spotter.log.drop a.1).take a.2
      s.done ([byteOf s.spotter.log.length] ++ beBytes 4 s.spotter.overflow ++ [byteOf seen.length] ++
        (seen.map FaultEntry.bytes).flatten)

/-- FAULT_PEEK, request 0x3F (R162). -/
def execFaultPeek (s : State) : Host.Outcome State Fault Refusal := .next (s.serve 0x3F State.faultPeek)

/-! ### CLIP CLEAR FAULTS (R163) -/

/-- Whether a clip is the current clip of a HELD stream opened without clear-while-held permission (R163). -/
def State.holdProtects (s : State) (n : Nat) : Bool :=
  allStreams.any fun st =>
    (s.stream st).state == .held && (s.stream st).currentClip == some n && !(s.stream st).params.clearWhileHeld

/-- A clip record with its counts 0 and its QC state UNCHECKED (R163). -/
def ClipRecord.clearFaults (c : ClipRecord) : ClipRecord :=
  { c with copyFaults := 0, pictureFaults := 0, timingFaults := 0, qc := .unchecked }

/-- CLIP CLEAR FAULTS (R163). -/
def State.clipClearFaults (s : State) (args : List Byte) : Served :=
  withArgs (parseWord args) fun n => s.onClip n fun c =>
    if s.holdProtects n then s.refuse .held
    else
      (s.modClip n (·.clearFaults)).done
        (beBytes 2 c.copyFaults ++ beBytes 2 c.pictureFaults ++ beBytes 2 c.timingFaults ++ [byteOf c.qc.code])

/-- CLIP_CLEAR_FAULTS, request 0x40 (R163). -/
def execClipClearFaults (s : State) : Host.Outcome State Fault Refusal := .next (s.serve 0x40 State.clipClearFaults)

/-! ### Hold points (R164, R168) -/

/-- A hold point number, if it is at most 3. -/
def pointOf (n : Nat) : Option (Fin 4) := if h : n < 4 then some ⟨n, h⟩ else none

/-- The condition a HOLD SET names, if its type and the fields it uses are in range (R164). -/
def HoldArgs.cond (a : HoldArgs) : Option HoldCondition :=
  if a.condition = 0 then
    if a.clip ≤ 511 then some (.frame a.clip (BitVec.ofNat 32 a.frame)) else none
  else if a.condition = 1 then (FaultKind.ofStreamCode a.kind).map HoldCondition.fault
  else none

/-- The state with a hold point set or freed. -/
def State.setHold (s : State) (k : Fin 4) (h : Option HoldPoint) : State :=
  { s with spotter := { s.spotter with holds := s.spotter.holds.set k.val h k.isLt } }

/-- HOLD SET (R164). -/
def State.holdSet (s : State) (args : List Byte) : Served :=
  withArgs (parseHold args) fun a =>
    match pointOf a.point, streamOf a.stream, a.cond, flagOf a.oneShot with
    | some k, some st, some c, some one => (s.setHold k (some ⟨st, c, one, true⟩)).done []
    | _, _, _, _ => s.refuse .badArgument

/-- HOLD_SET, request 0x48 (R164). -/
def execHoldSet (s : State) : Host.Outcome State Fault Refusal := .next (s.serve 0x48 State.holdSet)

/-- HOLD CLEAR (R164). -/
def State.holdClear (s : State) (args : List Byte) : Served :=
  withArgs (parseOne args) fun n =>
    match pointOf n with
    | none => s.refuse .badArgument
    | some k => if (s.spotter.holds[k]).isNone then s.refuse .notFound else (s.setHold k none).done []

/-- HOLD_CLEAR, request 0x49 (R164). -/
def execHoldClear (s : State) : Host.Outcome State Fault Refusal := .next (s.serve 0x49 State.holdClear)

/-- HOLD RELEASE (R168). -/
def State.holdRelease (s : State) (args : List Byte) : Served :=
  withArgs (parseOne args) fun n => s.onStream n fun st =>
    if (s.stream st).state = .held then (s.releaseHold st).done [byteOf 0]
    else if (s.stream st).state.takes && (s.stream st).holdPending then
      (s.modStream st fun x => { x with holdPending := false }).done [byteOf 1]
    else s.refuse .wrongState

/-- HOLD_RELEASE, request 0x4A (R168). -/
def execHoldRelease (s : State) : Host.Outcome State Fault Refusal := .next (s.serve 0x4A State.holdRelease)

end Sys2Proof.Machine
end

