-- ==== Sys2Proof/Machine/LookRequests.lean ====
section
/-!
DEFINITION. The requests of the look engine (0x20 to 0x26): LOOK BEGIN, LOOK DATA, LOOK COMMIT, LOOK DISCARD (R101 to
R106), DIRECTORY SET (R108), CLIP SET LOOK (R111), LOOK STATUS (R113).
-/

namespace Sys2Proof.Machine

/-! ### LOOK BEGIN and LOOK DISCARD (R101, R102, R106) -/

/-- A slot whose shadow bank is replaced, with its new shadow state. -/
def Slot.resetShadow (x : Slot) (state : ShadowState) (bank : Bank) : Slot :=
  { x.setBank x.shadowName bank with shadow := state }

/-- Whether the shadow of a slot is latched (R101). -/
def State.shadowLatched (s : State) (k : Fin 16) : Bool := s.latched k (s.slot k).shadowName

/-- A bank made ready for loading with a lattice size: no entry written (R102). -/
def Bank.loading (n : Nat) : Bank := ⟨some n, Vector.replicate 5 []⟩

/-- LOOK BEGIN (R102). -/
def State.lookBegin (s : State) (args : List Byte) : Served :=
  withArgs (parseTwo args) fun a =>
    match slotOf a.1 with
    | none => s.refuse .badArgument
    | some k =>
      if a.2 ≠ 17 ∧ a.2 ≠ 33 then s.refuse .badArgument
      else if s.shadowLatched k then s.refuse .slotBusy
      else
        (s.modSlot k fun x => x.resetShadow .loading (Bank.loading a.2)).done
          (byteOf (s.slot k).shadowName.code :: beBytes 4 (Bank.loading a.2).total)

/-- LOOK_BEGIN, request 0x20 (R102). -/
def execLookBegin (s : State) : Host.Outcome State Fault Refusal := .next (s.serve 0x20 State.lookBegin)

/-- LOOK DISCARD (R106). -/
def State.lookDiscard (s : State) (args : List Byte) : Served :=
  withArgs (parseOne args) fun n =>
    match slotOf n with
    | none => s.refuse .badArgument
    | some k =>
      if s.shadowLatched k then s.refuse .slotBusy
      else (s.modSlot k fun x => x.resetShadow .empty Bank.empty).done []

/-- LOOK_DISCARD, request 0x23 (R106). -/
def execLookDiscard (s : State) : Host.Outcome State Fault Refusal := .next (s.serve 0x23 State.lookDiscard)

/-! ### LOOK DATA (R103, R104) -/

/-- The values of a LOOK DATA as stored, with whether each was clamped (R104). -/
def storedEntries (code first : Nat) (entries : List Word32) : List (Int × Bool) :=
  entries.zipIdx.map fun ei =>
    let raw := entryValue code ei.1
    let kept := clampEntry code (first + ei.2) raw
    (kept, kept != raw)

/-- A bank with a run of a table's entries written (R103). -/
def Bank.write (b : Bank) (code first : Nat) (values : List Int) : Bank :=
  match b.tables[code]? with
  | none => b
  | some t => { b with tables := b.tables.setIfInBounds code (writeRun t first values) }

/-- A slot after a LOOK DATA: the shadow COMPLETE when every entry is written (R104). -/
def Slot.load (x : Slot) (code first : Nat) (values : List Int) : Slot :=
  let bank := x.shadowBank.write code first values
  x.resetShadow (if bank.written = bank.total then .complete else .loading) bank

/-- LOOK DATA (R103, R104). -/
def State.lookData (s : State) (args : List Byte) : Served :=
  withArgs (parseLookData args) fun a =>
    match slotOf a.slot with
    | none => s.refuse .badArgument
    | some k =>
      if 4 < a.code ∨ a.entries = [] then s.refuse .badArgument
      else
        let x := s.slot k
        if x.shadow ≠ .loading then s.refuse .wrongState
        else if tableEntries (x.shadowBank.size.getD 0) a.code < a.first + a.entries.length then s.refuse .badArgument
        else
          let stored := storedEntries a.code a.first a.entries
          let y := x.load a.code a.first (stored.map (·.1))
          (s.modSlot k fun _ => y).done
            (byteOf y.shadow.code :: (beBytes 4 y.coverage ++ beBytes 4 (stored.filter (·.2)).length))

/-- LOOK_DATA, request 0x21 (R103). -/
def execLookData (s : State) : Host.Outcome State Fault Refusal := .next (s.serve 0x21 State.lookData)

/-! ### LOOK COMMIT (R105) -/

/-- A slot after its COMPLETE shadow is committed (R105). -/
def Slot.commit (x : Slot) : Slot :=
  match x.active with
  | none => { x with active := some .a, shadow := .empty, bankB := Bank.empty }
  | some _ => { x with active := some x.shadowName, shadow := .stale }

/-- LOOK COMMIT (R105): refused INCOMPLETE with the shadow state and the coverage, or committed and reported as a look
change (R112). -/
def State.lookCommit (s : State) (args : List Byte) : Served :=
  withArgs (parseOne args) fun n =>
    match slotOf n with
    | none => s.refuse .badArgument
    | some k =>
      let x := s.slot k
      if x.shadow = .complete then
        ((s.modSlot k Slot.commit).lookChanged (.slot k)).done [byteOf x.shadowName.code]
      else some (s, ⟨.incomplete, byteOf x.shadow.code :: beBytes 4 x.coverage⟩)

/-- LOOK_COMMIT, request 0x22 (R105). -/
def execLookCommit (s : State) : Host.Outcome State Fault Refusal := .next (s.serve 0x22 State.lookCommit)

/-! ### DIRECTORY SET and CLIP SET LOOK (R108, R111) -/

/-- A directory byte: a slot, or 255 for UNMAPPED (R108). -/
def mappingOf (n : Nat) : Option (Option (Fin 16)) :=
  if n = 255 then some none else (slotOf n).map some

/-- The state with a directory entry set (R108). -/
def State.setDirectory (s : State) (look : Nat) (slot : Option (Fin 16)) : State :=
  { s with look := { s.look with directory := s.look.directory.setIfInBounds look slot } }

/-- DIRECTORY SET (R108), a look change (R112). -/
def State.directorySet (s : State) (args : List Byte) : Served :=
  withArgs (parseTwo args) fun a =>
    match mappingOf a.2 with
    | none => s.refuse .badArgument
    | some slot =>
      if 63 < a.1 then s.refuse .badArgument
      else ((s.setDirectory a.1 slot).lookChanged (.look a.1)).done [byteOf (directoryCode (s.directoryAt a.1))]

/-- DIRECTORY_SET, request 0x24 (R108). -/
def execDirectorySet (s : State) : Host.Outcome State Fault Refusal := .next (s.serve 0x24 State.directorySet)

/-- CLIP SET LOOK (R111), a look change (R112). -/
def State.clipSetLook (s : State) (args : List Byte) : Served :=
  withArgs (parseWordByte args) fun a =>
    match lookOfCode a.2 with
    | none => s.refuse .badArgument
    | some look =>
      if 511 < a.1 then s.refuse .badArgument
      else
        match s.clip? a.1 with
        | none => s.refuse .notFound
        | some c =>
          ((s.modClip a.1 fun c => { c with look := look }).lookChanged (.clip a.1)).done [byteOf (lookCode c.look)]

/-- CLIP_SET_LOOK, request 0x25 (R111). -/
def execClipSetLook (s : State) : Host.Outcome State Fault Refusal := .next (s.serve 0x25 State.clipSetLook)

/-! ### LOOK STATUS (R113) -/

/-- The look numbers the directory maps to a slot (R113). -/
def State.mappedTo (s : State) (k : Fin 16) : Nat :=
  (s.look.directory.toList.filter fun x => x == some k).length

/-- A slot's status (R113). -/
def State.slotBytes (s : State) (k : Fin 16) : List Byte :=
  let x := s.slot k
  [byteOf (activeCode x.active), byteOf x.shadowName.code, byteOf x.shadow.code, byteOf (x.bankA.size.getD 0),
    byteOf (x.bankB.size.getD 0)] ++ beBytes 4 x.coverage ++ beBytes 4 x.shadowBank.total ++
    [byteOf (s.latchCode k .a), byteOf (s.latchCode k .b), byteOf (s.mappedTo k)]

/-- LOOK STATUS (R113). -/
def State.lookStatus (s : State) (args : List Byte) : Served :=
  withArgs (parseOne args) fun n =>
    if n = 255 then s.done (s.look.directory.toList.map fun x => byteOf (directoryCode x))
    else
      match slotOf n with
      | none => s.refuse .badArgument
      | some k => s.done (s.slotBytes k)

/-- LOOK_STATUS, request 0x26 (R113). -/
def execLookStatus (s : State) : Host.Outcome State Fault Refusal := .next (s.serve 0x26 State.lookStatus)

end Sys2Proof.Machine
end

