-- ==== Sys2Proof/Machine/Offload.lean ====
section
/-!
DEFINITION. The offload engine's own steps: JOB_ACTIVATION (R49, R50), CHANNEL_BIND (R54, R55, R96), BUFFER_TAKE (R72),
DRAIN_COMPLETE (R91), RESUME_TIMER_EXPIRY (R62); and the requests DEST RELEASE and DEST RECLAIM (R89, R94).
-/

namespace Sys2Proof.Machine

/-! ### Handover requests (R89, R94) -/

/-- A DEST RELEASE that is accepted: the endpoint DRAINING, the reply deferred; a drain with no ask outstanding completes
at once (R24, R89, R90). DEDUCED, log entry 16. -/
def State.release (s : State) (p : Port) (r : Request) (e : EpName) : State :=
  let s := s.setEndpointState e .draining
  let s := { s with control := { s.control with deferred := s.control.deferred ++ [Deferred.mk p r.tag r.number e] } }
  (if s.drained e then s.completeDrain e else s).engineSettle

/-- The outcome of a DEST RELEASE that is refused, or the endpoint it is accepted for (R89). -/
def State.judgeRelease (s : State) (port id : Nat) : ReplyCode ⊕ EpName :=
  match nameOf port id with
  | none => .inl .badArgument
  | some e =>
    match s.endpoint? e with
    | none => .inl .notFound
    | some x =>
      if x.kind ≠ .dest then .inl .badArgument
      else if x.state = .online then .inr e
      else .inl .wrongState

/-- DEST RELEASE (R89). -/
def State.destRelease (s : State) (p : Port) (r : Request) : State :=
  match parseTwo r.args with
  | none => s.reply p r.tag r.number .badArgument []
  | some a =>
    match s.judgeRelease a.1 a.2 with
    | .inl code => s.reply p r.tag r.number code []
    | .inr e => s.release p r e

/-- DEST_RELEASE, request 0x19 (R89). -/
def execDestRelease (s : State) : Host.Outcome State Fault Refusal := .next (s.carryOut 0x19 State.destRelease)

/-- A DEST RECLAIM that is accepted: the endpoint ONLINE, and its return taken (R94, R95). -/
def State.reclaim (s : State) (e : EpName) : State := (s.setEndpointState e .online).takeReturn e

/-- DEST RECLAIM (R94). -/
def State.destReclaim (s : State) (args : List Byte) : Served :=
  withArgs (parseTwo args) fun a =>
    match nameOf a.1 a.2 with
    | none => s.refuse .badArgument
    | some e =>
      match s.endpoint? e with
      | none => s.refuse .notFound
      | some x =>
        if x.kind ≠ .dest then s.refuse .badArgument
        else if x.state = .draining then s.refuse .wrongState
        else
          let t := s.reclaim e
          t.engineSettle.done (beBytes 2 (s.returning e).length ++ [byteOf (requeued s t)])

/-- DEST_RECLAIM, request 0x1A (R94). -/
def execDestReclaim (s : State) : Host.Outcome State Fault Refusal := .next (s.serve 0x1A State.destReclaim)

/-! ### Activation and binding -/

/-- A job activates if it may (R49, R50). -/
def State.activateJob (s : State) (n : Nat) : State :=
  match s.job? n with
  | none => s
  | some j => if s.mayActivate n j then (s.activate n j).engineSettle else s

/-- JOB_ACTIVATION (R49, R50). -/
def execJobActivation (job : Nat) (s : State) : Host.Outcome State Fault Refusal :=
  .next (s.whenRunning fun s => s.activateJob job)

/-- The arbiter acts once, if it may (R54, R55, R96). -/
def State.arbitrate (s : State) : State :=
  match s.arbiterChoice with
  | none => s
  | some (c, n, k) => (s.bindClip c n k).engineSettle

/-- CHANNEL_BIND (R54, R55). -/
def execChannelBind (s : State) : Host.Outcome State Fault Refusal := .next (s.whenRunning fun s => s.arbitrate)

/-! ### The pool (R72) -/

/-- The channel that a free buffer goes to: the one that has needed a buffer longest (R72; DEDUCED, log entry 12). -/
def State.bufferChoice (s : State) : Option ChannelId :=
  if s.engineRuns && s.buffersHeld < Config.extentBuffers then s.offload.bufferWaiting.find? s.needsBuffer else none

/-- The pool gives one buffer, and its channel asks its READ (R72, R74). -/
def State.giveBuffer (s : State) : State :=
  match s.bufferChoice with
  | none => s
  | some c =>
    match s.boundClip? c with
    | none => s
    | some r => (s.modBinding c fun b => b.takeBuffer r).engineSettle

/-- BUFFER_TAKE (R72). -/
def execBufferTake (s : State) : Host.Outcome State Fault Refusal := .next (s.whenRunning fun s => s.giveBuffer)

/-! ### The end of a drain (R91) -/

/-- The endpoint a drain's end names. -/
def drainName (port : Port) (id : Nat) : EpName := ⟨port, id⟩

/-- The drain of an endpoint completes, if it can (R90, R91). -/
def State.finishDrain (s : State) (e : EpName) : State :=
  if s.drained e then (s.completeDrain e).engineSettle else s

/-- DRAIN_COMPLETE (R91). -/
def execDrainComplete (port : Port) (id : Nat) (s : State) : Host.Outcome State Fault Refusal :=
  .next (s.whenRunning fun s => s.finishDrain (drainName port id))

/-! ### The resume timer (R62) -/

/-- The engine's resume timer expires: RESUMING becomes RUNNING, and what waited for it starts (R62, R63; DESIGN CHOICE, log entry 8). -/
def State.resumeEngine (s : State) : State :=
  match s.offload.resumeTimer with
  | none => s
  | some t =>
    let s := s.advanceTo t
    let s := { s with offload := { s.offload with resumeTimer := none } }
    if s.offload.state = .resuming then
      State.engineSettle { s with offload := { s.offload with state := .running } }
    else s

/-- RESUME_TIMER_EXPIRY (R62). -/
def execResumeTimerExpiry (s : State) : Host.Outcome State Fault Refusal := .next (s.whenRunning fun s => s.resumeEngine)

end Sys2Proof.Machine
end

