-- ==== Sys2Proof/Machine/Supply.lean ====
section
/-!
DEFINITION. The supply and restart unit (chapter 12): the option block (R170), the supply monitor (R172), and the three
restarts (R173 to R175) with what each chapter gives for them (R1, R10, R12, R16, R20, R27, R46, R47, R66, R92, R114, R127,
R143, R154, R160, R164).
-/

namespace Sys2Proof.Machine

/-! ### The option block (R170, section 12.5) -/

/-- A flag field of the option block, if it holds one of its codes. -/
def optionFlag (x : Byte) : Option Bool := if x = 0 then some false else if x = 1 then some true else none

/-- A role set of the option block, if it holds one of its codes. -/
def optionRoles (x : Byte) : Option (BitVec 5) := if x.toNat ≤ 31 then some (BitVec.ofNat 5 x.toNat) else none

/-- Whether the role sets of an option block leave the part manageable: some port has CONTROL, and the notice port has
it (R170). -/
def Options.manageable (o : Options) : Bool :=
  o.roles.toList.any (fun r => hasRole r .control) && hasRole o.roles[o.noticePort] .control

/-- An option block with every field holding one of its codes (section 12.5). -/
def parseOptions (block : List Byte) : Option Options :=
  match block with
  | f :: w :: c :: a :: d :: e :: r0 :: r1 :: r2 :: r3 :: n :: _ =>
    match optionFlag a, optionFlag d, optionFlag e, optionRoles r0, optionRoles r1, optionRoles r2, optionRoles r3,
      portOf n.toNat with
    | some quiesce, some long, some slow, some x0, some x1, some x2, some x3, some notice =>
      if f = 1 ∧ w.toNat ≤ 3 ∧ c.toNat ≤ 3 then
        some ⟨3100 + 50 * w.toNat, 2900 + 50 * c.toNat, quiesce, long, slow, #v[x0, x1, x2, x3], notice⟩
      else none
    | _, _, _, _, _, _, _, _ => none
  | _ => none

/-- The valid block that the configuration memory gives, if it gives one (R170). -/
def validOptions (block : Option (List Byte)) : Option Options :=
  match block with
  | none => none
  | some bytes =>
    match parseOptions bytes with
    | none => none
    | some o => if o.manageable then some o else none

/-- The copy in use after a read of the block: the valid block, or the default one (R170). -/
def optionsInUse (block : Option (List Byte)) : Options := (validOptions block).getD Options.default

/-- Whether the options are defaulted after a read of the block (R170). -/
def optionsDefaulted (block : Option (List Byte)) : Bool := (validOptions block).isNone

/-! ### The supply monitor (R172) -/

/-- A filter's start after a change: kept while its condition holds and it runs, else none (R172). -/
def filterStart (old : Option Word64) (runs condition : Bool) (now : Word64) : Option Word64 :=
  if runs && condition then some (old.getD now) else none

/-- The three filters as the state and the rail make them run (R172). -/
def SupplyUnit.refreshFilters (x : SupplyUnit) : SupplyUnit :=
  { x with
    warnEntry := filterStart x.warnEntry (x.state != .warn) (x.rail < x.options.warnMv) x.timeBase
    warnClear := filterStart x.warnClear (x.state == .warn) (x.options.warnMv + 50 < x.rail) x.timeBase
    crit := filterStart x.crit true (x.rail < x.options.critMv) x.timeBase }

/-- A held part after a change of the rail: the restart delay runs while the rail stays above the CRIT level plus 50 mV
(R173). -/
def SupplyUnit.refreshHold (x : SupplyUnit) : SupplyUnit :=
  match x.power with
  | .running => x
  | .held was since =>
    { x with power := .held was (filterStart since true (x.options.critMv + 50 < x.rail) x.timeBase) }

/-- The state with the supply unit changed. -/
def State.modSupply (s : State) (f : SupplyUnit → SupplyUnit) : State := { s with supply := f s.supply }

/-- RAIL_LEVEL_CHANGE (R172, R173). -/
def execRailLevelChange (millivolts : Nat) (s : State) : Host.Outcome State Fault Refusal :=
  .next (s.modSupply fun x =>
    let x := { x with rail := millivolts }
    if s.running then x.refreshFilters else x.refreshHold)

/-- The state with the SUPPLY pause reason present or not, when the WARN action is QUIESCE (R172). -/
def State.setSupplyPause (s : State) (b : Bool) : State :=
  if s.supply.options.quiesce then State.engineSettle { s with offload := { s.offload with pauseSupply := b } } else s

/-- The WARN entry filter completes (R172; DESIGN CHOICE, log entry 8). -/
def State.enterWarn (s : State) : State :=
  match s.supply.warnEntry with
  | none => s
  | some t =>
    let s := s.advanceTo (t + 20)
    let s := s.modSupply fun x => ({ x with state := .warn, resumeTimer := none }).refreshFilters
    let s := s.file { kind := .supplyWarn, detail := s.supply.options.warnMv }
    s.setSupplyPause true

/-- WARN_ENTRY_FILTER (R172). -/
def execWarnEntryFilter (s : State) : Host.Outcome State Fault Refusal := .next (s.whenRunning fun s => s.enterWarn)

/-- The WARN clear filter completes (R172; DESIGN CHOICE, log entry 8). -/
def State.clearWarn (s : State) : State :=
  match s.supply.warnClear with
  | none => s
  | some t =>
    let s := s.advanceTo (t + 2000)
    let timer := s.later (resumeDelayUs s.supply.options)
    let s := s.modSupply fun x => ({ x with state := .recovering, resumeTimer := some timer }).refreshFilters
    s.setSupplyPause false

/-- WARN_CLEAR_FILTER (R172). -/
def execWarnClearFilter (s : State) : Host.Outcome State Fault Refusal := .next (s.whenRunning fun s => s.clearWarn)

/-- The supply state's resume timer expires in RECOVERING (R172; DESIGN CHOICE, log entry 8). -/
def State.supplyResumes (s : State) : State :=
  match s.supply.resumeTimer with
  | none => s
  | some t =>
    (s.advanceTo t).modSupply fun x =>
      if x.state = .recovering then ({ x with state := .normal, resumeTimer := none }).refreshFilters
      else { x with resumeTimer := none }

/-- SUPPLY_RESUME_TIMER (R172). -/
def execSupplyResumeTimer (s : State) : Host.Outcome State Fault Refusal := .next (s.whenRunning fun s => s.supplyResumes)

/-- A port that is held: nothing leaves it (R173). -/
def PortState.silence (x : PortState) : PortState := { x with transmitting := none, wire := [] }

/-- The CRIT filter completes: every block stops and the part is held (R172, R173; DESIGN CHOICE, log entry 8). -/
def State.beginBrownout (s : State) : State :=
  match s.supply.crit with
  | none => s
  | some t =>
    let s := s.advanceTo (t + 5)
    let s := { s with link := { s.link with ports := s.link.ports.map PortState.silence } }
    s.modSupply fun x => ({ x with power := .held x.state none }).refreshHold

/-- CRIT_FILTER (R172, R173). DESIGN CHOICE, log entry 17. -/
def execCritFilter (s : State) : Host.Outcome State Fault Refusal := .next (s.whenRunning fun s => s.beginBrownout)

/-! ### What a brownout or soft restart keeps (R10, R12, R47, R92) -/

/-- An endpoint table entry after a brownout or soft restart (R12). -/
def Endpoint.restart (e : Endpoint) : Endpoint :=
  match e.state with
  | .released | .draining => { e with state := .released }
  | .online | .offline => { e with state := .offline }

/-- A destination record after a brownout or soft restart (R47). -/
def DestRecord.restart (r : DestRecord) : DestRecord :=
  { r with state := if r.state = .inProgress then .pending else r.state, attempts := 0 }

/-- A clip record after a brownout or soft restart (R47). -/
def ClipRecord.restart (c : ClipRecord) : ClipRecord :=
  { c with
    copyState := if c.copyState = .copying then .waiting else c.copyState
    dests := c.dests.map DestRecord.restart
    currentStreams := Vector.replicate 2 false }

/-- A job record after a brownout or soft restart (R47). -/
def JobRecord.restart (j : JobRecord) : JobRecord :=
  if j.state.busy then { j with state := .suspended, suspend := some .restart, standing := none } else j

/-- The clip table after a brownout or soft restart (R47). -/
def ClipTable.restart (t : ClipTable) : ClipTable :=
  { t with clips := t.clips.map (·.map ClipRecord.restart), jobs := t.jobs.map (·.map JobRecord.restart) }

/-- Whether an endpoint is RELEASED. -/
def State.released (s : State) (e : EpName) : Bool :=
  match s.endpoint? e with
  | none => false
  | some x => x.state == .released

/-- After the changes of R47, a PENDING record at a RELEASED endpoint becomes DEFERRED, in a job that is not CANCELLED
(R92). -/
def State.deferReleased (s : State) (c : ClipRecord) : ClipRecord :=
  if s.jobCancelled c.job then c
  else
    { c with dests := c.dests.map fun r => if r.state = .pending && s.released r.endpoint then r.defer none else r }

/-- The clip table with the records of interrupted drains deferred (R92). -/
def State.deferTable (s : State) : State :=
  { s with table := { s.table with clips := s.table.clips.map (·.map s.deferReleased) } }

/-- The link unit after a brownout or soft restart: every port TRAINING with its roles kept (R1, R10, R12). -/
def LinkUnit.restart (l : LinkUnit) : LinkUnit where
  ports := l.ports.map fun x => PortState.reset .training x.roles
  endpoints := l.endpoints.map Endpoint.restart

/-- The fault spotter after a brownout or soft restart: defect map, log and overflow count kept (R143, R154, R160, R164). -/
def FaultSpotter.restart (x : FaultSpotter) : FaultSpotter :=
  { x with streams := Vector.replicate 2 SpotterStream.reset, holds := Vector.replicate 4 none }

/-- The supply unit after a brownout or soft restart, with the copy in use and the cause record given (R170, R172). -/
def SupplyUnit.restart (x : SupplyUnit) (options : Options) (defaulted : Bool) (cause : ResetCause) : SupplyUnit :=
  SupplyUnit.refreshFilters
    { timeBase := 0
      rail := x.rail
      state := .normal
      warnEntry := none
      warnClear := none
      crit := none
      resumeTimer := none
      options := options
      defaulted := defaulted
      resetCause := cause
      power := .running }

/-- Every block takes the state its chapter gives for a brownout or soft restart (R173 step 3, R174). -/
def State.restartBlocks (s : State) (options : Options) (defaulted : Bool) (cause : ResetCause) : State :=
  State.deferTable
    { link := s.link.restart
      control := ControlUnit.reset options.noticePort
      table := s.table.restart
      offload := OffloadEngine.reset
      look := LookEngine.reset
      review := Vector.replicate 2 (Stream.closed StreamParams.none)
      spotter := s.spotter.restart
      supply := s.supply.restart options defaulted cause
      pending := s.pending
      freeCount := s.freeCount }

/-! ### The restarts (R173 to R175) -/

/-- The BROWNOUT filing: its detail is the supply state when the CRIT filter completed (R173 step 5). -/
def brownoutFiling (was : SupplyState) : Filing := { kind := .brownout, detail := was.code }

/-- BROWNOUT is filed at a time base the manual does not number: a free value (R173 step 5; DESIGN CHOICE, log entry 1). -/
def State.fileBrownout (s : State) (was : SupplyState) : State :=
  let t := Config.brownoutFilingTime s.freeCount
  let s := { s.modSupply fun x => { x with timeBase := t } with freeCount := s.freeCount + 1 }
  s.file (brownoutFiling was)

/-- The part starts again after a brownout (R173). -/
def State.brownout (s : State) (was : SupplyState) (block : Option (List Byte)) : State :=
  (s.restartBlocks (optionsInUse block) (optionsDefaulted block) { s.supply.resetCause with brownout := true }).fileBrownout
    was

/-- BROWNOUT_RESTART (R173): the part is held, and its restart delay has run whole. -/
def execBrownoutRestart (block : Option (List Byte)) (s : State) : Host.Outcome State Fault Refusal :=
  .next (match s.supply.power with
    | .held was (some _) => s.brownout was block
    | .held _ none | .running => s)

/-- The part starts again after a soft restart (R174). -/
def State.softRestarts (s : State) : State :=
  s.restartBlocks s.supply.options s.supply.defaulted { s.supply.resetCause with soft := true }

/-- SOFT_RESTART_EXECUTE (R174): the reply has left or been dropped. -/
def execSoftRestartExecute (s : State) : Host.Outcome State Fault Refusal :=
  .next (s.whenRunning fun s => if s.control.softRestart = .ready then s.softRestarts else s)

/-- The part starts after the application of power (R175). The rail's level, the commands that wait and the count of free
values go on. -/
def State.powerOn (s : State) (block : Option (List Byte)) : State :=
  let o := optionsInUse block
  { State.reset with
    link := ⟨o.roles.map fun r => PortState.reset .down r, []⟩
    control := ControlUnit.reset o.noticePort
    supply := SupplyUnit.refreshFilters
      { SupplyUnit.reset with rail := s.supply.rail, options := o, defaulted := optionsDefaulted block }
    pending := s.pending
    freeCount := s.freeCount }

/-- POWER_ON_RESTART (R175): the rail stands above 3.00 V. -/
def execPowerOnRestart (block : Option (List Byte)) (s : State) : Host.Outcome State Fault Refusal :=
  .next (if 3000 < s.supply.rail then s.powerOn block else s)

end Sys2Proof.Machine
end

