-- ==== Sys2Proof/Machine/Dispatch.lean ====
section
/-!
DEFINITION. The meaning of every command: one arm for each row of the table of operations, in the table's order.
-/

namespace Sys2Proof.Machine

/-- The effect of a command on everything but the queue of commands. -/
def exec (i : Instr) (s : State) : Host.Outcome State Fault Refusal :=
  match i with
  | .partnerDetected port => Sys2Proof.Machine.execPartnerDetected port s
  | .linkUp port => Sys2Proof.Machine.execLinkUp port s
  | .linkDown port => Sys2Proof.Machine.execLinkDown port s
  | .packetFrameReceived port frame => Sys2Proof.Machine.execPacketFrameReceived port frame s
  | .creditFrameReceived port frame => Sys2Proof.Machine.execCreditFrameReceived port frame s
  | .creditFrameTimer port => Sys2Proof.Machine.execCreditFrameTimer port s
  | .frameTransmitStart port => Sys2Proof.Machine.execFrameTransmitStart port s
  | .frameTransmitEnd port => Sys2Proof.Machine.execFrameTransmitEnd port s
  | .askExpiry port entry => Sys2Proof.Machine.execAskExpiry port entry s
  | .askEntryGrant port => Sys2Proof.Machine.execAskEntryGrant port s
  | .unknownRequest => Sys2Proof.Machine.execUnknownRequest s
  | .statusRead => Sys2Proof.Machine.execStatusRead s
  | .softRestart => Sys2Proof.Machine.execSoftRestart s
  | .softRestartExecute => Sys2Proof.Machine.execSoftRestartExecute s
  | .optionsRead => Sys2Proof.Machine.execOptionsRead s
  | .portRolesSet => Sys2Proof.Machine.execPortRolesSet s
  | .endpointAdd => Sys2Proof.Machine.execEndpointAdd s
  | .endpointRemove => Sys2Proof.Machine.execEndpointRemove s
  | .endpointList => Sys2Proof.Machine.execEndpointList s
  | .noticePortSet => Sys2Proof.Machine.execNoticePortSet s
  | .jobAdd => Sys2Proof.Machine.execJobAdd s
  | .jobCancel => Sys2Proof.Machine.execJobCancel s
  | .jobResume => Sys2Proof.Machine.execJobResume s
  | .jobRemove => Sys2Proof.Machine.execJobRemove s
  | .jobRead => Sys2Proof.Machine.execJobRead s
  | .clipRead => Sys2Proof.Machine.execClipRead s
  | .channelLimitSet => Sys2Proof.Machine.execChannelLimitSet s
  | .offloadPause => Sys2Proof.Machine.execOffloadPause s
  | .offloadContinue => Sys2Proof.Machine.execOffloadContinue s
  | .destRelease => Sys2Proof.Machine.execDestRelease s
  | .destReclaim => Sys2Proof.Machine.execDestReclaim s
  | .lookBegin => Sys2Proof.Machine.execLookBegin s
  | .lookData => Sys2Proof.Machine.execLookData s
  | .lookCommit => Sys2Proof.Machine.execLookCommit s
  | .lookDiscard => Sys2Proof.Machine.execLookDiscard s
  | .directorySet => Sys2Proof.Machine.execDirectorySet s
  | .clipSetLook => Sys2Proof.Machine.execClipSetLook s
  | .lookStatus => Sys2Proof.Machine.execLookStatus s
  | .reviewOpen => Sys2Proof.Machine.execReviewOpen s
  | .reviewClose => Sys2Proof.Machine.execReviewClose s
  | .reviewRead => Sys2Proof.Machine.execReviewRead s
  | .qcConfig => Sys2Proof.Machine.execQcConfig s
  | .defectAdd => Sys2Proof.Machine.execDefectAdd s
  | .defectRemove => Sys2Proof.Machine.execDefectRemove s
  | .defectPromote => Sys2Proof.Machine.execDefectPromote s
  | .defectList => Sys2Proof.Machine.execDefectList s
  | .candidatesRead => Sys2Proof.Machine.execCandidatesRead s
  | .faultTake => Sys2Proof.Machine.execFaultTake s
  | .faultPeek => Sys2Proof.Machine.execFaultPeek s
  | .clipClearFaults => Sys2Proof.Machine.execClipClearFaults s
  | .holdSet => Sys2Proof.Machine.execHoldSet s
  | .holdClear => Sys2Proof.Machine.execHoldClear s
  | .holdRelease => Sys2Proof.Machine.execHoldRelease s
  | .noticeChoose => Sys2Proof.Machine.execNoticeChoose s
  | .jobActivation job => Sys2Proof.Machine.execJobActivation job s
  | .channelBind => Sys2Proof.Machine.execChannelBind s
  | .bufferTake => Sys2Proof.Machine.execBufferTake s
  | .drainComplete port id => Sys2Proof.Machine.execDrainComplete port id s
  | .resumeTimerExpiry => Sys2Proof.Machine.execResumeTimerExpiry s
  | .rasterTaken stream => Sys2Proof.Machine.execRasterTaken stream s
  | .pacingTick stream => Sys2Proof.Machine.execPacingTick stream s
  | .stallTimerExpiry stream => Sys2Proof.Machine.execStallTimerExpiry stream s
  | .regradeEnd stream => Sys2Proof.Machine.execRegradeEnd stream s
  | .railLevelChange millivolts => Sys2Proof.Machine.execRailLevelChange millivolts s
  | .warnEntryFilter => Sys2Proof.Machine.execWarnEntryFilter s
  | .warnClearFilter => Sys2Proof.Machine.execWarnClearFilter s
  | .supplyResumeTimer => Sys2Proof.Machine.execSupplyResumeTimer s
  | .critFilter => Sys2Proof.Machine.execCritFilter s
  | .brownoutRestart block => Sys2Proof.Machine.execBrownoutRestart block s
  | .powerOnRestart block => Sys2Proof.Machine.execPowerOnRestart block s

end Sys2Proof.Machine
end

