-- ==== Sys2Proof/Machine/Step.lean ====
section
/-!
DEFINITION. One step of the block: the command at the front of the queue, or, on an empty queue, one microsecond of the
time base.
-/

namespace Sys2Proof.Machine

/-- The state with another queue of waiting commands. -/
def State.withPending (s : State) (q : List Instr) : State := { s with pending := q }

/-- The time base one microsecond later (R172): what the block does while no command waits (DESIGN CHOICE, log entry 8).
A held part's time base stands still (R173). -/
def State.idle (s : State) : State :=
  s.whenRunning fun s => s.modSupply fun x => { x with timeBase := x.timeBase + 1 }

/-- One step: the command at the front of the queue is carried out with the rest of the queue; on an empty queue the
block idles. DESIGN CHOICE, log entry 35. -/
def step (s : State) : Host.Outcome State Fault Refusal :=
  match s.pending with
  | [] => .next s.idle
  | c :: rest => exec c (s.withPending rest)

/-- The state with the command that a word spells put at the front of the queue; unchanged where the word spells none. -/
def State.withFetchWord (s : State) (nbits w : Nat) : State :=
  match decodeTableWord nbits w with
  | none => s
  | some c => s.withPending (c :: s.pending)

end Sys2Proof.Machine
end

