-- ==== Sys2Proof/Safety.lean ====
section
/-!
DEFINITION. What counts as a safe state of the block: the bounds and orders the manual states of its tables, and the
predicates in which statements speak of a request being taken and answered.
-/

namespace Sys2Proof

/-! ### The rows of the requests -/

/-- The request number of a request row (R22); none for an event. -/
def Instr.request : Instr → Option Nat
  | .statusRead => some 0x01 | .softRestart => some 0x02 | .optionsRead => some 0x03 | .portRolesSet => some 0x04
  | .endpointAdd => some 0x05 | .endpointRemove => some 0x06 | .endpointList => some 0x07
  | .noticePortSet => some 0x08 | .jobAdd => some 0x10 | .jobCancel => some 0x11 | .jobResume => some 0x12
  | .jobRemove => some 0x13 | .jobRead => some 0x14 | .clipRead => some 0x15 | .channelLimitSet => some 0x16
  | .offloadPause => some 0x17 | .offloadContinue => some 0x18 | .destRelease => some 0x19
  | .destReclaim => some 0x1A | .lookBegin => some 0x20 | .lookData => some 0x21 | .lookCommit => some 0x22
  | .lookDiscard => some 0x23 | .directorySet => some 0x24 | .clipSetLook => some 0x25 | .lookStatus => some 0x26
  | .reviewOpen => some 0x30 | .reviewClose => some 0x31 | .reviewRead => some 0x32 | .qcConfig => some 0x38
  | .defectAdd => some 0x39 | .defectRemove => some 0x3A | .defectPromote => some 0x3B | .defectList => some 0x3C
  | .candidatesRead => some 0x3D | .faultTake => some 0x3E | .faultPeek => some 0x3F
  | .clipClearFaults => some 0x40 | .holdSet => some 0x48 | .holdClear => some 0x49 | .holdRelease => some 0x4A
  | .partnerDetected _ | .linkUp _ | .linkDown _ | .packetFrameReceived _ _ | .creditFrameReceived _ _
  | .creditFrameTimer _ | .frameTransmitStart _ | .frameTransmitEnd _ | .askExpiry _ _ | .askEntryGrant _
  | .unknownRequest | .softRestartExecute | .noticeChoose | .jobActivation _ | .channelBind | .bufferTake
  | .drainComplete _ _ | .resumeTimerExpiry | .rasterTaken _ | .pacingTick _ | .stallTimerExpiry _ | .regradeEnd _
  | .railLevelChange _ | .warnEntryFilter | .warnClearFilter | .supplyResumeTimer | .critFilter
  | .brownoutRestart _ | .powerOnRestart _ => none

end Sys2Proof

namespace Sys2Proof.Machine

/-! ### Bounds and orders of the tables -/

/-- The fault log holds at most 128 entries (R160). -/
abbrev State.logFits (s : State) : Prop := s.spotter.log.length ≤ Config.faultLogLimit

/-- The defect map holds at most 1024 sites, in strictly ascending order of camera tag, line and column, each with its
line and column in range (R154). -/
abbrev State.mapSound (s : State) : Prop :=
  s.spotter.defectMap.length ≤ Config.defectLimit ∧
    s.spotter.defectMap.Pairwise (fun a b => a.key < b.key) ∧
    ∀ d ∈ s.spotter.defectMap, d.line ≤ 2303 ∧ d.column ≤ 4095

/-- Every request queue holds at most four requests (R20). -/
abbrev State.queuesFit (s : State) : Prop := ∀ p : Port, (s.control.queues[p]).length ≤ Config.requestQueueDepth

/-- The endpoint table holds at most 32 entries, in strictly ascending order of port, then id, with ids from 1 to 15
(section 1.5, R15). -/
abbrev State.endpointsSound (s : State) : Prop :=
  s.link.endpoints.length ≤ Config.endpointLimit ∧
    s.link.endpoints.Pairwise (fun a b => a.name.key < b.name.key) ∧
    ∀ e ∈ s.link.endpoints, 1 ≤ e.name.id ∧ e.name.id ≤ 15

/-- A port with nothing queued, in transmission or asked, and without credit (R2). -/
abbrev PortState.idle (x : PortState) : Prop :=
  (∀ k : Fin 4, x.queues[k] = []) ∧ x.transmitting = none ∧ x.wire = [] ∧ (∀ n : EntryId, x.asks[n].live = none) ∧
    x.waiting = [] ∧ (∀ k : Fin 4, x.receive[k] = ⟨0, 0⟩ ∧ x.send[k] = ⟨0, 0⟩) ∧ x.creditDue = false ∧
    x.creditTimer = none

/-- A port that is not UP is idle (R1, R2). -/
abbrev State.downIdle (s : State) : Prop := ∀ p : Port, (s.port p).link ≠ .up → (s.port p).idle

/-- The tables of the block are as the manual says. -/
abbrev State.Sound (s : State) : Prop := s.logFits ∧ s.mapSound ∧ s.queuesFit ∧ s.endpointsSound

/-! ### Requests taken and answered, bindings failed, the engine at rest -/

/-- The part runs, and the request the control unit takes next is `r`, from port `p` (R21). -/
abbrev State.Taking (s : State) (p : Port) (r : Request) : Prop := s.running = true ∧ s.nextRequest = some (p, r)

/-- The state after request `r` of port `p` has been taken, a rule has left `t`, and the reply has been handed over (R21,
R23). -/
def State.answered (t : State) (p : Port) (r : Request) (code : ReplyCode) (result : List Byte) : State :=
  t.reply p r.tag r.number code result

/-- What is left in `t` when the binding `b` of channel `c`, for a clip with record `x`, has failed from `s` (R69, R86,
R87): the clip's IN_PROGRESS records FAILED with the reason, the clip settled, its copy-fault count one higher, one fault
filed with the data source endpoint, and the channel CLOSING if a handle is present, else FREE. -/
abbrev State.bindingFailed (s t : State) (c : ChannelId) (b : Binding) (x : ClipRecord) (reason : FaultKind)
    (detail : Nat) : Prop :=
  t.clip? b.clip = some { x with
    dests := x.dests.map fun d =>
      if d.state = .inProgress then { d with state := .failed, reason := some reason } else d
    copyState :=
      if ∀ d ∈ x.dests, d.state = .verified then .complete
      else if ∃ d ∈ x.dests, d.state = .verified then .partialCopy
      else .failed
    copyFaults := min (x.copyFaults + 1) 65535
    qc := if x.qc = .clean then .flagged else x.qc } ∧
  t.channel c =
    (match b.handle with
    | none => .free
    | some h => .closing ⟨some b.job, b.source.endpoint, h, false⟩) ∧
  (∀ a : ChannelId, a ≠ c → t.channel a = s.channel a) ∧ (∀ n, n ≠ b.clip → t.clip? n = s.clip? n) ∧
  (s.spotter.log.length < 128 →
    t.spotter.log = s.spotter.log ++
      [⟨reason, s.supply.timeBase, some b.clip, none, some b.source.endpoint, none, none, BitVec.ofNat 32 detail, false⟩])

/-- Every channel is FREE and no job is IDENTIFYING: the offload engine has nothing to ask. -/
abbrev State.engineQuiet (s : State) : Prop :=
  (∀ c : ChannelId, s.channel c = .free) ∧ ∀ n : Fin 16, ∀ j ∈ s.job? n.val, j.state ≠ .identifying

/-- The engine has nothing to ask and no change of its state is due: it is quiet, RUNNING without a pause reason, and no
channel waits for a buffer. -/
abbrev State.engineStill (s : State) : Prop :=
  s.engineQuiet ∧ s.offload.state = .running ∧ s.offload.pauseSupply = false ∧ s.offload.pauseOperator = false ∧
    s.offload.bufferWaiting = []

end Sys2Proof.Machine
end

