-- ==== Sys2Proof/WellFormed.lean ====
section
/-!
DEFINITION. Well-formed commands: the operands a command can have at the block's boundary. The meanings are total and do
not depend on these checks.
-/

namespace Sys2Proof

/-- A packet frame as it arrives whole: not a credit frame, and, where its header can be read, as long as its header
states (section 1.7). -/
def wholePacketFrame (frame : List Byte) : Bool :=
  !frame.isEmpty && Machine.frameType frame != 2 &&
    match Machine.parseHeader frame with
    | none => true
    | some h => Machine.frameType frame != 1 || frame.length == 15 + h.length

/-- A credit frame as it arrives whole: type 2, 13 bytes (section 1.7). -/
def wholeCreditFrame (frame : List Byte) : Bool := frame.length == 13 && Machine.frameType frame == 2

/-- What the configuration memory answers: nothing, or at least the 11 bytes of the option block (section 12.5). -/
def wholeBlock (block : Option (List Byte)) : Bool :=
  match block with
  | none => true
  | some bytes => 11 ≤ bytes.length

/-- Whether a command is well formed. -/
def Instr.wf : Instr → Bool
  | .packetFrameReceived _ frame => wholePacketFrame frame
  | .creditFrameReceived _ frame => wholeCreditFrame frame
  | .jobActivation job => job < 16
  | .drainComplete _ id => 1 ≤ id && id ≤ 15
  | .brownoutRestart block => wholeBlock block
  | .powerOnRestart block => wholeBlock block
  | .partnerDetected _ | .linkUp _ | .linkDown _ | .creditFrameTimer _ | .frameTransmitStart _ | .frameTransmitEnd _
  | .askExpiry _ _ | .askEntryGrant _ | .unknownRequest | .statusRead | .softRestart | .softRestartExecute
  | .optionsRead | .portRolesSet | .endpointAdd | .endpointRemove | .endpointList | .noticePortSet | .jobAdd
  | .jobCancel | .jobResume | .jobRemove | .jobRead | .clipRead | .channelLimitSet | .offloadPause | .offloadContinue
  | .destRelease | .destReclaim | .lookBegin | .lookData | .lookCommit | .lookDiscard | .directorySet | .clipSetLook
  | .lookStatus | .reviewOpen | .reviewClose | .reviewRead | .qcConfig | .defectAdd | .defectRemove | .defectPromote
  | .defectList | .candidatesRead | .faultTake | .faultPeek | .clipClearFaults | .holdSet | .holdClear | .holdRelease
  | .noticeChoose | .channelBind | .bufferTake | .resumeTimerExpiry | .rasterTaken _ | .pacingTick _
  | .stallTimerExpiry _ | .regradeEnd _ | .railLevelChange _ | .warnEntryFilter | .warnClearFilter
  | .supplyResumeTimer | .critFilter => true

end Sys2Proof
end

