-- ==== Sys2Proof/Certificates/Slice0/Obligations.lean ====
section
/-!
DEFINITION. The statements for the provers: what the manual's rules say the commands and the block do. Each docstring names
the rules or sections it formalises.
-/

open Sys2Proof
open Sys2Proof.Machine

/-- With command c at the front of the queue, one step is exec of c on the state that holds the rest of the queue. -/
def Obligations.StepRunsFront : Prop :=
  ∀ (s : State) (c : Instr) (rest : List Instr), s.pending = c :: rest → step s = exec c (s.withPending rest)

/-- While no soft restart is under way, the request taken next is the oldest of port p exactly when p is the first
port, in the circular order after the port served last, whose queue holds a request; taking it removes it from that
queue alone and makes p the port served last (R21). A request row leaves the state as it is when the request taken
next has another number (the model's choice, log entry 2). The UNKNOWN_REQUEST row takes a request whose number is
outside 0x01 to 0x08, 0x10 to 0x1A, 0x20 to 0x26, 0x30 to 0x32, 0x38 to 0x40 and 0x48 to 0x4A, answers it
UNKNOWN_REQUEST, and does nothing else; a request whose number is in use it leaves (R22). Handing over a reply on an
UP port appends one REPLY packet to its control send queue: endpoint 0, stream 0, the request's tag, and a payload of
the request number, the outcome code, the result length in three bytes and the result fields; its other queues are
unchanged. On a port that is not UP the reply is lost and nothing changes (R23, section 2.6). -/
def Obligations.RequestsTakenAndAnswered : Prop :=
  (∀ (s : State) (p : Port) (r : Request), s.control.softRestart = .none →
    (s.nextRequest = some (p, r) ↔
      ∃ k : Fin 4, p = s.control.lastServed + 1 + k ∧ (s.control.queues[p]).head? = some r ∧
        ∀ j : Fin 4, j < k → s.control.queues[s.control.lastServed + 1 + j] = []) ∧
    (s.takeRequest p).control.lastServed = p ∧
    ∀ q : Port, (s.takeRequest p).control.queues[q] =
      if q = p then (s.control.queues[q]).tail else s.control.queues[q]) ∧
  (∀ (s : State) (p : Port) (r : Request), s.Taking p r →
    (∀ (c : Instr) (n : Nat), c.request = some n → r.number ≠ n → exec c s = .next s) ∧
    exec .unknownRequest s =
      if (1 ≤ r.number ∧ r.number ≤ 8) ∨ (0x10 ≤ r.number ∧ r.number ≤ 0x1A) ∨ (0x20 ≤ r.number ∧ r.number ≤ 0x26) ∨
          (0x30 ≤ r.number ∧ r.number ≤ 0x32) ∨ (0x38 ≤ r.number ∧ r.number ≤ 0x40) ∨
          (0x48 ≤ r.number ∧ r.number ≤ 0x4A) then .next s
      else .next ((s.takeRequest p).answered p r .unknownRequest [])) ∧
  ∀ (s : State) (p : Port) (tag n : Nat) (code : ReplyCode) (result : List Byte),
    (s.isUp p = true →
      ((s.reply p tag n code result).port p).queueOf .control =
        (s.port p).queueOf .control ++
          [⟨.reply, 0, 0, tag, byteOf n :: byteOf code.code :: (beBytes 3 result.length ++ result), .reply⟩] ∧
      ∀ c : PacketClass, c ≠ .control →
        ((s.reply p tag n code result).port p).queueOf c = (s.port p).queueOf c) ∧
    (s.isUp p = false → s.reply p tag n code result = s)

/-- For every filing: with fewer than 128 entries the log gains one entry at its tail, holding the kind, the time
base's value, the fields the fault carries and the detail, un-noticed; with 128 entries the log is unchanged and the
overflow count rises by one, stopping at 4,294,967,295. In either case, if the fault carries an allocated clip, that
clip's count of the kind's class rises by one, stopping at 65,535, a CLEAN QC state becomes FLAGGED, and no other
field of the record changes (R34, R35). A filing without a stream changes no stream and no hold point. One that
carries a stream is reported to it: while the stream is WAITING or RUNNING, each armed FAULT point of the stream and
of the filing's kind is met; the hold-pending mark is set if one is, and a one-shot point met is disarmed; no other
point changes. Of a HELD or CLOSED stream no point is met. The stream's processed frame in progress, if the filing
names its clip and number, is damaged; that a refused frame takes no damaged mark is the model's choice, log entry 43.
No other stream changes, nor anything of the link unit, control unit, engine, look engine, supply unit, jobs,
admission list, defect map and other clips (R131, R160, R164, R165). -/
def Obligations.FilingRecorded : Prop :=
  ∀ (s : State) (f : Filing),
    (s.spotter.log.length < 128 →
      (s.file f).spotter.log = s.spotter.log ++
        [⟨f.kind, s.supply.timeBase, f.clip, f.frame, f.endpoint, f.coordinate, f.stream, BitVec.ofNat 32 f.detail, false⟩] ∧
      (s.file f).spotter.overflow = s.spotter.overflow) ∧
    (128 ≤ s.spotter.log.length →
      (s.file f).spotter.log = s.spotter.log ∧
      (s.file f).spotter.overflow = min (s.spotter.overflow + 1) 4294967295) ∧
    (∀ (n : Nat) (c : ClipRecord), f.clip = some n → s.clip? n = some c →
      (s.file f).clip? n =
        some { c with
          copyFaults := if f.kind.faultClass = .copy then min (c.copyFaults + 1) 65535 else c.copyFaults
          pictureFaults := if f.kind.faultClass = .picture then min (c.pictureFaults + 1) 65535 else c.pictureFaults
          timingFaults := if f.kind.faultClass = .timing then min (c.timingFaults + 1) 65535 else c.timingFaults
          qc := if f.kind.faultClass ≠ .none ∧ c.qc = .clean then .flagged else c.qc }) ∧
    (∀ n : Nat, f.clip ≠ some n → (s.file f).clip? n = s.clip? n) ∧
    (f.stream = none → (s.file f).review = s.review ∧ (s.file f).spotter.holds = s.spotter.holds) ∧
    (∀ st : StreamId, f.stream = some st →
      let x := s.stream st
      let takes : Bool := x.state == .waiting || x.state == .running
      let met (h : HoldPoint) : Bool := takes && h.armed && h.stream == st && h.condition == .fault f.kind
      (∀ k : Fin 4, (s.file f).spotter.holds[k] =
        (s.spotter.holds[k]).map fun h => if met h && h.oneShot then { h with armed := false } else h) ∧
      (s.file f).stream st = { x with
        holdPending := x.holdPending || s.spotter.holds.toList.any fun h => h.any met
        frame := x.frame.map fun y =>
          if y.refused = false ∧ f.clip = some y.clip ∧ f.frame = some y.number then { y with damaged := true } else y } ∧
      ∀ y : StreamId, y ≠ st → (s.file f).stream y = s.stream y) ∧
    (s.file f).link = s.link ∧ (s.file f).control = s.control ∧ (s.file f).offload = s.offload ∧
    (s.file f).look = s.look ∧ (s.file f).supply = s.supply ∧ (s.file f).table.jobs = s.table.jobs ∧
    (s.file f).table.admission = s.table.admission ∧ (s.file f).spotter.streams = s.spotter.streams ∧
    (s.file f).spotter.defectMap = s.spotter.defectMap ∧ (s.file f).pending = s.pending

/-- From every state whose fault log holds at most 128 entries, a step that answers a next state leaves it with at
most 128 (R160). -/
def Obligations.StepKeepsLogLimit : Prop :=
  ∀ s t : State, s.logFits → step s = .next t → t.logFits

/-- From every state whose defect map holds at most 1024 sites in strictly ascending order of camera tag, line and
column, with lines to 2303 and columns to 4095, a step that answers a next state leaves such a map (R154). -/
def Obligations.StepKeepsDefectMap : Prop :=
  ∀ s t : State, s.mapSound → step s = .next t → t.mapSound

/-- From every state in which every port's request queue holds at most four requests, a step that answers a next state
leaves every queue with at most four (R20). -/
def Obligations.StepKeepsRequestQueues : Prop :=
  ∀ s t : State, s.queuesFit → step s = .next t → t.queuesFit

/-- From every state whose endpoint table holds at most 32 entries in strictly ascending order of port, then id, with
ids from 1 to 15, a step that answers a next state leaves such a table (section 1.5, R13 to R15). -/
def Obligations.StepKeepsEndpointTable : Prop :=
  ∀ s t : State, s.endpointsSound → step s = .next t → t.endpointsSound

/-- After a power-on restart every port is DOWN with nothing queued and no ask; the endpoint table, clip records, job
records, admission list, defect map and fault log are empty; every channel is FREE and the engine RUNNING without a
pause reason, last job served 15; every look slot has no active bank and an EMPTY shadow, every directory entry is
UNMAPPED; both streams are CLOSED; every hold point is free; the supply state is NORMAL and the reset cause is
POWER_ON alone; the port served last is L3. State.reset meets the bounds and orders that the invariant statements
speak of: fault log, defect map, request queues, endpoint table, and ports that are not UP. -/
def Obligations.ResetLeaves : Prop :=
  let s := State.reset
  (∀ p : Port, (s.port p).link = .down ∧ (∀ k : Fin 4, (s.port p).queues[k] = []) ∧ (s.port p).waiting = [] ∧
    ∀ n : EntryId, (s.port p).asks[n] = ⟨0, none⟩) ∧
  s.link.endpoints = [] ∧ (∀ n, s.clip? n = none) ∧ (∀ n, s.job? n = none) ∧ s.table.admission = [] ∧
  s.spotter.defectMap = [] ∧ s.spotter.log = [] ∧ s.spotter.overflow = 0 ∧
  (∀ c : ChannelId, s.channel c = .free) ∧ s.offload.state = .running ∧ s.offload.paused = false ∧
  s.offload.lastJob = 15 ∧
  (∀ k : Fin 16, (s.slot k).active = none ∧ (s.slot k).shadow = .empty ∧ (s.slot k).coverage = 0) ∧
  (∀ n, s.directoryAt n = none) ∧ (∀ st : StreamId, (s.stream st).state = .closed ∧ (s.stream st).latch = none) ∧
  (∀ k : Fin 4, s.spotter.holds[k] = none) ∧ s.supply.state = .normal ∧ s.supply.timeBase = 0 ∧
  s.supply.resetCause = ⟨true, false, false⟩ ∧ s.control.lastServed = 3 ∧ s.control.notice = .none ∧ s.pending = [] ∧
  s.logFits ∧ s.mapSound ∧ s.queuesFit ∧ s.endpointsSound ∧ s.downIdle

/-- A packet frame is type 1, the ten header bytes, the header check, the payload and four bytes; laid out for any
kind, endpoint and stream byte, tag below 65,536 and payload of at most 262,144 bytes, it reads as exactly that header
and payload, with the CRC-32 right if and only if the four bytes are the CRC-32 of all before them, most significant
first, as packetFrameBytes lays them out; one that holds other than its stated payload and four bytes reads with a
wrong CRC-32 (log entry 6). A credit frame is type 2, four totals and four bytes; it reads as the totals if the four
bytes are the CRC-32 of all before them, and else as none, and so does one that is not 13 bytes long (log entry 6).
The header check starts at 0 and takes each byte by eight shifts with polynomial 0x07; the CRC-32 starts at all ones,
with polynomial 0x04C11DB7, each byte's most significant bit first, and is complemented at the end (R4, section 1.7).
-/
def Obligations.PacketFrameRoundTrip : Prop :=
  (∀ (kind endpoint stream tag : Nat) (payload : List Byte), kind < 256 → endpoint < 256 → stream < 256 → tag < 65536 →
    payload.length ≤ 262144 →
    let header := [1, byteOf kind, byteOf endpoint, byteOf stream] ++ beBytes 2 tag ++ beBytes 4 payload.length
    let body := header ++ [crc8 header] ++ payload
    packetFrameBytes kind endpoint stream tag payload = body ++ beBytes 4 (crc32 body).toNat ∧
    (∀ check : List Byte, check.length = 4 →
      frameType (body ++ check) = 1 ∧
      parsePacket (body ++ check) = some ⟨⟨kind, endpoint, stream, tag, payload.length⟩, payload,
        decide (check = beBytes 4 (crc32 body).toNat)⟩) ∧
    ∀ rest : List Byte, rest.length ≠ payload.length + 4 →
      parsePacket (header ++ [crc8 header] ++ rest) =
        some ⟨⟨kind, endpoint, stream, tag, payload.length⟩, rest.take payload.length, false⟩) ∧
  (∀ a b c d : Word16,
    let body := [2] ++ beBytes 2 a.toNat ++ beBytes 2 b.toNat ++ beBytes 2 c.toNat ++ beBytes 2 d.toNat
    creditFrameBytes a b c d = body ++ beBytes 4 (crc32 body).toNat ∧
    ∀ check : List Byte, check.length = 4 →
      frameType (body ++ check) = 2 ∧
      parseCredit (body ++ check) = if check = beBytes 4 (crc32 body).toNat then some (a, b, c, d) else none) ∧
  (∀ frame : List Byte, frame.length ≠ 13 → parseCredit frame = none) ∧
  crc8 [] = 0 ∧ crc32 [] = 0 ∧
  ∀ (bs : List Byte) (b : Byte),
    crc8 (bs ++ [b]) =
      Nat.repeat (fun (r : Byte) => if r.getLsbD 7 then (r <<< 1) ^^^ 0x07 else r <<< 1) 8 (crc8 bs ^^^ b) ∧
    ~~~ crc32 (bs ++ [b]) =
      Nat.repeat (fun (r : Word32) => if r.getLsbD 31 then (r <<< 1) ^^^ 0x04C11DB7 else r <<< 1) 8
        (~~~ crc32 bs ^^^ (b.setWidth 32 <<< 24))

/-- On a running part: PARTNER_DETECTED takes a DOWN port to TRAINING and changes nothing in another state; LINK_UP
changes nothing on a port that is not TRAINING; LINK_DOWN takes a TRAINING port to DOWN and changes nothing on a DOWN
port; nothing but the link state changes (R1). LINK_UP of a TRAINING port leaves the port UP with 4 control and 64
bulk credits granted, 16 raster credits (less the buffers still held) for each open stream whose decoder is on the
port, the partner's totals and all counts zero, a credit frame due, its credit timer stopped and the queue last served
raster stream 1; every OFFLINE endpoint of the port is ONLINE (R3, R9, R12). Then the return of each DEST endpoint of
the port that is ONLINE is taken, in the order of the table: each clip of a job that is not CANCELLED with a DEFERRED
record that names it has the return noted while it is bound, and else taken, by job number and clip list (R88, R95;
these orders are log entry 37), and the engine asks what it can. If the engine is still and no DEFERRED record names
an endpoint of the port, nothing else changes. -/
def Obligations.LinkEvents : Prop :=
  (∀ (s : State) (p : Port), s.running = true →
    (exec (.partnerDetected p) s =
      if (s.port p).link = .down then .next (s.modPort p fun x => { x with link := .training }) else .next s) ∧
    ((s.port p).link ≠ .training → exec (.linkUp p) s = .next s) ∧
    ((s.port p).link = .training → exec (.linkDown p) s = .next (s.modPort p fun x => { x with link := .down })) ∧
    ((s.port p).link = .down → exec (.linkDown p) s = .next s)) ∧
  (∀ (s : State) (e : EpName),
    let returning := (s.table.jobs.toList.filterMap id).flatMap fun j =>
      if j.state = .cancelled then [] else j.clips.filter fun k => (s.clip? k).any fun c =>
        c.dests.any fun d => d.state == .deferred && d.endpoint == e
    s.takeReturn e = returning.foldl (fun (t : State) k => t.returnTo e k) s) ∧
  ∀ (s : State) (p : Port), s.running = true → (s.port p).link = .training →
    let raster (st : StreamId) : Word16 :=
      if (s.stream st).state ≠ .closed ∧ (s.stream st).params.decoder.port = p then
        BitVec.ofNat 16 (16 - (s.stream st).buffersOn p)
      else 0
    let u : State :=
      { s with link :=
        { ports := s.link.ports.set p.val
            { s.port p with
              link := .up
              receive := #v[⟨4, 0⟩, ⟨64, 0⟩, ⟨raster 0, 0⟩, ⟨raster 1, 0⟩]
              send := Vector.replicate 4 ⟨0, 0⟩
              creditDue := true
              creditTimer := none
              lastServed := 3 } p.isLt
          endpoints := s.link.endpoints.map fun e =>
            if e.name.port = p ∧ e.state = .offline then { e with state := .online } else e } }
    let back := (u.link.endpoints.filter fun e => e.name.port == p && e.kind == .dest && e.state == .online).map (·.name)
    exec (.linkUp p) s = .next (back.foldl (fun (t : State) e => t.takeReturn e) u).engineSettle ∧
    (s.engineStill → (∀ n c, s.clip? n = some c → ∀ d ∈ c.dests, d.endpoint.port = p → d.state ≠ .deferred) →
      exec (.linkUp p) s = .next u)

/-- On a running part, LINK_DOWN of an UP port, and the arrival there of a frame with a header error, complete: a type
byte other than 1 and 2 or no byte at all (log entry 6), a wrong header check, or a stated payload above 262,144 bytes
(R4). Afterwards the port is DOWN, or TRAINING after a header error (R1), and idle: its send queues, transmitter, asks
and waiting asks are gone and every credit is zero. The other ports keep their link state, and all their roles. No
request waits in its request queue, and the queues of the other ports stand as they were (R25). Its ONLINE and
DRAINING endpoints are OFFLINE; RELEASED ones stay, and so does every entry of another port (R12). The defect map, the
commands that wait and the supply unit are unchanged. If the log had room, the first entry filed is LINK_DOWN of the
port, with cause 1 for the event and 2 for the header error (R2); that it comes first is log entry 19. -/
def Obligations.PortLeavesUp : Prop :=
  ∀ (s : State) (p : Port), s.running = true → s.downIdle → (s.port p).link = .up →
    let leaves (c : Instr) (link : LinkState) (cause : Nat) : Prop :=
      ∃ t : State, exec c s = .next t ∧ (t.port p).link = link ∧ (t.port p).idle ∧
        (∀ q : Port, q ≠ p → (t.port q).link = (s.port q).link) ∧ (∀ q : Port, (t.port q).roles = (s.port q).roles) ∧
        (∀ q : Port, t.control.queues[q] = if q = p then [] else s.control.queues[q]) ∧
        t.link.endpoints = s.link.endpoints.map (fun e =>
          { e with state :=
              if e.name.port = p ∧ (e.state = .online ∨ e.state = .draining) then .offline else e.state }) ∧
        t.spotter.defectMap = s.spotter.defectMap ∧ t.pending = s.pending ∧ t.supply = s.supply ∧
        (s.spotter.log.length < 128 →
          t.spotter.log[s.spotter.log.length]? =
            some ⟨.linkDown, s.supply.timeBase, none, none, none, none, none, BitVec.ofNat 32 (p.val + 256 * cause), false⟩)
    leaves (.linkDown p) .down 1 ∧
    ∀ frame : List Byte,
      (frame.head? ≠ some 1 ∧ frame.head? ≠ some 2) ∨
        (∃ (header rest : List Byte) (check : Byte), frame = header ++ check :: rest ∧ header.length = 10 ∧
          header.head? = some 1 ∧ (crc8 header ≠ check ∨ 262144 < beNat (header.drop 6))) →
      leaves (.packetFrameReceived p frame) .training 2

/-- LINK_DOWN of an UP port, and a header error there (for an empty frame, log entry 6), have the effects of R2 and
then, in the order of log entries 19 and 37: the control unit drops the deferred replies of the port, a notice whose
packet was queued or in transmission there is no longer in flight, a SOFT RESTART reply so lost lets the restart begin
(R25, R29, R174); records of the port's endpoints are deferred with ENDPOINT_LOST (R93); each endpoint that was
DRAINING has its deferred reply formed, LINK_LOST with the number of its records deferred (R92; log entry 36); each
ACTIVE CONFIRMED job with its source there loses it (R58); each ask that was outstanding or waiting there fails with
ENDPOINT_LOST (R2); the outgoing packets of streams with their output there are gone; the engine asks what it can. A
drain's answer takes the first deferred entry of the endpoint off the list and hands the reply DONE, the result code
and the count in two bytes, to its port; without such an entry nothing happens (R24). A job that loses its source is
SUSPENDED with SOURCE_UNAVAILABLE and without standing, its channels are FREE, and where nothing was noted each clip
bound by one of them is WAITING with its IN_PROGRESS records PENDING and one ENDPOINT_LOST filed, of the source and
detail 0 (R57, R58). -/
def Obligations.LossSpreads : Prop :=
  (∀ (s : State) (p : Port), s.running = true → (s.port p).link = .up →
    exec (.linkDown p) s = .next (s.leavePort p .linkDown) ∧
    ∀ frame : List Byte,
      (frame.head? ≠ some 1 ∧ frame.head? ≠ some 2) ∨
        (∃ (header rest : List Byte) (check : Byte), frame = header ++ check :: rest ∧ header.length = 10 ∧
          header.head? = some 1 ∧ (crc8 header ≠ check ∨ 262144 < beNat (header.drop 6))) →
      exec (.packetFrameReceived p frame) s = .next (s.leavePort p .headerError)) ∧
  (∀ (s : State) (p : Port) (cause : LossCause),
    let x := s.port p
    let dropped (o : Owner) : Prop :=
      (∃ k : Fin 4, ∃ q ∈ x.queues[k], q.owner = o) ∨ ∃ q, x.transmitting = some (.packet q) ∧ q.owner = o
    let failing : List (Purpose × List Byte) :=
      (x.asks.toList.filterMap fun e => e.live.map fun l => (l.ask.purpose, l.received)) ++
        x.waiting.map fun a => (a.purpose, [])
    let draining := (s.link.endpoints.filter fun e => e.name.port == p && e.state == .draining).map (·.name)
    let jobs (t : State) : List Nat := (List.range 16).filter fun n => (t.job? n).any fun j =>
      j.state == .active && j.standing == some .confirmed && j.source.port == p
    ∃ u : State,
      (u.table = s.table ∧ u.offload = s.offload ∧ u.review = s.review ∧ u.look = s.look ∧ u.supply = s.supply ∧
        u.pending = s.pending ∧ u.spotter = (s.file { kind := .linkDown, detail := p.val + 256 * cause.code }).spotter) ∧
      ((u.port p).idle ∧ (u.port p).link = (if cause = .linkDown then .down else .training) ∧
        (u.port p).roles = x.roles ∧ ∀ q : Port, q ≠ p → u.port q = s.port q) ∧
      u.link.endpoints = s.link.endpoints.map (fun e =>
        { e with state := if e.name.port = p ∧ (e.state = .online ∨ e.state = .draining) then .offline else e.state }) ∧
      (u.control.deferred = s.control.deferred.filter (fun y => y.port ≠ p) ∧ u.control.queues = s.control.queues.set p.val [] p.isLt ∧
        (dropped .notice → u.control.notice = .none) ∧ (¬ dropped .notice → u.control.notice = s.control.notice) ∧
        (dropped .softRestartReply → u.control.softRestart = .ready) ∧
        (¬ dropped .softRestartReply → u.control.softRestart = s.control.softRestart) ∧
        u.control.noticePort = s.control.noticePort ∧ u.control.lastServed = s.control.lastServed) ∧
      (let deferred := u.deferRecords (fun e => e.port == p) (some .endpointLost)
       let answered := draining.foldl (fun (t : State) e => t.answerDrain e .linkLost
         ((u.reached fun y => y.port == p).filter fun z => z.record.endpoint == e).length) deferred
       let suspended := (jobs answered).foldl (fun (t : State) n => t.loseSource n) answered
       let told := failing.foldl (fun (t : State) a => t.askEnded a.1 a.2 .lost) suspended
       s.leavePort p cause =
         ((allStreams.filter fun st => (told.stream st).params.output.port == p).foldl
           (fun (t : State) st => t.outputGone st) told).engineSettle)) ∧
  (∀ (s : State) (e : EpName) (r : DrainResult) (n : Nat),
    ((∀ y ∈ s.control.deferred, y.endpoint ≠ e) → s.answerDrain e r n = s) ∧
    ∀ before x after, s.control.deferred = before ++ x :: after → x.endpoint = e → (∀ y ∈ before, y.endpoint ≠ e) →
      s.answerDrain e r n =
        State.reply { s with control := { s.control with deferred := s.control.deferred.filter fun y => y ≠ x } }
          x.port x.tag x.number .done (byteOf (if r = .released then 0 else 1) :: beBytes 2 n)) ∧
  ∀ (s : State) (n : Nat) (j : JobRecord), s.job? n = some j →
    (∀ (c : ChannelId) (b : Binding), s.channel c = .bound b → b.notes = []) →
    let t := s.loseSource n
    t.job? n = some { j with state := .suspended, suspend := some .sourceUnavailable, standing := none } ∧
    (∀ m, m ≠ n → t.job? m = s.job? m) ∧
    (∀ c : ChannelId, t.channel c = if (s.channel c).job? = some n then .free else s.channel c) ∧
    (s.spotter.log.length ≤ 120 → t.spotter.log = s.spotter.log ++
      (s.channelsOf n).filterMap fun c => (s.binding? c).map fun b =>
        ⟨.endpointLost, s.supply.timeBase, some b.clip, none, some j.source, none, none, 0, false⟩) ∧
    (∀ (c : ChannelId) (b : Binding) (x : ClipRecord), s.channel c = .bound b → b.job = n → s.clip? b.clip = some x →
      (∀ (a : ChannelId) (y : Binding), s.channel a = .bound y → y.clip = b.clip → a = c) →
      t.clip? b.clip = some { x with
        copyState := .waiting
        dests := x.dests.map fun r =>
          if r.state = .inProgress then { r with state := .pending, attempts := 0, reason := none } else r
        copyFaults := min (x.copyFaults + 1) 65535
        qc := if x.qc = .clean then .flagged else x.qc }) ∧
    ∀ k, (∀ (c : ChannelId) (b : Binding), s.channel c = .bound b → b.job = n → b.clip ≠ k) → t.clip? k = s.clip? k

/-- A whole packet of kind 1 to 4 arriving on an UP port with control credit left to the partner is counted and its
buffer freed at once with its credit. A CONTROL packet on a port without the CONTROL role is answered NOT_PERMITTED,
whatever its fields and form, with payload byte 0 as request number, or 0 for an empty payload. With the role: a
stream or endpoint other than 0 is discarded with LINK_PROTOCOL reason 4; a payload of fewer than 4 bytes, or whose
argument length is not its length less 4, with reason 5; else with fewer than four requests waiting its request joins
the tail of the port's queue with its number, tag and arguments, and with four it is answered BUSY. A REPLY, NOTICE or
ASK is discarded with reason 3, whatever the roles. Nothing else changes (R5, R6, R10, R20). On a running part, a good
credit frame on an UP port replaces the four running totals of the partner's grants and leaves the counts used, and
nothing else changes (R8). When the credit timer of a port ends, a credit frame is due and the timer is stopped; the
time base stands at the timer's end if it had not reached it (R6; the model's choice of log entry 8), and nothing else
changes. Without a timer running nothing happens. -/
def Obligations.ControlAndCreditFrames : Prop :=
  (∀ (s : State) (p : Port) (endpoint stream tag : Nat) (payload : List Byte), s.running = true → s.isUp p = true →
    endpoint < 256 → stream < 256 → tag < 65536 → payload.length ≤ 262144 →
    ((s.port p).receive[0]).total ≠ ((s.port p).receive[0]).count →
    let counted := s.modPort p fun x =>
      { x with receive := x.receive.set 0 { x.receive[0] with count := x.receive[0].count + 1 } }
    let freed (t : State) : State := t.modPort p fun x =>
      { x with receive := x.receive.set 0 { x.receive[0] with total := x.receive[0].total + 1 }, creditDue := true }
    let rejected (reason : Nat) : State :=
      freed (counted.file { kind := .linkProtocol, endpoint := some ⟨p, endpoint⟩, detail := reason })
    let arrives (kind : Nat) := exec (.packetFrameReceived p (packetFrameBytes kind endpoint stream tag payload)) s
    let number : Nat := match payload with
      | [] => 0
      | b :: _ => b.toNat
    let admitted : Prop := hasRole (s.port p).roles .control = true
    let formed : Prop := 4 ≤ payload.length ∧ beNat ((payload.drop 1).take 3) + 4 = payload.length
    (¬ admitted → arrives 1 = .next (freed (counted.reply p tag number .notPermitted []))) ∧
    (admitted → (stream ≠ 0 ∨ endpoint ≠ 0) → arrives 1 = .next (rejected 4)) ∧
    (admitted → stream = 0 → endpoint = 0 → ¬ formed → arrives 1 = .next (rejected 5)) ∧
    (admitted → stream = 0 → endpoint = 0 → formed →
      ((s.control.queues[p]).length < 4 →
        arrives 1 = .next (freed { counted with control :=
          { counted.control with
            queues := counted.control.queues.set p.val (s.control.queues[p] ++ [⟨number, tag, payload.drop 4⟩]) p.isLt } })) ∧
      (4 ≤ (s.control.queues[p]).length → arrives 1 = .next (freed (counted.reply p tag number .busy [])))) ∧
    ∀ kind : Nat, kind = 2 ∨ kind = 3 ∨ kind = 4 → arrives kind = .next (rejected 3)) ∧
  ∀ (s : State) (p : Port) (a b c d : Word16), s.running = true →
    (s.isUp p = true →
      exec (.creditFrameReceived p (creditFrameBytes a b c d)) s =
        .next (s.modPort p fun x =>
          { x with send := #v[⟨a, x.send[0].count⟩, ⟨b, x.send[1].count⟩, ⟨c, x.send[2].count⟩, ⟨d, x.send[3].count⟩] })) ∧
    exec (.creditFrameTimer p) s =
      match (s.port p).creditTimer with
      | none => .next s
      | some t => .next ((s.advanceTo t).modPort p fun x => { x with creditDue := true, creditTimer := none })

/-- On a running part: a frame on a port that is not UP changes nothing. On an UP port, whatever a packet frame's
CRC-32, a packet of a kind that is none of the seven, or a RASTER of a stream above 1, is discarded with LINK_PROTOCOL
reason 1, and a packet of a class, control, bulk or raster of its stream, whose credit the partner has used up, with
reason 2 (that these two checks come before the CRC-32 is log entry 13). One that passes both and whose CRC-32 is
wrong is counted in its class, and its buffer is freed: the credit returns, except that of a RASTER of a stream that
is not open with its decoder on the port; nothing else changes. A credit frame that cannot be read changes nothing. A
frame that is not whole has a wrong CRC-32 (log entry 6) (R4, R5 checks 1 and 2, R6 to R8). -/
def Obligations.BadFrames : Prop :=
  ∀ (s : State) (p : Port) (frame : List Byte) (x : RxPacket), s.running = true →
    (s.isUp p = false → exec (.packetFrameReceived p frame) s = .next s ∧ exec (.creditFrameReceived p frame) s = .next s) ∧
    (s.isUp p = true → frameType frame = 2 → parseCredit frame = none → exec (.creditFrameReceived p frame) s = .next s) ∧
    (s.isUp p = true → frameType frame = 1 → parsePacket frame = some x →
      let known : Prop := 1 ≤ x.header.kind ∧ x.header.kind ≤ 7 ∧ (x.header.kind = 7 → x.header.stream ≤ 1)
      let k : Fin 4 := if x.header.kind = 6 then 1 else if x.header.kind ≠ 7 then 0 else if x.header.stream = 0 then 2 else 3
      let st : StreamId := if x.header.stream = 0 then 0 else 1
      (¬ known →
        exec (.packetFrameReceived p frame) s =
          .next (s.file { kind := .linkProtocol, endpoint := some ⟨p, x.header.endpoint⟩, detail := 1 })) ∧
      (known → (s.port p).receive[k].total = (s.port p).receive[k].count →
        exec (.packetFrameReceived p frame) s =
          .next (s.file { kind := .linkProtocol, endpoint := some ⟨p, x.header.endpoint⟩, detail := 2 })) ∧
      (known → (s.port p).receive[k].total ≠ (s.port p).receive[k].count → x.crcGood = false →
        exec (.packetFrameReceived p frame) s =
          .next (s.modPort p fun y =>
            if x.header.kind ≠ 7 ∨ ((s.stream st).state ≠ .closed ∧ (s.stream st).params.decoder.port = p) then
              { y with
                receive := y.receive.set k.val ⟨y.receive[k].total + 1, y.receive[k].count + 1⟩ k.isLt
                creditDue := true }
            else { y with receive := y.receive.set k.val ⟨y.receive[k].total, y.receive[k].count + 1⟩ k.isLt })))

/-- A whole ANSWER or BLOCK arriving on an UP port with control or bulk credit left is counted and its buffer freed at
once with its credit. Without the SOURCE or DEST role it is discarded with LINK_PROTOCOL reason 3, with a stream other
than 0 with reason 4, and with a tag of no live ask without a word. For a live ask: an ANSWER of a status above 2, of
a length other than its status and ask call for, or stating more bytes than a READ asked for, is discarded with reason
5; else one of another endpoint with reason 6; else the entry is free with its generation, the ask's unsent BLOCKs are
gone, and its asker is told OK with the results, ERROR with the error code of bytes 1 to 4, or NO_MEDIUM, a READ's
count being the lesser of that stated and received; then the engine asks what it can. A BLOCK empty or above 65,536
bytes is discarded with reason 5, of another endpoint with 6, of an ask other than a READ, or past its length, with 5;
else its bytes are appended to those received, and an AWAITING ask's timer restarts (R5 checks 3 to 6, R17, R18; log
entries 23, 38 and, for the timer that a BLOCK past the length leaves, 42). -/
def Obligations.AnswersAndBlocks : Prop :=
  ∀ (s : State) (p : Port) (endpoint stream tag : Nat) (payload : List Byte), s.running = true → s.isUp p = true →
    endpoint < 256 → stream < 256 → tag < 65536 → payload.length ≤ 262144 →
    let admitted : Prop := hasRole (s.port p).roles .source = true ∨ hasRole (s.port p).roles .dest = true
    let counted (k : Fin 4) : State := s.modPort p fun x =>
      { x with receive := x.receive.set k.val ⟨x.receive[k].total, x.receive[k].count + 1⟩ k.isLt }
    let freed (k : Fin 4) (t : State) : State := t.modPort p fun x =>
      { x with receive := x.receive.set k.val ⟨x.receive[k].total + 1, x.receive[k].count⟩ k.isLt, creditDue := true }
    let rejected (k : Fin 4) (reason : Nat) : State :=
      freed k ((counted k).file { kind := .linkProtocol, endpoint := some ⟨p, endpoint⟩, detail := reason })
    let arrives (kind : Nat) := exec (.packetFrameReceived p (packetFrameBytes kind endpoint stream tag payload)) s
    let credit (k : Fin 4) : Prop := (s.port p).receive[k].total ≠ (s.port p).receive[k].count
    (∀ k : Fin 4, k = 0 ∨ k = 1 → credit k →
      let got := arrives (if k = 0 then 5 else 6)
      (¬ admitted → got = .next (rejected k 3)) ∧
      (admitted → stream ≠ 0 → got = .next (rejected k 4)) ∧
      (admitted → stream = 0 → (∀ l, (s.port p).asks[tag % 64]? ≠ some ⟨tag / 64, some l⟩) →
        got = .next (freed k (counted k)))) ∧
    ∀ l : LiveAsk, admitted → stream = 0 → (s.port p).asks[tag % 64]? = some ⟨tag / 64, some l⟩ →
      (credit 0 →
        let field (a n : Nat) : Nat := beNat ((payload.drop a).take n)
        let status : Option Nat := payload.head?.map (·.toNat)
        let okLength : Nat :=
          match l.ask.body with
          | .identify => 13 | .openFile _ => 17 | .create _ _ _ => 9 | .read _ _ _ => 9 | .write _ _ _ => 5 | .close _ => 5
        let fits : Prop :=
          ((status = some 1 ∨ status = some 2) ∧ payload.length = 5) ∨
            (status = some 0 ∧ payload.length = okLength ∧
              ∀ h o n, l.ask.body = .read h o n → field 5 4 ≤ n)
        let result : AskEnd :=
          if status = some 1 then .error (BitVec.ofNat 32 (field 1 4))
          else if status = some 2 then .noMedium
          else match l.ask.body with
            | .identify => .ok (.identity (BitVec.ofNat 64 (field 5 8)))
            | .openFile _ => .ok (.opened (BitVec.ofNat 32 (field 5 4)) (field 9 8))
            | .create _ _ _ => .ok (.created (BitVec.ofNat 32 (field 5 4)))
            | .read _ _ _ => .ok (.count (min (field 5 4) l.received.length))
            | .write _ _ _ => .ok .done
            | .close _ => .ok .done
        (¬ fits → arrives 5 = .next (rejected 0 5)) ∧
        (fits → l.ask.endpoint.id ≠ endpoint → arrives 5 = .next (rejected 0 6)) ∧
        (fits → l.ask.endpoint.id = endpoint →
          arrives 5 =
            .next (((freed 0 (counted 0)).modPort p fun x =>
              { x with
                asks := x.asks.setIfInBounds (tag % 64) ⟨tag / 64, none⟩
                queues := x.queues.map fun (q : List Packet) =>
                  q.filter fun pk => !(pk.kind == .block && pk.owner == .ask tag) }).askEnded
              l.ask.purpose l.received result).engineSettle)) ∧
      (credit 1 →
        let sized : Prop := 1 ≤ payload.length ∧ payload.length ≤ 65536
        let room : Prop := ∃ h o n, l.ask.body = .read h o n ∧ l.received.length + payload.length ≤ n
        (¬ sized → arrives 6 = .next (rejected 1 5)) ∧
        (sized → l.ask.endpoint.id ≠ endpoint → arrives 6 = .next (rejected 1 6)) ∧
        (sized → l.ask.endpoint.id = endpoint → ¬ room → arrives 6 = .next (rejected 1 5)) ∧
        (sized → l.ask.endpoint.id = endpoint → room →
          let full : Word64 :=
            s.supply.timeBase + BitVec.ofNat 64 (((s.endpoint? l.ask.endpoint).elim 2000 (·.timeoutMs)) * 1000)
          arrives 6 =
            .next (freed 1 ((counted 1).modPort p fun x =>
              { x with
                asks := x.asks.setIfInBounds (tag % 64)
                  ⟨tag / 64,
                    some { l with
                      received := l.received ++ payload
                      phase := match l.phase with
                        | .sending => .sending
                        | .awaiting _ => .awaiting full }⟩ }))))

/-- A whole RASTER of stream 0 or 1 arriving on an UP port with raster credit of the stream left is counted. Without
the DECODE role it is discarded with LINK_PROTOCOL reason 3; with a payload whose length is not 12 plus 6 times the
line count times the width, or whose line count is outside 1 to 8, with reason 5; of a CLOSED stream without a word;
from another endpoint than the stream's decoder with reason 6. A discarded packet frees its buffer, which returns its
credit while the stream is open with its decoder on the port, also while it is HELD (log entry 20). Any other packet
waits last of its stream's packets, with its port, clip, frame number, first line, width, flags and lines of codes, of
each two-byte code its low 12 bits, the DAMAGED flag being ignored (log entry 38), and the stall timer restarts at the
full stall timeout unless the stream is HELD; nothing else changes (R5 checks 3 to 6, R7, R129, R166). -/
def Obligations.RasterPackets : Prop :=
  ∀ (s : State) (p : Port) (st : StreamId) (endpoint tag : Nat) (payload : List Byte), s.running = true →
    s.isUp p = true → endpoint < 256 → tag < 65536 → payload.length ≤ 262144 →
    let x := s.stream st
    let k : Fin 4 := if st = 0 then 2 else 3
    let counted : State := s.modPort p fun y =>
      { y with receive := y.receive.set k.val ⟨y.receive[k].total, y.receive[k].count + 1⟩ k.isLt }
    let freed (t : State) : State :=
      if x.state ≠ .closed ∧ x.params.decoder.port = p then
        t.modPort p fun y =>
          { y with receive := y.receive.set k.val ⟨y.receive[k].total + 1, y.receive[k].count⟩ k.isLt, creditDue := true }
      else t
    let rejected (reason : Nat) : State :=
      freed (counted.file { kind := .linkProtocol, endpoint := some ⟨p, endpoint⟩, detail := reason })
    let arrives := exec (.packetFrameReceived p (packetFrameBytes 7 endpoint st.val tag payload)) s
    let count := beNat ((payload.drop 8).take 1)
    let width := beNat ((payload.drop 9).take 2)
    let fits : Prop := 1 ≤ count ∧ count ≤ 8 ∧ payload.length = 12 + 6 * count * width
    (s.port p).receive[k].total ≠ (s.port p).receive[k].count →
    (hasRole (s.port p).roles .decode = false → arrives = .next (rejected 3)) ∧
    (hasRole (s.port p).roles .decode = true → ¬ fits → arrives = .next (rejected 5)) ∧
    (hasRole (s.port p).roles .decode = true → fits →
      (x.state = .closed → arrives = .next counted) ∧
      (x.state ≠ .closed → x.params.decoder ≠ ⟨p, endpoint⟩ → arrives = .next (rejected 6)) ∧
      (x.state ≠ .closed → x.params.decoder = ⟨p, endpoint⟩ →
        ∀ (clip first w : Nat) (frame : Word32) (flags : RasterFlags) (lines : List (List Rgb)),
          payload = rasterPayload clip frame first w flags lines → clip < 65536 → first < 65536 → w < 65536 →
          (∀ l ∈ lines, l.length = w) → (∀ l ∈ lines, ∀ c ∈ l, c.r < 65536 ∧ c.g < 65536 ∧ c.b < 65536) →
          lines.length ≤ 8 →
          arrives =
            .next (counted.modStream st fun y =>
              { y with
                queue := y.queue ++
                  [⟨p, clip, frame, first, w, flags.start, flags.finish, flags.clipEnd,
                    lines.map fun l => l.map fun c => ⟨c.r % 4096, c.g % 4096, c.b % 4096⟩, false⟩]
                stallTimer :=
                  if x.state = .held then x.stallTimer
                  else some (s.supply.timeBase + BitVec.ofNat 64 (x.params.stallMs * 1000)) })))

/-- On a running part: a port that is not UP, or has a frame in transmission, starts nothing. Else a due credit frame
starts, carrying the four totals granted, and the credit timer is set 1,000 us ahead (counted from the frame's start:
log entry 29). Else, if k is the first queue in circular order after the one last served that holds a packet and whose
class has credit (total and count differ, and their difference is at most 32,767), its head starts: it leaves the
queue, the count rises by one, k is the queue last served, and the bytes on the wire are the packet frame. Unless the
head is a RASTER nothing else changes. The head of a raster queue, the one packet of its stream there, frees in the
same step the raster buffer its lines came in, unless the stream is HELD, when it is noted that the packet is gone
(that exception is log entry 20, after R166), and the next packet of the stream's outgoing frame takes its place. If
no queue can be served nothing happens (R6, R8, R9, R132, R135, R136). -/
def Obligations.TransmitStart : Prop :=
  ∀ (s : State) (p : Port), s.running = true →
    let x := s.port p
    let ready (k : Fin 4) : Prop :=
      x.queues[k] ≠ [] ∧ x.send[k].total ≠ x.send[k].count ∧ (x.send[k].total - x.send[k].count).toNat ≤ 32767
    (x.link ≠ .up ∨ x.transmitting ≠ none → exec (.frameTransmitStart p) s = .next s) ∧
    (x.link = .up → x.transmitting = none → x.creditDue = true →
      exec (.frameTransmitStart p) s =
        .next (s.modPort p fun y =>
          { y with
            creditDue := false
            creditTimer := some (s.supply.timeBase + 1000)
            transmitting :=
              some (.credit x.receive[0].total x.receive[1].total x.receive[2].total x.receive[3].total)
            wire := creditFrameBytes x.receive[0].total x.receive[1].total x.receive[2].total x.receive[3].total })) ∧
    (x.link = .up → x.transmitting = none → x.creditDue = false → (∀ k, ¬ ready k) →
      exec (.frameTransmitStart p) s = .next s) ∧
    (x.link = .up → x.transmitting = none → x.creditDue = false → ∀ (j : Fin 4) (pk : Packet) (rest : List Packet),
      ready (x.lastServed + 1 + j) → (∀ i : Fin 4, i < j → ¬ ready (x.lastServed + 1 + i)) →
      x.queues[x.lastServed + 1 + j] = pk :: rest →
      let k := x.lastServed + 1 + j
      let t := s.modPort p fun y =>
        { y with
          queues := y.queues.set k.val rest k.isLt
          send := y.send.set k.val ⟨y.send[k].total, y.send[k].count + 1⟩ k.isLt
          lastServed := k
          transmitting := some (.packet pk)
          wire := packetFrameBytes pk.kind.code pk.endpoint pk.stream pk.tag pk.payload }
      ((∀ st, pk.owner ≠ .raster st) → exec (.frameTransmitStart p) s = .next t) ∧
      ∀ st : StreamId, pk.owner = .raster st → (s.stream st).params.output.port = p → k = (if st = 0 then 2 else 3) →
        rest = [] →
        let z := s.stream st
        let v : State :=
          match z.inHand with
          | none => t
          | some b =>
            if z.state = .held then t.modStream st fun y => { y with inHand := some { b with outputGone := true } }
            else
              let w := t.modStream st fun y => { y with inHand := none }
              if z.state ≠ .closed ∧ z.params.decoder.port = b.port ∧ (s.port b.port).link = .up then
                w.modPort b.port fun y =>
                  { y with receive := y.receive.set k.val ⟨y.receive[k].total + 1, y.receive[k].count⟩ k.isLt, creditDue := true }
              else w
        exec (.frameTransmitStart p) s =
          .next (match z.presenting with
            | [] => v
            | next :: later =>
              (v.modStream st fun y => { y with presenting := later }).modPort p fun y =>
                { y with queues := y.queues.set k.val [next] k.isLt }))

/-- On a running part, with a frame in transmission on the port: its end frees the transmitter. For a credit frame, a
REPLY or a RASTER nothing else changes. For the NOTICE that carries a log entry, the entry is marked noticed and no
notice is in flight; for one whose entry FAULT TAKE has removed (log entry 32), no entry is marked and no notice is in
flight; for the SOFT RESTART reply, the restart may begin; for the last packet of an ask that holds an entry, the ask
is AWAITING with its answer timer the endpoint's timeout ahead, and for an earlier packet of it nothing else changes.
With no frame in transmission nothing happens (R9, R17, R29, R174). -/
def Obligations.TransmitEnd : Prop :=
  ∀ (s : State) (p : Port), s.running = true →
    let t := s.modPort p fun x => { x with transmitting := none, wire := [] }
    ((s.port p).transmitting = none → exec (.frameTransmitEnd p) s = .next s) ∧
    (∀ a b c d, (s.port p).transmitting = some (.credit a b c d) → exec (.frameTransmitEnd p) s = .next t) ∧
    ∀ pk : Packet, (s.port p).transmitting = some (.packet pk) →
      (pk.owner = .reply ∨ (∃ st, pk.owner = .raster st) → exec (.frameTransmitEnd p) s = .next t) ∧
      (pk.owner = .softRestartReply →
        exec (.frameTransmitEnd p) s = .next { t with control := { t.control with softRestart := .ready } }) ∧
      (pk.owner = .notice → s.control.notice = .orphan →
        exec (.frameTransmitEnd p) s = .next { t with control := { t.control with notice := .none } }) ∧
      (∀ (n : Nat) (e : FaultEntry), pk.owner = .notice → s.control.notice = .carrying n → s.spotter.log[n]? = some e →
        exec (.frameTransmitEnd p) s =
          .next { t with
            control := { t.control with notice := .none }
            spotter := { t.spotter with log := t.spotter.log.set n { e with noticed := true } } }) ∧
      ∀ tag : Nat, pk.owner = .ask tag →
        ((∃ k : Fin 4, ∃ q ∈ (s.port p).queues[k], q.owner = .ask tag) → exec (.frameTransmitEnd p) s = .next t) ∧
        ∀ (h : tag % 64 < 64) (l : LiveAsk), (∀ k : Fin 4, ∀ q ∈ (s.port p).queues[k], q.owner ≠ .ask tag) →
          (s.port p).asks[tag % 64] = ⟨tag / 64, some l⟩ →
          exec (.frameTransmitEnd p) s =
            .next (t.modPort p fun x =>
              { x with
                asks := x.asks.set (tag % 64)
                  ⟨tag / 64,
                    some { l with
                      phase := .awaiting (s.supply.timeBase +
                        BitVec.ofNat 64 (((s.endpoint? l.ask.endpoint).elim 2000 (·.timeoutMs)) * 1000)) }⟩ })

/-- An ask of an endpoint that is not in the table, neither ONLINE nor DRAINING, or on a port without the role of its
kind fails at once with ENDPOINT_LOST and changes nothing. Else, with asks of its port waiting (log entry 24: a new
ask queues behind them though an entry is free) or no entry free, it joins the waiting list's end; with none waiting
it takes the lowest-numbered free entry with the next generation, its packets handed to the send queues; on a port
that is not UP they are dropped and it fails at once, its entry free again (R9, R16, R17). On a running part: when the
answer timer of an AWAITING ask ends, its entry is free with its generation kept, the time base stands at the timer's
end if it had not reached it (the model's choice of log entry 8), and its asker is told TIMEOUT. On an UP port whose
lowest-numbered free entry is n and whose waiting list is not empty, the ask that has waited longest leaves the list
and takes n with the next generation, modulo 1024; its ASK packet, with the tag generation times 64 plus n, joins the
control queue, and its BLOCK packets the bulk queue in order. Either way the engine then asks what it can (R16, R17,
R19). -/
def Obligations.AskTableEvents : Prop :=
  (∀ (s : State) (a : Ask),
    let p := a.endpoint.port
    let usable : Prop := ∃ y, s.endpoint? a.endpoint = some y ∧ (y.state = .online ∨ y.state = .draining) ∧
      hasRole (s.port p).roles y.kind.role = true
    (¬ usable → s.makeAsk a = (s, true)) ∧
    (usable → ((s.port p).waiting ≠ [] ∨ ∀ n : EntryId, (s.port p).asks[n].live ≠ none) →
      s.makeAsk a = (s.modPort p fun x => { x with waiting := x.waiting ++ [a] }, false)) ∧
    (usable → (s.port p).waiting = [] → ∀ n : EntryId, (s.port p).asks[n].live = none →
      (∀ m : EntryId, m < n → (s.port p).asks[m].live ≠ none) →
      let g := ((s.port p).asks[n].generation + 1) % 1024
      let tag := g * 64 + n.val
      ((s.port p).link = .up →
        s.makeAsk a =
          (s.modPort p fun x =>
            { x with
              asks := x.asks.set n.val ⟨g, some ⟨a, .sending, []⟩⟩ n.isLt
              queues := (x.queues.set 0 (x.queues[0] ++
                  [⟨.ask, a.endpoint.id, 0, tag, a.body.payload, .ask tag⟩])).set 1 (x.queues[1] ++
                a.body.blocks.map fun data => ⟨.block, a.endpoint.id, 0, tag, data, .ask tag⟩) }, false)) ∧
      ((s.port p).link ≠ .up →
        s.makeAsk a = (s.modPort p fun x => { x with asks := x.asks.set n.val ⟨g, none⟩ n.isLt }, true)))) ∧
  ∀ (s : State) (p : Port), s.running = true →
    (∀ (n : EntryId) (g : Nat) (a : Ask) (data : List Byte) (time : Word64),
      (s.port p).asks[n] = ⟨g, some ⟨a, .awaiting time, data⟩⟩ →
      exec (.askExpiry p n) s =
        .next (((s.advanceTo time).modPort p fun x => { x with asks := x.asks.set n.val ⟨g, none⟩ n.isLt }).askEnded
          a.purpose data .timeout).engineSettle) ∧
    (∀ (n : EntryId), ((s.port p).asks[n].live = none ∨ ∃ a data, (s.port p).asks[n].live = some ⟨a, .sending, data⟩) →
      exec (.askExpiry p n) s = .next s) ∧
    (∀ (n : EntryId) (a : Ask) (rest : List Ask), (s.port p).link = .up → (s.port p).waiting = a :: rest →
      (s.port p).asks[n].live = none → (∀ m : EntryId, m < n → (s.port p).asks[m].live ≠ none) →
      let g := ((s.port p).asks[n].generation + 1) % 1024
      let tag := g * 64 + n.val
      exec (.askEntryGrant p) s =
        .next (s.modPort p fun x =>
          { x with
            waiting := rest
            asks := x.asks.set n.val ⟨g, some ⟨a, .sending, []⟩⟩ n.isLt
            queues := (x.queues.set 0 (x.queues[0] ++
                [⟨.ask, a.endpoint.id, 0, tag, a.body.payload, .ask tag⟩])).set 1 (x.queues[1] ++
              a.body.blocks.map fun data => ⟨.block, a.endpoint.id, 0, tag, data, .ask tag⟩) }).engineSettle) ∧
    ((s.port p).waiting = [] ∨ (∀ n : EntryId, (s.port p).asks[n].live ≠ none) → exec (.askEntryGrant p) s = .next s)

/-- STATUS READ without arguments is answered DONE with 22 bytes: the reset cause record before the request, the
supply state, the defaulted mark, the engine state, the pause reasons, the extent buffers held, the job and clip
records in use, the log's fill, the overflow count and the time base; the reset cause record is then empty. OPTIONS
READ is answered DONE with the copy in use in the option block's layout and the defaulted mark, and changes nothing.
With arguments each is answered BAD_ARGUMENT and changes nothing but the queues (R26, R171). SOFT RESTART without
arguments, from an UP port: the reply DONE joins the control queue and the restart waits for it; from a port that is
not UP the reply is dropped and the restart may begin at once. With arguments it is answered BAD_ARGUMENT.
SOFT_RESTART_EXECUTE does nothing while no soft restart is ready (R174). -/
def Obligations.DeviceRequests : Prop :=
  ((∀ (s : State) (p : Port) (r : Request), s.Taking p r → r.number = 0x02 →
    let u := s.takeRequest p
    exec .softRestart s = .next
      (match r.args with
      | [] =>
        if s.isUp p then
          { u.modPort p fun x =>
              { x with
                queues := x.queues.set 0
                  (x.queues[0] ++ [⟨.reply, 0, 0, r.tag, [0x02, 0, 0, 0, 0], .softRestartReply⟩]) } with
            control := { u.control with softRestart := .replyPending } }
        else { u with control := { u.control with softRestart := .ready } }
      | _ => u.answered p r .badArgument [])) ∧
  ∀ s : State, s.control.softRestart ≠ .ready → exec .softRestartExecute s = .next s) ∧
  ∀ (s : State) (p : Port) (r : Request), s.Taking p r →
    let u := s.takeRequest p
    (r.number = 0x01 →
      exec .statusRead s = .next
        (match r.args with
        | [] =>
          ({ u with supply := { u.supply with resetCause := ⟨false, false, false⟩ } }).answered p r .done
            ([byteOf s.supply.resetCause.code, byteOf s.supply.state.code, byteOf (flagCode s.supply.defaulted),
              byteOf s.offload.state.code,
              byteOf ((if s.offload.pauseSupply then 1 else 0) + if s.offload.pauseOperator then 2 else 0),
              byteOf s.buffersHeld, byteOf s.jobsInUse] ++ beBytes 2 s.clipsInUse ++ [byteOf s.spotter.log.length] ++
              beBytes 4 s.spotter.overflow ++ beBytes 8 s.supply.timeBase.toNat)
        | _ => u.answered p r .badArgument [])) ∧
    (r.number = 0x03 →
      exec .optionsRead s = .next
        (match r.args with
        | [] => u.answered p r .done (s.supply.options.bytes ++ [byteOf (flagCode s.supply.defaulted)])
        | _ => u.answered p r .badArgument []))

/-- PORT ROLES SET with a port and a role set of one byte each (the layout and the result are the model's choice, log
entry 7): a port above 3 or a set above 31 is answered BAD_ARGUMENT; a set that drops a role still in use IN_USE; a
set that leaves no port with CONTROL NOT_PERMITTED; otherwise the set replaces the port's and is returned. A role is
in use when an open stream needs it for its decoder or output on the port, or a job that is not DONE, DONE_INCOMPLETE
or CANCELLED names an endpoint of the port of that role's kind (R11). NOTICE PORT SET of one byte (the layout and the
result are the model's choice, log entry 7): a port above 3 is answered BAD_ARGUMENT, a port without CONTROL
NOT_PERMITTED, any other becomes the notice port and is returned (R27). NOTICE_CHOOSE on a running part with no notice
in flight and an UP notice port that has CONTROL, and entry n of the log un-noticed, with no un-noticed entry of
higher severity and none of its severity before it: a NOTICE packet of the entry's 28 bytes joins the notice port's
control queue and is in flight. With a notice in flight, no such entry, the port not UP or without CONTROL it does
nothing (R28). -/
def Obligations.PortRequests : Prop :=
  (∀ (s : State) (p : Port) (r : Request), s.Taking p r → r.number = 0x04 →
    let u := s.takeRequest p
    exec .portRolesSet s = .next
      (match r.args with
      | [a, b] =>
        if h : a.toNat < 4 then
          let q : Port := ⟨a.toNat, h⟩
          let t := u.modPort q fun x => { x with roles := BitVec.ofNat 5 b.toNat }
          if 31 < b.toNat then u.answered p r .badArgument []
          else if ∃ x ∈ [Role.control, .source, .dest, .decode, .display], hasRole (s.port q).roles x = true ∧ hasRole (BitVec.ofNat 5 b.toNat) x = false ∧
              ((∃ st : StreamId, (s.stream st).state ≠ .closed ∧
                  (x = .decode ∧ (s.stream st).params.decoder.port = q ∨
                    x = .display ∧ (s.stream st).params.output.port = q)) ∨
                ∃ e ∈ s.link.endpoints, e.name.port = q ∧ e.kind.role = x ∧ s.jobNames e.name = true) then
            u.answered p r .inUse []
          else if ∃ y : Port, hasRole (t.port y).roles .control = true then t.answered p r .done [b]
          else u.answered p r .notPermitted []
        else u.answered p r .badArgument []
      | _ => u.answered p r .badArgument [])) ∧
  (∀ (s : State) (p : Port) (r : Request), s.Taking p r → r.number = 0x08 →
    let u := s.takeRequest p
    exec .noticePortSet s = .next
      (match r.args with
      | [a] =>
        if h : a.toNat < 4 then
          if hasRole (s.port ⟨a.toNat, h⟩).roles .control then
            ({ u with control := { u.control with noticePort := ⟨a.toNat, h⟩ } }).answered p r .done [a]
          else u.answered p r .notPermitted []
        else u.answered p r .badArgument []
      | _ => u.answered p r .badArgument [])) ∧
  ∀ s : State, s.running = true →
    let q := s.control.noticePort
    (s.control.notice ≠ .none ∨ (s.port q).link ≠ .up ∨ hasRole (s.port q).roles .control = false ∨
        (∀ e ∈ s.spotter.log, e.noticed = true) → exec .noticeChoose s = .next s) ∧
    (s.control.notice = .none → (s.port q).link = .up → hasRole (s.port q).roles .control = true →
      ∀ (n : Nat) (e : FaultEntry), s.spotter.log[n]? = some e → e.noticed = false →
      (∀ (m : Nat) (x : FaultEntry), s.spotter.log[m]? = some x → x.noticed = false →
        x.kind.severity < e.kind.severity ∨ x.kind.severity = e.kind.severity ∧ n ≤ m) →
      exec .noticeChoose s =
        .next { s.modPort q fun x =>
            { x with queues := x.queues.set 0 (x.queues[0] ++ [⟨.notice, 0, 0, 0, e.bytes, .notice⟩]) } with
          control := { s.control with notice := .carrying n } })

/-- ENDPOINT ADD with port, id, kind code and a two-byte timeout (the layout and codes are the model's choice, log
entry 7): values out of range or an entry already there are answered BAD_ARGUMENT, a kind the port's roles do not
allow NOT_PERMITTED, a table of 32 entries FULL. Otherwise the table gains one entry at its place in the order of
port, then id, with the timeout (0 stands for 2,000 ms), ONLINE if the port is UP and OFFLINE if not; the request is
answered DONE and nothing else changes (R13, R15). ENDPOINT REMOVE with a port and an id (log entry 7 gives the
layout): values out of range are answered BAD_ARGUMENT, a missing entry NOT_FOUND, a DRAINING one WRONG_STATE, one
that an unfinished job names, an open stream uses or an ask is outstanding or waiting to IN_USE; otherwise its entry
leaves the table, the request is answered DONE, and nothing else changes (R14). -/
def Obligations.EndpointAddRemove : Prop :=
  (∀ (s : State) (p : Port) (r : Request), s.Taking p r → r.number = 0x05 →
    let u := s.takeRequest p
    exec .endpointAdd s = .next
      (match r.args with
      | [a, i, k, t1, t0] =>
        let time := t1.toNat * 256 + t0.toNat
        if h : a.toNat < 4 ∧ (1 ≤ i.toNat ∧ i.toNat ≤ 15) ∧ k.toNat < 4 ∧ (time = 0 ∨ 100 ≤ time ∧ time ≤ 10000) then
          let q : Port := ⟨a.toNat, h.1⟩
          let kind : EndpointKind :=
            if k = 0 then .source else if k = 1 then .dest else if k = 2 then .decoder else .display
          let role : Role := if k = 0 then .source else if k = 1 then .dest else if k = 2 then .decode else .display
          if ∃ e ∈ s.link.endpoints, e.name = ⟨q, i.toNat⟩ then u.answered p r .badArgument []
          else if hasRole (s.port q).roles role = false then u.answered p r .notPermitted []
          else if 32 ≤ s.link.endpoints.length then u.answered p r .full []
          else
            let entry : Endpoint :=
              ⟨⟨q, i.toNat⟩, kind, if time = 0 then 2000 else time, if (s.port q).link = .up then .online else .offline⟩
            ({ u with link :=
                { u.link with endpoints :=
                    s.link.endpoints.filter (fun (e : Endpoint) => e.name.key < entry.name.key) ++
                      entry :: s.link.endpoints.filter fun (e : Endpoint) => entry.name.key ≤ e.name.key } }).answered p r .done []
        else u.answered p r .badArgument []
      | _ => u.answered p r .badArgument [])) ∧
  ∀ (s : State) (p : Port) (r : Request), s.Taking p r → r.number = 0x06 →
    let u := s.takeRequest p
    exec .endpointRemove s = .next
      (match r.args with
      | [a, i] =>
        if h : a.toNat < 4 ∧ 1 ≤ i.toNat ∧ i.toNat ≤ 15 then
          let e : EpName := ⟨⟨a.toNat, h.1⟩, i.toNat⟩
          match s.endpoint? e with
          | none => u.answered p r .notFound []
          | some x =>
            if x.state = .draining then u.answered p r .wrongState []
            else if s.jobNames e = true ∨
                (∃ st : StreamId, (s.stream st).state ≠ .closed ∧
                  ((s.stream st).params.decoder = e ∨ (s.stream st).params.output = e)) ∨
                (∃ y ∈ (s.port e.port).allAsks, y.endpoint = e) then
              u.answered p r .inUse []
            else
              ({ u with link := { u.link with endpoints := s.link.endpoints.filter fun (y : Endpoint) => y.name ≠ e } }).answered p r
                .done []
        else u.answered p r .badArgument []
      | _ => u.answered p r .badArgument [])

/-- ENDPOINT LIST returns the number of entries, then seven bytes for each in the table's order: port, id, kind,
timeout, state and the asks that hold an entry for it (layout and codes are the model's choice, log entry 7). JOB READ
of a job returns its record with its place in the admission list, then how many of its clips are WAITING, COPYING,
COMPLETE, PARTIAL, FAILED and CANCELLED. CLIP READ returns a clip record. A job above 15 or clip above 511 is answered
BAD_ARGUMENT, a free record NOT_FOUND. The one-byte argument of JOB READ and the two-byte one of CLIP READ are log
entry 7 too. LOOK STATUS of a slot returns its status in 16 bytes, and of scope 255 the whole directory in 64. REVIEW
READ of a stream returns its status; the zeros it gives for what a stream has not, and for a stream never opened, are
log entries 22 and 5. DEFECT LIST returns the number of map entries of a camera tag, or of all with 255, and each in 5
bytes in the map's order. CANDIDATES READ returns whether the stream has a current clip, its camera tag, the number of
candidates, and each in 10 bytes. FAULT PEEK returns the log's fill, the overflow count, the number of entries
returned and those entries. Arguments out of range are answered BAD_ARGUMENT. A clip record is 62 bytes, 9 for each
destination, and the name; a job record lists its destinations and clips; a fault entry is 28 bytes; kinds are coded 1
to 28 in the table's order. A field that is absent is 0 (log entry 22 for REVIEW READ and fault entries). None of the
eight changes anything but the queues (section 3.9, R15, R42, R43, R113, R142, R158, R159, R162). -/
def Obligations.TableAndUnitReads : Prop :=
  (let kinds : List FaultKind :=
      [.sourceReadFailed, .sizeMismatch, .mediumChanged, .verifyMismatch, .destWriteFailed, .destTimeout, .peerMismatch,
        .noSource, .shortRead, .endpointLost, .hotPixel, .clipping, .blackFrame, .hotScanSaturated, .lookMissing, .lineGap,
        .geometry, .notSecured, .droppedFrames, .outOfOrder, .frameCount, .duplicateFrame, .stall, .outputRepeat,
        .linkProtocol, .linkDown, .supplyWarn, .brownout]
    let code (k : FaultKind) : Byte := byteOf (kinds.idxOf k + 1)
    let bit (b : Bool) (n : Nat) : Nat := if b then n else 0
    (∀ k : FaultKind, k ∈ kinds) ∧
    (∀ e : FaultEntry, e.bytes =
      [code e.kind,
        if e.kind ∈ [FaultKind.sourceReadFailed, .sizeMismatch, .mediumChanged, .brownout] then 3
        else if e.kind ∈ [FaultKind.shortRead, .endpointLost, .hotPixel, .clipping, .blackFrame, .duplicateFrame, .stall,
          .outputRepeat] then 1
        else if e.kind ∈ [FaultKind.hotScanSaturated, .lookMissing] then 0
        else 2,
        byteOf (bit e.clip.isSome 1 + bit e.frame.isSome 2 + bit e.endpoint.isSome 4 + bit e.coordinate.isSome 8 +
          bit e.stream.isSome 16),
        e.stream.elim 0 fun st => byteOf st.val] ++ beBytes 8 e.time.toNat ++ beBytes 2 (e.clip.getD 0) ++
        beBytes 4 (e.frame.elim 0 (·.toNat)) ++
        [e.endpoint.elim 0 fun n => byteOf n.port.val, e.endpoint.elim 0 fun n => byteOf n.id] ++
        beBytes 2 (e.coordinate.elim 0 (·.1)) ++ beBytes 2 (e.coordinate.elim 0 (·.2)) ++ beBytes 4 e.detail.toNat) ∧
    (∀ (j : JobRecord) (n place : Nat), j.bytes n place =
      [byteOf n,
        match j.state with
        | .queued => 0
        | .identifying => 1
        | .active => 2
        | .suspended => 3
        | .done => 4
        | .doneIncomplete => 5
        | .cancelled => 6,
        byteOf (bit j.medium.isSome 1 + bit j.suspend.isSome 2 + bit j.standing.isSome 4),
        match j.suspend with
        | none => 0
        | some .sourceUnavailable => 1
        | some .restart => 2
        | some .operator => 3,
        match j.standing with
        | none => 0
        | some .confirmed => 1
        | some .peerOnly => 2,
        byteOf j.limit, if j.reseed then 1 else 0, byteOf place, byteOf j.source.port.val, byteOf j.source.id] ++
        beBytes 8 (j.medium.elim 0 (·.toNat)) ++ [byteOf j.dests.length] ++
        (j.dests.flatMap fun d =>
          [byteOf d.endpoint.port.val, byteOf d.endpoint.id, byteOf d.root.length] ++ d.root) ++
        [byteOf j.clips.length] ++ j.clips.flatMap fun k => beBytes 2 k) ∧
    (∀ (c : ClipRecord) (n : Nat), c.bytes n =
      beBytes 2 n ++ [byteOf c.job, byteOf c.cameraTag] ++ beBytes 4 c.fileId.toNat ++ beBytes 5 c.size ++
        beBytes 4 ((c.size + 4194303) / 4194304) ++
        [match c.copyState with
          | .waiting => 0
          | .copying => 1
          | .complete => 2
          | .partialCopy => 3
          | .failed => 4
          | .cancelled => 5,
          byteOf (bit c.expectedFrames.isSome 1 + bit c.fileCrc.isSome 2 + bit c.highestFrame.isSome 4),
          c.look.elim 255 fun k => byteOf k] ++
        beBytes 4 c.hashed ++ beBytes 8 c.register.toNat ++ beBytes 8 (c.fileCrc.elim 0 (·.toNat)) ++
        beBytes 4 (c.expectedFrames.elim 0 (·.toNat)) ++
        [match c.qc with
          | .unchecked => 0
          | .clean => 1
          | .flagged => 2,
          byteOf (bit c.currentStreams[0] 1 + bit c.currentStreams[1] 2)] ++
        beBytes 4 c.framesSeen ++ beBytes 4 (c.highestFrame.elim 0 (·.toNat)) ++ beBytes 2 c.copyFaults ++
        beBytes 2 c.pictureFaults ++ beBytes 2 c.timingFaults ++ [byteOf c.dests.length] ++
        (c.dests.flatMap fun d =>
          [byteOf d.endpoint.port.val, byteOf d.endpoint.id,
            match d.state with
            | .pending => 0
            | .inProgress => 1
            | .verified => 2
            | .failed => 3
            | .deferred => 4,
            byteOf d.attempts, d.reason.elim 0 code] ++ beBytes 4 d.verified) ++
        [byteOf c.name.length] ++ c.name) ∧
    ∀ x : Stream,
      let ends : List Byte := beBytes 2 x.params.width ++ beBytes 2 x.params.height ++
        [byteOf x.params.decoder.port.val, byteOf x.params.decoder.id, byteOf x.params.output.port.val,
          byteOf x.params.output.id]
      (x.state = .closed → x.bytes = [0, 0, 0] ++ ends ++ List.replicate 45 0) ∧
      (x.state ≠ .closed → x.bytes =
        ([if x.state = .waiting then 1 else if x.state = .running then 2 else 3, if x.params.mode = .paced then 1 else 0,
          match x.params.encoding with
          | .full10 => 0
          | .narrow10 => 1
          | .full12 => 2] : List Byte) ++ ends ++
          [byteOf (bit x.currentClip.isSome 1 + bit x.lastFrame.isSome 2 + bit x.frame.isSome 4 + bit x.origin.isSome 8)] ++
          beBytes 2 (x.currentClip.getD 0) ++ beBytes 4 (x.lastFrame.elim 0 (·.toNat)) ++
          (match x.frame with
          | none => List.replicate 7 0
          | some f => beBytes 4 f.number.toNat ++ beBytes 2 f.next ++
              [byteOf (bit f.refused 1 + bit f.gap 2 + bit f.geometry 4 + bit f.damaged 8)]) ++
          (match x.graded with
          | .bypass => ([255, 255] : List Byte)
          | .bank k name => [byteOf k.val, if name = .a then 0 else 1]) ++
          ([match x.backState with
            | .idle => 0
            | .writing => 1
            | .ready => 2] : List Byte) ++ beBytes 4 x.tick ++ beBytes 4 x.run.length ++ beBytes 4 x.processed ++ beBytes 4 x.gated ++
          beBytes 4 x.stray ++ beBytes 4 x.skipped ++ beBytes 4 x.overruns)) ∧
  (∀ (s : State) (p : Port) (r : Request), s.Taking p r →
    let u := s.takeRequest p
    (r.number = 0x07 →
      exec .endpointList s = .next
        (match r.args with
        | [] =>
          u.answered p r .done (byteOf s.link.endpoints.length :: s.link.endpoints.flatMap fun e =>
            [byteOf e.name.port.val, byteOf e.name.id, match e.kind with
                | .source => 0
                | .dest => 1
                | .decoder => 2
                | .display => 3] ++ beBytes 2 e.timeoutMs ++
              [match e.state with
                | .online => 0
                | .offline => 1
                | .draining => 2
                | .released => 3, byteOf (s.entriesTo e.name)])
        | _ => u.answered p r .badArgument [])) ∧
    (r.number = 0x14 →
      exec .jobRead s = .next
        (match r.args with
        | [a] =>
          if 15 < a.toNat then u.answered p r .badArgument []
          else
            match s.job? a.toNat with
            | none => u.answered p r .notFound []
            | some j =>
              let tally (x : CopyState) : Byte :=
                byteOf (j.clips.filter fun k => (s.clip? k).any fun c => c.copyState == x).length
              u.answered p r .done
                (j.bytes a.toNat (s.table.admission.idxOf a.toNat) ++
                  [tally .waiting, tally .copying, tally .complete, tally .partialCopy, tally .failed, tally .cancelled])
        | _ => u.answered p r .badArgument [])) ∧
    (r.number = 0x15 →
      exec .clipRead s = .next
        (match r.args with
        | [a, b] =>
          let n := a.toNat * 256 + b.toNat
          if 511 < n then u.answered p r .badArgument []
          else
            match s.clip? n with
            | none => u.answered p r .notFound []
            | some c => u.answered p r .done (c.bytes n)
        | _ => u.answered p r .badArgument []))) ∧
  ∀ (s : State) (p : Port) (r : Request), s.Taking p r →
    let u := s.takeRequest p
    (r.number = 0x26 →
      exec .lookStatus s = .next
        (match r.args with
        | [a] =>
          if a = 255 then
            u.answered p r .done (s.look.directory.toList.map fun x => x.elim 255 fun k => byteOf k.val)
          else if h : a.toNat < 16 then
            let k : Fin 16 := ⟨a.toNat, h⟩
            let x := s.slot k
            let latched (bank : BankName) : Byte :=
              byteOf ((if (s.stream 0).latch = some (k, bank) then 1 else 0) +
                if (s.stream 1).latch = some (k, bank) then 2 else 0)
            let shadow := if x.active = some .a then x.bankB else x.bankA
            u.answered p r .done
              ([x.active.elim 255 fun bank => if bank = .a then 0 else 1, if x.active = some .a then 1 else 0,
                match x.shadow with
                  | .empty => 0
                  | .loading => 1
                  | .complete => 2
                  | .stale => 3, byteOf (x.bankA.size.getD 0), byteOf (x.bankB.size.getD 0)] ++
                beBytes 4 ((shadow.tables.toList.map List.length).sum) ++
                beBytes 4 (shadow.size.elim 0 fun n => 783 + 3 * n ^ 3) ++
                [latched .a, latched .b, byteOf (s.look.directory.toList.filter fun x => x == some k).length])
          else u.answered p r .badArgument []
        | _ => u.answered p r .badArgument [])) ∧
    (r.number = 0x32 →
      exec .reviewRead s = .next
        (match r.args with
        | [a] => if h : a.toNat < 2 then u.answered p r .done (s.stream ⟨a.toNat, h⟩).bytes else u.answered p r .badArgument []
        | _ => u.answered p r .badArgument [])) ∧
    (r.number = 0x3C →
      exec .defectList s = .next
        (match r.args with
        | [a] =>
          if a.toNat ≤ 15 ∨ a = 255 then
            let found := s.spotter.defectMap.filter fun d => a == 255 || d.tag == a.toNat
            u.answered p r .done (beBytes 2 found.length ++
              found.flatMap fun d => byteOf d.tag :: (beBytes 2 d.line ++ beBytes 2 d.column))
          else u.answered p r .badArgument []
        | _ => u.answered p r .badArgument [])) ∧
    (r.number = 0x3D →
      exec .candidatesRead s = .next
        (match r.args with
        | [a] =>
          if h : a.toNat < 2 then
            let st : StreamId := ⟨a.toNat, h⟩
            let found := (s.spot st).candidates
            u.answered p r .done
              ([if (s.stream st).currentClip = none then 0 else 1,
                (((s.stream st).currentClip.bind s.clip?).map fun c => byteOf c.cameraTag).getD 0, byteOf found.length] ++
                found.flatMap fun c => beBytes 2 c.line ++ beBytes 2 c.column ++ [byteOf c.count] ++
                  beBytes 4 c.lastFrame.toNat ++ [byteOf ((if c.reported then 1 else 0) + if c.seen then 2 else 0)])
          else u.answered p r .badArgument []
        | _ => u.answered p r .badArgument [])) ∧
    (r.number = 0x3F →
      exec .faultPeek s = .next
        (match r.args with
        | [a, n] =>
          if a.toNat ≤ 127 ∧ 1 ≤ n.toNat ∧ n.toNat ≤ 128 then
            let found := (s.spotter.log.drop a.toNat).take n.toNat
            u.answered p r .done (byteOf s.spotter.log.length :: (beBytes 4 s.spotter.overflow ++
              byteOf found.length :: found.flatMap FaultEntry.bytes))
          else u.answered p r .badArgument []
        | _ => u.answered p r .badArgument []))

/-- JOB ADD whose length is not the one its counts imply, or with a value out of range, is answered BAD_ARGUMENT; a
missing endpoint NOT_FOUND; endpoints of the wrong kind BAD_ARGUMENT; a DRAINING or RELEASED destination WRONG_STATE;
no free job record or too few free clip records FULL. Otherwise the lowest-numbered free job record holds the job,
QUEUED, at the tail of the admission list, and the lowest-numbered free clip records hold its clips, WAITING,
UNCHECKED, one PENDING record for each destination; the reply DONE gives the job number, the number of clips and their
numbers; nothing else changes (R39, R40). -/
def Obligations.JobAdd : Prop :=
  ∀ (s : State) (p : Port) (r : Request), s.Taking p r → r.number = 0x10 →
    let u := s.takeRequest p
    (parseJob r.args = none → exec .jobAdd s = .next (u.answered p r .badArgument [])) ∧
    ∀ a : JobArgs, parseJob r.args = some a →
      let ends := (a.port, a.id) :: a.dests.map fun d => (d.port, d.id)
      let good : Prop :=
        (∀ e ∈ ends, e.1 < 4 ∧ 1 ≤ e.2 ∧ e.2 ≤ 15) ∧ a.limit ≤ 8 ∧ 1 ≤ a.dests.length ∧ a.dests.length ≤ 4 ∧
          1 ≤ a.clips.length ∧ a.clips.length ≤ 128 ∧ (∀ d ∈ a.dests, d.root ≠ []) ∧
          (∀ c ∈ a.clips, c.tag ≤ 15 ∧ c.flag ≤ 1 ∧ (c.look ≤ 63 ∨ c.look = 255) ∧ c.name ≠ []) ∧
          (a.dests.map fun d => (d.port, d.id)).Nodup ∧ (a.clips.map (·.name)).Nodup
      (¬ good → exec .jobAdd s = .next (u.answered p r .badArgument [])) ∧
      (good → ∀ (source : EpName) (dests : List EpName),
        (source :: dests).map (fun e => (e.port.val, e.id)) = ends →
        let kind (e : EpName) (k : EndpointKind) : Prop := ∃ x, s.endpoint? e = some x ∧ x.kind = k
        let leaving (e : EpName) : Prop :=
          ∃ x, s.endpoint? e = some x ∧ (x.state = .draining ∨ x.state = .released)
        let free := (List.range 512).filter fun n => (s.clip? n).isNone
        ((∃ e ∈ source :: dests, s.endpoint? e = none) → exec .jobAdd s = .next (u.answered p r .notFound [])) ∧
        ((∀ e ∈ source :: dests, s.endpoint? e ≠ none) →
          ((¬ kind source .source ∨ ∃ e ∈ dests, ¬ kind e .dest) →
            exec .jobAdd s = .next (u.answered p r .badArgument [])) ∧
          (kind source .source → (∀ e ∈ dests, kind e .dest) →
            ((∃ e ∈ dests, leaving e) → exec .jobAdd s = .next (u.answered p r .wrongState [])) ∧
            ((∀ e ∈ dests, ¬ leaving e) →
              ((∀ n < 16, s.job? n ≠ none) ∨ free.length < a.clips.length →
                exec .jobAdd s = .next (u.answered p r .full [])) ∧
              ∀ job < 16, s.job? job = none → (∀ n < job, s.job? n ≠ none) → a.clips.length ≤ free.length →
                let clips := free.take a.clips.length
                exec .jobAdd s = .next
                  (({ u with table :=
                      { clips := (clips.zip a.clips).foldl (fun (v : Vector (Option ClipRecord) 512) (nc : Nat × ClipArgs) => v.setIfInBounds nc.1
                          (some (nc.2.record job dests))) s.table.clips
                        jobs := s.table.jobs.setIfInBounds job
                          (some { source := source
                                  dests := (dests.zip a.dests).map fun (ed : EpName × DestArgs) => ⟨ed.1, ed.2.root⟩
                                  clips := clips
                                  limit := if a.limit = 0 then 2 else a.limit
                                  reseed := false
                                  state := .queued
                                  suspend := none
                                  medium := none
                                  standing := none })
                        admission := s.table.admission ++ [job] } }).answered p r .done
                    (byteOf job :: byteOf clips.length :: clips.flatMap fun n => beBytes 2 n))))))

/-- JOB CANCEL of one byte (log entry 7): a number above 15 is answered BAD_ARGUMENT, a free record NOT_FOUND, a
finished job WRONG_STATE. Otherwise the job is CANCELLED without suspend reason, standing or re-seed mark, and the
request is answered DONE. Each channel of the job is FREE, no ask of such a channel or IDENTIFY of the job is left,
each clip of the job has its IN_PROGRESS records PENDING, and is COMPLETE if every record is VERIFIED, PARTIAL if some
is, FAILED if it was FAILED, else CANCELLED. No other clip, job or channel changes, nor the admission list, fault log,
looks, streams or supply. Then the engine asks what it can (R60). OFFLOAD PAUSE of scope 255 sets the OPERATOR reason,
with the effects of R62, and returns the engine state and the reasons after the request; of a job, a number above 15
is answered BAD_ARGUMENT, a free record NOT_FOUND, a job that is not QUEUED, IDENTIFYING or ACTIVE WRONG_STATE, and
otherwise the job is SUSPENDED with reason OPERATOR and no standing, each of its channels is FREE, and the reply gives
the job state. OFFLOAD CONTINUE removes OPERATOR with the effects of R62 and returns the engine state and the reasons
after the request (R62, R64, R65; the last two results of a job's pause are log entry 7). -/
def Obligations.JobCancelAndPause : Prop :=
  (∀ (s : State) (p : Port) (r : Request), s.Taking p r → r.number = 0x11 →
    let u := s.takeRequest p
    (∀ a : Byte, r.args = [a] →
      (15 < a.toNat → exec .jobCancel s = .next (u.answered p r .badArgument [])) ∧
      (a.toNat ≤ 15 → s.job? a.toNat = none → exec .jobCancel s = .next (u.answered p r .notFound [])) ∧
      ∀ j, s.job? a.toNat = some j →
        ((j.state = .done ∨ j.state = .doneIncomplete ∨ j.state = .cancelled) →
          exec .jobCancel s = .next (u.answered p r .wrongState [])) ∧
        (¬ (j.state = .done ∨ j.state = .doneIncomplete ∨ j.state = .cancelled) →
          ∃ t : State, exec .jobCancel s = .next (t.engineSettle.answered p r .done []) ∧
            (∀ n, t.job? n =
              if n = a.toNat then
                some { j with state := .cancelled, suspend := none, standing := none, reseed := false }
              else s.job? n) ∧
            (∀ k c, s.clip? k = some c → k ∉ j.clips → t.clip? k = some c) ∧
            (∀ k c, s.clip? k = some c → k ∈ j.clips →
              t.clip? k = some { c with
                dests := c.dests.map fun d =>
                  if d.state = .inProgress then { d with state := .pending, attempts := 0, reason := none } else d
                copyState :=
                  if ∀ d ∈ c.dests, d.state = .verified then .complete
                  else if ∃ d ∈ c.dests, d.state = .verified then .partialCopy
                  else if c.copyState = .failed then .failed
                  else .cancelled }) ∧
            (∀ c : ChannelId, t.channel c = if (s.channel c).job? = some a.toNat then .free else s.channel c) ∧
            (∀ q : Port, ∀ x ∈ (t.port q).allAsks, x.purpose ≠ .identify a.toNat ∧
              ∀ c : ChannelId, x.purpose.channel = some c → (s.channel c).job? ≠ some a.toNat) ∧
            t.table.admission = s.table.admission ∧ t.spotter = s.spotter ∧ t.look = s.look ∧ t.review = s.review ∧
            t.supply = s.supply ∧ t.link.endpoints = s.link.endpoints ∧ t.control = u.control)) ∧
    ((∀ a : Byte, r.args ≠ [a]) → exec .jobCancel s = .next (u.answered p r .badArgument []))) ∧
  ∀ (s : State) (p : Port) (r : Request), s.Taking p r →
    let u := s.takeRequest p
    let reasons (t : State) : List Byte :=
      [byteOf t.offload.state.code,
        byteOf ((if t.offload.pauseSupply then 1 else 0) + if t.offload.pauseOperator then 2 else 0)]
    let on := State.engineSettle { u with offload := { u.offload with pauseOperator := true } }
    let off := State.engineSettle { u with offload := { u.offload with pauseOperator := false } }
    (r.number = 0x17 →
      exec .offloadPause s = .next
        (match r.args with
        | [a] =>
          if a = 255 then on.answered p r .done (reasons on)
          else if 15 < a.toNat then u.answered p r .badArgument []
          else
            match s.job? a.toNat with
            | none => u.answered p r .notFound []
            | some j =>
              if j.state = .queued ∨ j.state = .identifying ∨ j.state = .active then
                (u.suspendJob a.toNat).engineSettle.answered p r .done [3]
              else u.answered p r .wrongState []
        | _ => u.answered p r .badArgument [])) ∧
    (r.number = 0x18 →
      exec .offloadContinue s = .next
        (match r.args with
        | [] => off.answered p r .done (reasons off)
        | _ => u.answered p r .badArgument [])) ∧
    ∀ n j, s.job? n = some j →
      (s.suspendJob n).job? n =
        some { j with state := .suspended, suspend := some .operator, standing := none } ∧
      ∀ c : ChannelId, (s.channel c).job? = some n → (s.suspendJob n).channel c = .free

/-- JOB RESUME of one byte, CHANNEL LIMIT SET of a job number and a limit (the layouts, and the result of the second,
are the model's choice, log entry 7): a number above 15, or a limit outside 1 to 8, is answered BAD_ARGUMENT, a free
record NOT_FOUND. JOB RESUME of a job that is not SUSPENDED is answered WRONG_STATE; a SUSPENDED job becomes QUEUED
without suspend reason, keeping its place in the admission list. CHANNEL LIMIT SET sets the limit of the job, whatever
its state, and unbinds no channel. Each is answered DONE; nothing else changes (R59, R61). JOB REMOVE of one byte (log
entry 7): a number above 15 is answered BAD_ARGUMENT, a free record NOT_FOUND, an unfinished job WRONG_STATE, a job
with a clip that is current on a stream IN_USE. Otherwise its clip records and job record are free, it leaves the
admission list, its CLOSING channels belong to no job, and the reply DONE gives the number of clip records freed;
nothing else changes (R41, R56). -/
def Obligations.JobRequests : Prop :=
  (∀ (s : State) (p : Port) (r : Request), s.Taking p r →
    let u := s.takeRequest p
    (r.number = 0x12 →
      exec .jobResume s = .next
        (match r.args with
        | [a] =>
          if 15 < a.toNat then u.answered p r .badArgument []
          else
            match s.job? a.toNat with
            | none => u.answered p r .notFound []
            | some j =>
              if j.state = .suspended then
                (u.setJob a.toNat (some { j with state := .queued, suspend := none })).answered p r .done []
              else u.answered p r .wrongState []
        | _ => u.answered p r .badArgument [])) ∧
    (r.number = 0x16 →
      exec .channelLimitSet s = .next
        (match r.args with
        | [a, b] =>
          if 15 < a.toNat ∨ b.toNat = 0 ∨ 8 < b.toNat then u.answered p r .badArgument []
          else
            match s.job? a.toNat with
            | none => u.answered p r .notFound []
            | some j => (u.setJob a.toNat (some { j with limit := b.toNat })).answered p r .done [b]
        | _ => u.answered p r .badArgument []))) ∧
  ∀ (s : State) (p : Port) (r : Request), s.Taking p r → r.number = 0x13 →
    let u := s.takeRequest p
    exec .jobRemove s = .next
      (match r.args with
      | [a] =>
        if 15 < a.toNat then u.answered p r .badArgument []
        else
          match s.job? a.toNat with
          | none => u.answered p r .notFound []
          | some j =>
            if ¬ (j.state = .done ∨ j.state = .doneIncomplete ∨ j.state = .cancelled) then
              u.answered p r .wrongState []
            else if ∃ k ∈ j.clips, (s.clip? k).any (fun c => c.currentStreams[0] || c.currentStreams[1]) = true then
              u.answered p r .inUse []
            else
              ({ u with
                table :=
                  { clips := j.clips.foldl (fun (v : Vector (Option ClipRecord) 512) (k : Nat) => v.setIfInBounds k none) s.table.clips
                    jobs := s.table.jobs.setIfInBounds a.toNat none
                    admission := s.table.admission.filter fun k => k ≠ a.toNat }
                offload :=
                  { u.offload with channels := s.offload.channels.map fun (c : Channel) =>
                      match c with
                      | .closing x => .closing (if x.job = some a.toNat then { x with job := none } else x)
                      | y => y } }).answered p r .done [byteOf j.clips.length]
      | _ => u.answered p r .badArgument [])

/-- At the end of every step that touches the engine: with a pause reason present it is QUIESCED if no ask is
outstanding and QUIESCING otherwise, and the resume timer of a RESUMING engine has stopped; without one, a RUNNING or
RESUMING engine stays as it is, and a QUIESCING or QUIESCED one is RESUMING with its timer set to the resume delay in
use, 50 ms or 1 ms, from now (R62). The engine's asks change no link state, role, credit, transmitter, endpoint name,
request queue, notice, soft restart, admission list, look, stream, spotter stream, defect map, hold point or supply
state, and no waiting command. While the engine is not RUNNING, BUFFER_TAKE, CHANNEL_BIND and JOB_ACTIVATION do
nothing (R63). A channel needs a buffer exactly when it is bound to a clip, the engine is RUNNING, its data source is
open with no READ outstanding, a lane exists, its read position is below the extent count and at or above the lowest
verified prefix of the lanes, no buffer is held for it, fewer than 6 buffers are held, and every extent below it is
fed to a peer's register. At each step's end the channels that no longer need one leave the waiting list, and those
that newly do join its tail by ascending number (log entry 12). With the engine RUNNING, fewer than 40 extent buffers
held, and c the first channel of the waiting list that still needs a buffer, BUFFER_TAKE adds to c's held list the
extent at its read position, with its length and in phase READING, and the engine then asks what it can; with 40 held
or no such channel nothing happens (R72, R74, R98). RESUME_TIMER_EXPIRY with a timer running stops it, takes a
RESUMING engine to RUNNING, whereupon it asks what it can, and moves the time base to the timer's end if it had not
reached it (R62; log entry 8). -/
def Obligations.EngineStateAndBuffers : Prop :=
  (∀ s : State,
    let t := s.engineSettle
    (if s.offload.pauseSupply = true ∨ s.offload.pauseOperator = true then
        t.offload.state = (if t.askCount = 0 then .quiesced else .quiescing) ∧
          (s.offload.state = .resuming → t.offload.resumeTimer = none)
      else if s.offload.state = .running ∨ s.offload.state = .resuming then
        t.offload.state = s.offload.state ∧ t.offload.resumeTimer = s.offload.resumeTimer
      else
        t.offload.state = .resuming ∧
          t.offload.resumeTimer =
            some (s.supply.timeBase + if s.supply.options.resumeLong then 50000 else 1000)) ∧
    (∀ p : Port, (t.port p).link = (s.port p).link ∧ (t.port p).roles = (s.port p).roles ∧
      (t.port p).receive = (s.port p).receive ∧ (t.port p).send = (s.port p).send ∧
      (t.port p).creditDue = (s.port p).creditDue ∧ (t.port p).creditTimer = (s.port p).creditTimer ∧
      (t.port p).lastServed = (s.port p).lastServed ∧ (t.port p).transmitting = (s.port p).transmitting ∧
      (t.port p).wire = (s.port p).wire) ∧
    t.link.endpoints.map (·.name) = s.link.endpoints.map (·.name) ∧ t.control.queues = s.control.queues ∧
    t.control.lastServed = s.control.lastServed ∧ t.control.notice = s.control.notice ∧
    t.control.softRestart = s.control.softRestart ∧ t.control.noticePort = s.control.noticePort ∧
    t.table.admission = s.table.admission ∧ t.look = s.look ∧ t.review = s.review ∧
    t.spotter.streams = s.spotter.streams ∧ t.spotter.defectMap = s.spotter.defectMap ∧
    t.spotter.holds = s.spotter.holds ∧ t.supply = s.supply ∧ t.pending = s.pending ∧ t.freeCount = s.freeCount ∧
    (s.running = true → s.offload.state ≠ .running →
      exec .bufferTake s = .next s ∧ exec .channelBind s = .next s ∧ ∀ n, exec (.jobActivation n) s = .next s)) ∧
  (∀ s : State,
    (∀ c : ChannelId, s.needsBuffer c = true ↔
      ∃ b x, s.channel c = .bound b ∧ s.clip? b.clip = some x ∧ s.offload.state = .running ∧ b.handle ≠ none ∧
        b.reading = false ∧ b.lanes ≠ [] ∧ b.readPos < (x.size + 4194303) / 4194304 ∧
        (∃ d ∈ x.dests, d.state = .inProgress ∧ d.verified ≤ b.readPos) ∧ (∀ h ∈ b.held, h.extent ≠ b.readPos) ∧
        b.held.length < 6 ∧ ((∃ e i, b.source = .peer e i) → b.readPos ≤ b.peerNext)) ∧
    s.refreshPool = { s with offload := { s.offload with
      bufferWaiting := s.offload.bufferWaiting.filter (fun c => s.needsBuffer c) ++
        [0, 1, 2, 3, 4, 5, 6, 7].filter fun c => s.needsBuffer c && !s.offload.bufferWaiting.contains c } }) ∧
  ∀ s : State, s.running = true →
    ((40 ≤ s.buffersHeld ∨ ∀ c ∈ s.offload.bufferWaiting, s.needsBuffer c = false) → exec .bufferTake s = .next s) ∧
    (s.offload.state = .running → s.buffersHeld < 40 →
      ∀ (c : ChannelId) (before after : List ChannelId) (b : Binding) (x : ClipRecord),
        s.offload.bufferWaiting = before ++ c :: after → (∀ d ∈ before, s.needsBuffer d = false) →
        s.needsBuffer c = true → s.channel c = .bound b → s.clip? b.clip = some x →
        exec .bufferTake s =
          .next (s.setChannel c (.bound { b with
            held := b.held ++ [⟨b.readPos, min 4194304 (x.size - b.readPos * 4194304), .reading⟩] })).engineSettle) ∧
    (s.offload.resumeTimer = none → exec .resumeTimerExpiry s = .next s) ∧
    ∀ time : Word64, s.offload.resumeTimer = some time →
      let t : State := { s.advanceTo time with offload := { s.offload with resumeTimer := none } }
      exec .resumeTimerExpiry s =
        .next (if s.offload.state = .resuming then
            State.engineSettle { t with offload := { t.offload with state := .running } }
          else t)

/-- At the end of a step the engine asks IDENTIFYs by ascending job, up to three attempts in a row, then each
channel's asks by ascending channel: its data source's opening ask and READ, each lane's in destination order, the
source's again, and a CLOSING channel's CLOSE; in a lane the whole-file check first, then CREATE, verify READ, WRITE,
CLOSE (R16; this order is log entry 24). An ask that fails at once is told to its asker as ENDPOINT_LOST, by the same
rule as one that ends so later; a lost verify READ whose lane's record is not IN_PROGRESS, to which R67 gives no lane,
only clears the lane's mark of it. Only a RUNNING engine asks an IDENTIFY, opening ask, READ or check read (R63), and
none is asked of a DRAINING endpoint (R90). Each is made exactly when it is not outstanding and: IDENTIFY, the job is
IDENTIFYING, its attempts one more (R51); OPEN, or a peer's CREATE in mode RESUME, without a handle, its attempts one
more (R68, R97); a check read of the extents a peer has not fed below the read position, else a READ of the extent
whose buffer is held, with lanes left (R74, R97, R98); a lane's CREATE once the source is open, NEW at prefix 0 and
else RESUME (R70); a verify READ of the extent at the verified prefix, written and neither to be rewritten nor held
failed (R80); a WRITE of the rewrite, else without held failure of the extent at the write position, with the bytes
held (R78); CLOSE when every extent is verified, and fed to a peer's register, and no WRITE is outstanding (R84); a
CLOSING channel's CLOSE (R56). -/
def Obligations.EngineAsks : Prop :=
  (∀ s : State, s.engineSettle =
    (allChannels.foldl (fun (t : State) c => t.pumpChannel c)
      ((List.range 16).foldl (fun (t : State) n => t.pumpIdentify n) s.refreshEngine)).refreshEngine.refreshPool) ∧
  (∀ (s : State) (n : Nat), s.pumpIdentify n = ((s.pumpIdentifyOnce n).pumpIdentifyOnce n).pumpIdentifyOnce n) ∧
  (∀ (s : State) (c : ChannelId),
    let t := ((s.pumpOpen c).raiseReadPos c).pumpRead c
    let u := ((t.binding? c).elim [] (·.lanes)).foldl (fun (v : State) l =>
      ((((v.checkWholeFile c l.dest).pumpCreate c l.dest).pumpVerify c l.dest).pumpWrite c l.dest).pumpClose c l.dest) t
    s.pumpChannel c = (((u.pumpOpen c).raiseReadPos c).pumpRead c).pumpClosing c) ∧
  ∀ s : State,
    let runs : Prop := s.offload.state = .running
    let drains (e : EpName) : Prop := ∃ y, s.endpoint? e = some y ∧ y.state = .draining
    let asks (t : State) (a : Ask) : State :=
      if (t.makeAsk a).2 then (t.makeAsk a).1.askEnded a.purpose [] .lost else (t.makeAsk a).1
    let whole (h : Word32) (x : ClipRecord) (k : Nat) : AskBody :=
      .read h (k * 4194304) (min 4194304 (x.size - k * 4194304))
    (∀ (n : Nat) (j : JobRecord), s.job? n = some j →
      let may : Prop := runs ∧ j.state = .identifying ∧ (s.identifyOf n).asked = false ∧ ¬ drains j.source
      (may → s.pumpIdentifyOnce n =
        asks (s.setIdentify n ⟨(s.identifyOf n).attempts + 1, true⟩) ⟨j.source, .identify n, .identify⟩) ∧
      (¬ may → s.pumpIdentifyOnce n = s)) ∧
    (∀ (c : ChannelId) (b : Binding) (x : ClipRecord), s.channel c = .bound b → s.clip? b.clip = some x →
      let e := b.source.endpoint
      (∀ j, s.job? b.job = some j →
        let may : Prop := runs ∧ b.handle = none ∧ b.opening = false ∧ ¬ drains e
        let body : AskBody :=
          match b.source with
          | .card _ => .openFile x.fileId
          | .peer _ i => .create .resume ((j.dests[i]?).elim [] (·.root)) x.name
        (may → s.pumpOpen c =
          asks (s.setChannel c (.bound { b with opening := true, openAttempts := b.openAttempts + 1 }))
            ⟨e, .openSource c, body⟩) ∧
        (¬ may → s.pumpOpen c = s)) ∧
      (let may : Prop := runs ∧ b.reading = false ∧ b.lanes ≠ [] ∧ ¬ drains e
       let checks : Prop := (∃ q i, b.source = .peer q i) ∧ b.peerNext < b.readPos
       let ready : Prop := ∃ z ∈ b.held, z.extent = b.readPos ∧ z.phase = .reading
       let t := s.setChannel c (.bound { b with reading := true })
       (b.handle = none ∨ ¬ may ∨ (¬ checks ∧ ¬ ready) → s.pumpRead c = s) ∧
       ∀ h, b.handle = some h → may →
         (checks → s.pumpRead c = asks t ⟨e, .checkRead c, whole h x b.peerNext⟩) ∧
         (¬ checks → ready → s.pumpRead c = asks t ⟨e, .readSource c, whole h x b.readPos⟩))) ∧
    (∀ (c : ChannelId) (d : Nat) (v : LaneView), s.laneView? c d = some v →
      let e := v.record.endpoint
      let k := v.record.verified
      let n := v.clip.extents
      let l := v.lane
      (let may : Prop := v.bind.handle ≠ none ∧ l.handle = none ∧ l.creating = false ∧ ¬ drains e
       (¬ may → s.pumpCreate c d = s) ∧
       (may → ∀ j y, s.job? v.bind.job = some j → j.dests[d]? = some y →
         s.pumpCreate c d =
           asks (s.modLane c d fun z => { z with creating := true })
             ⟨e, .create c d, .create (if k = 0 then .new else .resume) y.root v.clip.name⟩)) ∧
      (let may : Prop := k < n ∧ k < l.writePos ∧ l.rewrite ≠ some k ∧ l.verify = none ∧
         (∀ reason, l.heldFailure ≠ some (k, reason)) ∧ ¬ drains e
       (l.handle = none ∨ ¬ may → s.pumpVerify c d = s) ∧
       ∀ h, l.handle = some h → may →
         s.pumpVerify c d = asks (s.modLane c d fun z => { z with verify := some k }) ⟨e, .verify c d k, whole h v.clip k⟩) ∧
      (v.record.state ≠ .inProgress → ∀ i, s.askEnded (.verify c d i) [] .lost = s.modLane c d fun z => { z with verify := none }) ∧
      (let next (i : Nat) : Prop := l.rewrite = some i ∨
         (l.rewrite = none ∧ l.heldFailure = none ∧ i = l.writePos ∧ i < n)
       let holds (y : HeldExtent) (i : Nat) : Prop := y.extent = i ∧ y.phase ≠ .reading
       let may : Prop := l.write = none ∧ ¬ drains e
       (l.handle = none ∨ ¬ may ∨ (∀ i, next i → ∀ y ∈ v.bind.held, ¬ holds y i) → s.pumpWrite c d = s) ∧
       ∀ h i before y after crc data, l.handle = some h → may → next i → v.bind.held = before ++ y :: after →
         (∀ z ∈ before, ¬ holds z i) → y.extent = i → y.phase = .read crc data →
         s.pumpWrite c d =
           asks (s.modLane c d fun z => { z with write := some i }) ⟨e, .write c d i, .write h (i * 4194304) data⟩) ∧
      (let may : Prop := k = n ∧ ((∃ q i, v.bind.source = .peer q i) → v.bind.peerNext = n) ∧ l.write = none ∧
         l.closing = false ∧ ¬ drains e
       (l.handle = none ∨ ¬ may → s.pumpClose c d = s) ∧
       ∀ h, l.handle = some h → may →
         s.pumpClose c d = asks (s.modLane c d fun z => { z with closing := true }) ⟨e, .closeLane c d, .close h⟩)) ∧
    ∀ c : ChannelId,
      ((∀ x, s.channel c ≠ .closing x) → s.pumpClosing c = s) ∧
      ∀ x, s.channel c = .closing x →
        (x.asked = true ∨ drains x.endpoint → s.pumpClosing c = s) ∧
        (x.asked = false → ¬ drains x.endpoint →
          s.pumpClosing c = asks (s.setChannel c (.closing { x with asked := true })) ⟨x.endpoint, .closeSource c, .close x.handle⟩)

/-- DEST RELEASE with a port and an id (log entry 7 gives the layout): values out of range are answered BAD_ARGUMENT,
a missing entry NOT_FOUND, a kind other than DEST BAD_ARGUMENT, an endpoint that is not ONLINE WRONG_STATE. Otherwise
the endpoint is DRAINING and the request joins the deferred-reply list, with no reply yet; if no ask to the endpoint
is outstanding or waiting its drain completes at once (the model's choice, log entry 16). DRAIN_COMPLETE of a DRAINING
endpoint without asks completes the drain, and otherwise does nothing. Then the engine asks what it can (R24, R89 to
R91). -/
def Obligations.DestRelease : Prop :=
  (∀ (s : State) (p : Port) (r : Request), s.Taking p r → r.number = 0x19 →
    let u := s.takeRequest p
    exec .destRelease s = .next
      (match r.args with
      | [a, i] =>
        if h : a.toNat < 4 ∧ 1 ≤ i.toNat ∧ i.toNat ≤ 15 then
          let e : EpName := ⟨⟨a.toNat, h.1⟩, i.toNat⟩
          match s.endpoint? e with
          | none => u.answered p r .notFound []
          | some x =>
            if x.kind ≠ .dest then u.answered p r .badArgument []
            else if x.state ≠ .online then u.answered p r .wrongState []
            else
              let t : State :=
                { u with
                  link := { u.link with endpoints := s.link.endpoints.map fun (y : Endpoint) =>
                    if y.name = e then { y with state := .draining } else y }
                  control := { u.control with deferred := s.control.deferred ++ [⟨p, r.tag, r.number, e⟩] } }
              (if ∃ y ∈ (s.port e.port).allAsks, y.endpoint = e then t else t.completeDrain e).engineSettle
        else u.answered p r .badArgument []
      | _ => u.answered p r .badArgument [])) ∧
  ∀ (s : State) (q : Port) (id : Nat), s.running = true →
    let e : EpName := ⟨q, id⟩
    ((∃ x, s.endpoint? e = some x ∧ x.state = .draining) → (∀ y ∈ (s.port q).allAsks, y.endpoint ≠ e) →
      exec (.drainComplete q id) s = .next (s.completeDrain e).engineSettle) ∧
    ((∀ x, s.endpoint? e = some x → x.state ≠ .draining) ∨ (∃ y ∈ (s.port q).allAsks, y.endpoint = e) →
      exec (.drainComplete q id) s = .next s)

/-- Deferral at some endpoints reaches each PENDING or IN_PROGRESS record there of a job that is not CANCELLED: it is
DEFERRED, without failure reason at a drain's end and with ENDPOINT_LOST at a port's loss, its verified prefix and
attempts kept; then, by job, clip list and destination (log entry 37), each that was IN_PROGRESS files ENDPOINT_LOST
at a loss, with the verified prefix, and has its lane ended in the channel its clip is bound to (R83, R85), and each
clip with one that was PENDING settles, and its job if it can, if it is not bound, WAITING with none PENDING left, of
a job that was ACTIVE (log entry 15; R56, R91, R93). With every channel FREE: the other records, hashed prefixes and
file CRCs stay; such a clip is PARTIAL with a VERIFIED record, else FAILED; a drain's end files nothing; a job whose
clip so settles and which has no work left settles. The completion of a drain leaves the endpoint RELEASED and every
other entry of the table as it was, defers, unbinds each channel that reads from the endpoint as a peer (R99), and
answers RELEASED with the number of records deferred: the first entry x of the deferred-reply list for it leaves the
list and the reply DONE is handed to its port (R24, R91). -/
def Obligations.DrainDefers : Prop :=
  (∀ (s : State) (q : EpName → Bool) (reason : Option FaultKind),
    let xs := s.reached q
    (∀ z : Reached, z ∈ xs ↔ ∃ n j c, s.job? n = some j ∧ j.state ≠ .cancelled ∧ z.clip ∈ j.clips ∧
      s.clip? z.clip = some c ∧ c.dests[z.place]? = some z.record ∧
      (z.record.state = .pending ∨ z.record.state = .inProgress) ∧ q z.record.endpoint = true) ∧
    s.deferRecords q reason =
      xs.foldl (fun (t : State) z => if z.record.state = .pending then t.settleUnbound s.activeJobs z.clip else t)
        (xs.foldl (fun (t : State) z => t.deferLane reason z)
          (xs.foldl (fun (t : State) z => t.modDest z.clip z.place fun r =>
            { r with state := .deferred, reason := reason }) s)) ∧
    (∀ n, n ∈ s.activeJobs ↔ ∃ j, s.job? n = some j ∧ j.state = .active) ∧
    (∀ (k : Nat) (c : ClipRecord) (active : List Nat), s.clip? k = some c →
      let settles : Prop := (∀ (a : ChannelId) (b : Binding), s.channel a = .bound b → b.clip ≠ k) ∧
        c.copyState = .waiting ∧ (∀ r ∈ c.dests, r.state ≠ .pending) ∧ c.job ∈ active
      (¬ settles → s.settleUnbound active k = s) ∧
      (settles → s.settleUnbound active k =
        (s.setClip k (some { c with
          copyState :=
            if ∀ r ∈ c.dests, r.state = .verified then .complete
            else if ∃ r ∈ c.dests, r.state = .verified then .partialCopy
            else .failed })).trySettleJob c.job)) ∧
    ∀ z : Reached,
      let filed : State := reason.elim s fun kind => s.file
        { kind := kind, clip := some z.clip, endpoint := some z.record.endpoint, detail := z.record.verified }
      (z.record.state ≠ .inProgress → s.deferLane reason z = s) ∧
      (z.record.state = .inProgress →
        ((∀ (a : ChannelId) (b : Binding), s.channel a = .bound b → b.clip ≠ z.clip) → s.deferLane reason z = filed) ∧
        ∀ (c : ChannelId) (b : Binding), s.channel c = .bound b → b.clip = z.clip →
          (∀ (a : ChannelId) (y : Binding), a < c → s.channel a = .bound y → y.clip ≠ z.clip) →
          s.deferLane reason z = filed.endLane c z.place)) ∧
  (∀ (s : State) (q : EpName → Bool) (reason : Option FaultKind), (∀ c : ChannelId, s.channel c = .free) →
    let t := s.deferRecords q reason
    let hit (r : DestRecord) : Prop := q r.endpoint = true ∧ (r.state = .pending ∨ r.state = .inProgress)
    let settles (c : ClipRecord) : Prop := c.copyState = .waiting ∧ (∃ r ∈ c.dests, r.state = .pending) ∧
      (∀ r ∈ c.dests, r.state = .pending → q r.endpoint = true) ∧ ∃ j, s.job? c.job = some j ∧ j.state = .active
    (∀ n j k c, s.job? n = some j → j.state ≠ .cancelled → k ∈ j.clips → s.clip? k = some c →
      ∃ c', t.clip? k = some c' ∧
        c' = { c with
          copyState := c'.copyState, dests := c'.dests, copyFaults := c'.copyFaults, qc := c'.qc } ∧
        c'.dests.length = c.dests.length ∧
        (∀ (i : Nat) (r : DestRecord), c.dests[i]? = some r →
          (hit r → c'.dests[i]? = some { r with state := .deferred, reason := reason }) ∧
          (¬ hit r → c'.dests[i]? = some r)) ∧
        (¬ settles c → c'.copyState = c.copyState) ∧
        (settles c → c'.copyState = if ∃ r ∈ c.dests, r.state = .verified then .partialCopy else .failed)) ∧
    (∀ k c, s.clip? k = some c → (∀ n j, s.job? n = some j → k ∈ j.clips → j.state = .cancelled) → t.clip? k = some c) ∧
    (∀ n j, s.job? n = some j →
      (∀ k ∈ j.clips, ∀ c, s.clip? k = some c → c.job = n) →
      (∀ k c, s.clip? k = some c → c.job = n → k ∈ j.clips) →
      let ends : Prop := (∃ k ∈ j.clips, ∃ c, s.clip? k = some c ∧ settles c) ∧
        ∀ k ∈ j.clips, ∀ c, t.clip? k = some c → c.fresh = false ∧ c.reseedWork = false
      (¬ ends → t.job? n = some j) ∧
      (ends → t.job? n = some { j with state := .doneIncomplete, standing := none, reseed := false })) ∧
    (reason = none → t.spotter = s.spotter) ∧
    (∀ kind, reason = some kind →
      let lost := (s.reached q).filter fun z => z.record.state == .inProgress
      s.spotter.log.length + lost.length ≤ 128 →
      t.spotter.log = s.spotter.log ++ lost.map fun z =>
        ⟨kind, s.supply.timeBase, some z.clip, none, some z.record.endpoint, none, none,
          BitVec.ofNat 32 z.record.verified, false⟩) ∧
    t.link = s.link ∧ t.control = s.control ∧ t.offload = s.offload ∧ t.look = s.look ∧ t.review = s.review ∧
      t.supply = s.supply) ∧
  ∀ (s : State) (e : EpName),
    let t := State.deferRecords
      { s with link := { s.link with
        endpoints := s.link.endpoints.map (fun y => if y.name = e then { y with state := .released } else y) } }
      (fun y => y == e) none
    s.completeDrain e =
      ((allChannels.filter (t.readsPeer e)).foldl (fun (u : State) c => u.unbind c) t).answerDrain e .released
        (s.reached fun y => y == e).length ∧
    (∀ c : ChannelId, t.readsPeer e c = true ↔ ∃ b i, t.channel c = .bound b ∧ b.source = .peer e i) ∧
    ((∀ c : ChannelId, s.channel c = .free) →
      let v := s.completeDrain e
      v.link.endpoints = s.link.endpoints.map (fun y => if y.name = e then { y with state := .released } else y) ∧
      v.spotter = s.spotter ∧ v.table = t.table ∧
      ∀ x : Deferred, s.control.deferred.find? (fun y => y.endpoint == e) = some x →
        v.control.deferred = s.control.deferred.filter (fun y => y ≠ x) ∧
        ∀ q : Port, (v.port q).queues[0] =
          if q = x.port ∧ (s.port q).link = .up then
            (s.port q).queues[0] ++ [⟨.reply, 0, 0, x.tag,
              [byteOf x.number, 0, 0, 0, 3, 0] ++ beBytes 2 (s.reached (fun y => y == e)).length, .reply⟩]
          else (s.port q).queues[0])

/-- A return of an endpoint at an unbound clip with a DEFERRED record that names it: the record is PENDING with
attempts 0 and no reason, its verified prefix kept, and a FAILED clip without file CRC that no source failure explains
becomes WAITING. In a job that is DONE or DONE_INCOMPLETE the job is then QUEUED with its re-seed mark; in an
IDENTIFYING or ACTIVE one the record of a clip still FAILED without file CRC is FAILED with NO_SOURCE, filed once, and
otherwise nothing more happens; in a QUEUED or SUSPENDED job nothing more; in a CANCELLED job nothing at all. A return
at a bound clip with such a record is noted by its channel, once for an endpoint, and changes nothing else (R88). DEST
RECLAIM is refused as R94 gives, and otherwise the endpoint is ONLINE, its return is taken, and the reply DONE counts
the records returned and the jobs re-queued (R94, R95; the argument layout is log entry 7, the two counts log entry
25). -/
def Obligations.ReturnTaken : Prop :=
  (∀ (s : State) (k d : Nat) (e : EpName) (c : ClipRecord) (x : DestRecord) (j : JobRecord),
    s.clip? k = some c → c.dests[d]? = some x → x.state = .deferred → x.endpoint = e →
    (∀ i y, i < d → c.dests[i]? = some y → ¬ (y.state = .deferred ∧ y.endpoint = e)) → s.job? c.job = some j →
    let c1 : ClipRecord := { c with dests := c.dests.set d { x with state := .pending, attempts := 0, reason := none } }
    let revived : Prop := c.copyState = .failed ∧ c.fileCrc = none ∧
      ∀ y ∈ c1.dests, y.reason ≠ some .sourceReadFailed ∧ y.reason ≠ some .sizeMismatch ∧ y.reason ≠ some .noSource
    ∃ c2 : ClipRecord, (revived → c2 = { c1 with copyState := .waiting }) ∧ (¬ revived → c2 = c1) ∧
      (j.state = .cancelled → s.returnClip k e = s) ∧
      (j.state = .queued ∨ j.state = .suspended → s.returnClip k e = s.setClip k (some c2)) ∧
      (j.state = .identifying ∨ j.state = .active →
        (c2.copyState = .failed ∧ c2.fileCrc = none →
          s.returnClip k e =
            (s.setClip k (some { c2 with
              dests := c.dests.set d { x with state := .failed, attempts := 0, reason := some .noSource } })).file
              { kind := .noSource, clip := some k, endpoint := some e }) ∧
        (¬ (c2.copyState = .failed ∧ c2.fileCrc = none) → s.returnClip k e = s.setClip k (some c2))) ∧
      (j.state = .done ∨ j.state = .doneIncomplete →
        s.returnClip k e =
          (s.setClip k (some c2)).setJob c.job (some { j with state := .queued, reseed := true }))) ∧
  (∀ (s : State) (k : Nat) (e : EpName),
    ((∀ (c : ChannelId) (b : Binding), s.channel c = .bound b → b.clip ≠ k) → s.returnTo e k = s.returnClip k e) ∧
    ∀ (c : ChannelId) (b : Binding) (x : ClipRecord), s.channel c = .bound b → b.clip = k →
      (∀ (a : ChannelId) (y : Binding), a < c → s.channel a = .bound y → y.clip ≠ k) → s.clip? k = some x →
      s.returnTo e k =
        if (∃ d ∈ x.dests, d.state = .deferred ∧ d.endpoint = e) ∧ e ∉ b.notes then
          s.setChannel c (.bound { b with notes := b.notes ++ [e] })
        else s) ∧
  ∀ (s : State) (p : Port) (r : Request), s.Taking p r → r.number = 0x1A →
    let u := s.takeRequest p
    exec .destReclaim s = .next
      (match r.args with
      | [a, i] =>
        if h : a.toNat < 4 ∧ 1 ≤ i.toNat ∧ i.toNat ≤ 15 then
          let e : EpName := ⟨⟨a.toNat, h.1⟩, i.toNat⟩
          match s.endpoint? e with
          | none => u.answered p r .notFound []
          | some x =>
            if x.kind ≠ .dest then u.answered p r .badArgument []
            else if x.state = .draining then u.answered p r .wrongState []
            else
              let t := State.takeReturn
                { u with link := { u.link with endpoints := s.link.endpoints.map fun (y : Endpoint) =>
                  if y.name = e then { y with state := .online } else y } } e
              t.engineSettle.answered p r .done
                (beBytes 2 (s.returning e).length ++
                  [byteOf ((List.range 16).filter fun n =>
                    ((s.job? n).any fun j => j.state == .done || j.state == .doneIncomplete) &&
                      (t.job? n).any fun j => j.state == .queued).length])
        else u.answered p r .badArgument []
      | _ => u.answered p r .badArgument [])

/-- With the engine RUNNING, job n QUEUED and nearest the head of the admission list among the QUEUED jobs on its
source, no job on the source IDENTIFYING or ACTIVE, and the source ONLINE or the job marked for re-seed without fresh
work, JOB_ACTIVATION tidies the job's clips: of each FAILED clip without file CRC the PENDING records are FAILED with
NO_SOURCE, one fault each of the clip and the record's endpoint; then each WAITING clip without PENDING record is
COMPLETE, PARTIAL or FAILED by its VERIFIED records. If the job then has work it is IDENTIFYING with no IDENTIFY
attempt counted, else it settles DONE or DONE_INCOMPLETE; the engine then asks what it can. A clip that needs no
tidying stays as it is. Where one of these conditions fails, nothing happens (R48 to R50, R56; the order of the faults
is log entry 37). -/
def Obligations.JobActivation : Prop :=
  (∀ (s : State) (n : Nat), s.running = true →
    (s.job? n = none → exec (.jobActivation n) s = .next s) ∧
    ∀ j, s.job? n = some j →
      let candidate : Prop := ∃ before after, s.table.admission = before ++ n :: after ∧ j.state = .queued ∧
        ∀ m ∈ before, ∀ x, s.job? m = some x → ¬ (x.source = j.source ∧ x.state = .queued)
      let busy : Prop := ∃ m < 16, ∃ x, s.job? m = some x ∧ x.source = j.source ∧ (x.state = .identifying ∨ x.state = .active)
      let ready : Prop := (∃ x, s.endpoint? j.source = some x ∧ x.state = .online) ∨
        (j.reseed = true ∧ ∀ k ∈ j.clips, ∀ c, s.clip? k = some c → c.fresh = false)
      (¬ (candidate ∧ ¬ busy ∧ s.offload.state = .running ∧ ready) → exec (.jobActivation n) s = .next s) ∧
      (candidate → ¬ busy → s.offload.state = .running → ready →
        let t := j.clips.foldl (fun (u : State) k => u.tidyIdle k) (j.clips.foldl (fun (u : State) k => u.tidyOrphans k) s)
        ((∃ k ∈ j.clips, t.isBound k = true ∨ ∃ c, t.clip? k = some c ∧ (c.fresh = true ∨ c.reseedWork = true)) →
          exec (.jobActivation n) s =
            .next ((t.setJob n (some { j with state := .identifying })).setIdentify n ⟨0, false⟩).engineSettle) ∧
        ((∀ k ∈ j.clips, t.isBound k = false ∧ ∀ c, t.clip? k = some c → c.fresh = false ∧ c.reseedWork = false) →
          ∃ x : JobState, (x = .done ∨ x = .doneIncomplete) ∧
            (x = .done ↔ ∀ k ∈ j.clips, ∃ c, t.clip? k = some c ∧ ∀ d ∈ c.dests, d.state = .verified) ∧
            exec (.jobActivation n) s =
              .next (t.setJob n (some { j with state := x, standing := none, reseed := false })).engineSettle))) ∧
  ∀ (s : State) (k : Nat) (c : ClipRecord), s.clip? k = some c →
    let orphaned : Prop := c.copyState = .failed ∧ c.fileCrc = none ∧ ∃ d ∈ c.dests, d.state = .pending
    let idle : Prop := c.copyState = .waiting ∧ ∀ d ∈ c.dests, d.state ≠ .pending
    let lost := c.dests.filter fun d => d.state == .pending
    let t := s.tidyOrphans k
    (¬ orphaned → t = s) ∧
    (orphaned →
      t.clip? k = some { c with
        dests := c.dests.map fun d =>
          if d.state = .pending then { d with state := .failed, reason := some .noSource } else d
        copyFaults := min (c.copyFaults + lost.length) 65535
        qc := if c.qc = .clean then .flagged else c.qc } ∧
      (∀ m, m ≠ k → t.clip? m = s.clip? m) ∧ t.table.jobs = s.table.jobs ∧ t.table.admission = s.table.admission ∧
      t.link = s.link ∧ t.control = s.control ∧ t.offload = s.offload ∧ t.look = s.look ∧ t.review = s.review ∧
      t.supply = s.supply ∧ t.spotter.defectMap = s.spotter.defectMap ∧ t.spotter.streams = s.spotter.streams ∧
      (s.spotter.log.length + lost.length ≤ 128 → t.spotter.log = s.spotter.log ++ lost.map fun d =>
        ⟨.noSource, s.supply.timeBase, some k, none, some d.endpoint, none, none, 0, false⟩)) ∧
    (¬ idle → s.tidyIdle k = s) ∧
    (idle → s.tidyIdle k = s.setClip k (some { c with
      copyState :=
        if ∀ d ∈ c.dests, d.state = .verified then .complete
        else if ∃ d ∈ c.dests, d.state = .verified then .partialCopy
        else .failed }))

/-- With the engine RUNNING, channel c the lowest-numbered FREE one, and n the first job, in circular order after the
job served last, that is ACTIVE with fewer channels than its limit and has an eligible clip, k the first such clip in
its list: CHANNEL_BIND makes n the job served last and the clip COPYING with its PENDING records IN_PROGRESS, and
binds c to it with no handle, nothing held, and a lane for each IN_PROGRESS record at its verified prefix; its data
source is the card of a CONFIRMED job, and for a PEER_ONLY job and a clip with its file CRC the VERIFIED record whose
endpoint is ONLINE on a port with the DEST role, of the lowest port, then id. Without file CRC or such a record each
of those records is FAILED with NO_SOURCE, one fault each in destination order (log entry 37), the clip is PARTIAL if
some record is VERIFIED and else FAILED, and c is FREE. The engine then asks what it can. With no FREE channel or no
such job nothing happens (R54, R55, R67, R96; the read position 0 is log entry 39). -/
def Obligations.ChannelBind : Prop :=
  ∀ s : State, s.running = true →
    let open_ (n : Nat) (j : JobRecord) : Prop :=
      s.job? n = some j ∧ j.state = .active ∧ (s.channelsOf n).length < j.limit
    ((∀ c : ChannelId, s.channel c ≠ .free) ∨ (∀ n j, n < 16 → open_ n j → ∀ k ∈ j.clips, s.eligible k = false) →
      exec .channelBind s = .next s) ∧
    (s.offload.state = .running → ∀ (c : ChannelId) (i : Nat) (j : JobRecord) (k : Nat) (x : ClipRecord),
      s.channel c = .free → (∀ b : ChannelId, b < c → s.channel b ≠ .free) → i < 16 →
      let turn (m : Nat) : Nat := (s.offload.lastJob + 1 + m) % 16
      open_ (turn i) j → (∀ m < i, ∀ y, open_ (turn m) y → ∀ b ∈ y.clips, s.eligible b = false) →
      (∃ before after, j.clips = before ++ k :: after ∧ ∀ b ∈ before, s.eligible b = false) → s.eligible k = true →
      s.clip? k = some x →
      let dests := x.dests.map fun d => if d.state = .pending then { d with state := .inProgress } else d
      let t := s.setClip k (some { x with copyState := .copying, dests := dests })
      let boundFrom (source : DataSource) : State :=
        State.setChannel { t with offload := { t.offload with lastJob := turn i } } c
          (.bound
            { job := turn i
              clip := k
              source := source
              handle := none
              openAttempts := 0
              opening := false
              readPos := 0
              readAttempts := 0
              reading := false
              held := []
              lanes := (dests.zipIdx.filter fun di => di.1.state == .inProgress).map fun di =>
                ⟨di.2, none, di.1.verified, none, none, none, none, false, false⟩
              peerRegister := 0xFFFFFFFFFFFFFFFF#64
              peerNext := 0
              notes := [] })
      let usable (d : DestRecord) : Prop :=
        d.state = .verified ∧ (∃ y, s.endpoint? d.endpoint = some y ∧ y.state = .online) ∧
          hasRole (s.port d.endpoint.port).roles .dest = true
      (j.standing = some .confirmed → exec .channelBind s = .next (boundFrom (.card j.source)).engineSettle) ∧
      (j.standing = some .peerOnly →
        (∀ (m : Nat) (d : DestRecord), x.fileCrc ≠ none → x.dests[m]? = some d → usable d →
          (∀ (o : Nat) (y : DestRecord), x.dests[o]? = some y → usable y →
            d.endpoint.key < y.endpoint.key ∨ d.endpoint.key = y.endpoint.key ∧ m ≤ o) →
          exec .channelBind s = .next (boundFrom (.peer d.endpoint m)).engineSettle) ∧
        (x.fileCrc = none ∨ (∀ d ∈ x.dests, ¬ usable d) →
          let lost := x.dests.filter fun d => d.state == .pending || d.state == .inProgress
          ∃ u : State, exec .channelBind s = .next u.engineSettle ∧ u.channel c = .free ∧
            (∀ b : ChannelId, b ≠ c → u.channel b = s.channel b) ∧ u.offload.lastJob = turn i ∧
            (∀ n, n ≠ k → u.clip? n = s.clip? n) ∧
            u.clip? k = some { x with
              dests := x.dests.map fun d =>
                if d.state = .pending ∨ d.state = .inProgress then { d with state := .failed, reason := some .noSource } else d
              copyState := if ∃ d ∈ x.dests, d.state = .verified then .partialCopy else .failed
              copyFaults := min (x.copyFaults + lost.length) 65535
              qc := if x.qc = .clean then .flagged else x.qc } ∧
            (s.spotter.log.length + lost.length ≤ 128 →
              u.spotter.log = s.spotter.log ++ lost.map fun d =>
                ⟨.noSource, s.supply.timeBase, some k, none, some d.endpoint, none, none, 0, false⟩))))

/-- A clip whose extent count is the number of the byte strings xs, at least one, with nothing hashed yet, that takes
the extents xs in order, has every extent hashed and, as its file CRC, the CRC-64 of all the bytes one after another;
before its last extent it has none. Reading again any extent below the hashed prefix leaves the record as it is (R75,
R76). -/
def Obligations.FoldedFileCrc : Prop :=
  ∀ (c : ClipRecord) (xs : List (List Byte)), c.hashed = 0 → c.register = 0xFFFFFFFFFFFFFFFF#64 → c.fileCrc = none →
    c.extents = xs.length → xs ≠ [] →
    let after (n : Nat) : ClipRecord := (xs.take n).zipIdx.foldl (fun r xk => r.fold xk.2 xk.1) c
    (after xs.length).fileCrc = some (crc64 xs.flatten) ∧
    (∀ n < xs.length, (after n).fileCrc = none) ∧
    (∀ n ≤ xs.length, (after n).hashed = n ∧ (after n).dests = c.dests ∧ (after n).copyState = c.copyState) ∧
    ∀ n ≤ xs.length, ∀ k < n, ∀ data, (after n).fold k data = after n

/-- An IDENTIFY answered OK with the identity recorded, or with none recorded, makes the job ACTIVE and CONFIRMED with
that identity; with another one, every clip of the job with fresh work is FAILED, its records not FAILED before FAILED
with MEDIUM_CHANGED, one fault each in clip list order (log entry 37), and the job is then ACTIVE and PEER_ONLY if it
has work, else settled. Any other end leaves the job below three attempts, and at three suspends it with
SOURCE_UNAVAILABLE if a clip of it has fresh work, else makes it ACTIVE and PEER_ONLY (R51 to R53). An OPEN answered
OK with the clip's size, or a peer's CREATE answered OK, records the handle, clears the attempt count and sets the
read position to the lowest verified prefix of an IN_PROGRESS record; an empty clip read from the card takes its file
CRC (R71). Another size fails every IN_PROGRESS record with SIZE_MISMATCH, its detail the low 32 bits of the size
(R69). ERROR, NO_MEDIUM or TIMEOUT leaves the ask to be made again below three attempts, and at three the data source
has failed with detail 0. ENDPOINT_LOST loses the data source, as for a READ, also without a port's loss (log entry
28; R68, R97, R99). The failures are stated of a binding without noted returns, of a clip without PENDING record. -/
def Obligations.IdentifyAndOpenEnds : Prop :=
  (∀ (s : State) (e : EpName) (k : Nat) (c : ClipRecord), s.clip? k = some c →
    (c.fresh = false → s.changeMedium e k = s) ∧
    (c.fresh = true →
      s.changeMedium e k =
        (s.setClip k (some { c with
          copyState := .failed
          dests := c.dests.map fun d =>
            if d.state = .failed then d else { d with state := .failed, reason := some .mediumChanged } })).file
          { kind := .mediumChanged, clip := some k, endpoint := some e })) ∧
  (∀ (s : State) (n : Nat) (j : JobRecord) (data : List Byte), s.job? n = some j →
    let ended (r : AskEnd) : State := s.askEnded (.identify n) data r
    let cleared := s.setIdentify n ⟨0, false⟩
    (∀ m : Word64, j.medium = none ∨ j.medium = some m →
      ended (.ok (.identity m)) =
        cleared.setJob n (some { j with medium := some m, state := .active, standing := some .confirmed })) ∧
    (∀ m : Word64, j.medium ≠ none → j.medium ≠ some m →
      let t := j.clips.foldl (fun (u : State) k => u.changeMedium j.source k) cleared
      let work : Prop :=
        ∃ k ∈ j.clips, t.isBound k = true ∨ ∃ c, t.clip? k = some c ∧ (c.fresh = true ∨ c.reseedWork = true)
      (work →
        ended (.ok (.identity m)) = t.setJob n (some { j with state := .active, standing := some .peerOnly })) ∧
      (¬ work → ∃ x : JobState, (x = .done ∨ x = .doneIncomplete) ∧
        (x = .done ↔ ∀ k ∈ j.clips, ∃ c, t.clip? k = some c ∧ ∀ d ∈ c.dests, d.state = .verified) ∧
        ended (.ok (.identity m)) = t.setJob n (some { j with state := x, standing := none, reseed := false }))) ∧
    ∀ r : AskEnd, r = .lost ∨ r = .timeout ∨ r = .noMedium ∨ (∃ code, r = .error code) →
      let made := (s.identifyOf n).attempts
      let needed : Prop := ∃ k ∈ j.clips, ∃ c, s.clip? k = some c ∧ c.fresh = true
      (made < 3 → ended r = s.setIdentify n ⟨made, false⟩) ∧
      (3 ≤ made → needed →
        ended r = cleared.setJob n (some { j with state := .suspended, suspend := some .sourceUnavailable })) ∧
      (3 ≤ made → ¬ needed →
        ended r = cleared.setJob n (some { j with state := .active, standing := some .peerOnly }))) ∧
  ∀ (s : State) (c : ChannelId) (b : Binding) (x : ClipRecord) (data : List Byte), s.channel c = .bound b →
    s.clip? b.clip = some x →
    let ended (r : AskEnd) : State := s.askEnded (.openSource c) data r
    let prefixes := (x.dests.filter fun d => d.state == .inProgress).map (·.verified)
    let opened (h : Word32) : Channel :=
      .bound { b with handle := some h, opening := false, openAttempts := 0, readPos := prefixes.min?.getD 0 }
    (∀ (e : EpName) (h : Word32), b.source = .card e →
      ended (.ok (.opened h x.size)) =
        (s.setClip b.clip
          (some (if x.size = 0 then { x with fileCrc := some (~~~ x.register) } else x))).setChannel c (opened h)) ∧
    (∀ (e : EpName) (i : Nat) (h : Word32), b.source = .peer e i →
      ended (.ok (.created h)) = s.setChannel c (opened h)) ∧
    (∀ (h : Word32) (size : Nat), size ≠ x.size → b.notes = [] → (∀ d ∈ x.dests, d.state ≠ .pending) →
      s.bindingFailed (ended (.ok (.opened h size))) c { b with handle := some h } x .sizeMismatch (size % 4294967296)) ∧
    (∀ r : AskEnd, r = .timeout ∨ r = .noMedium ∨ (∃ code, r = .error code) →
      (b.openAttempts < 3 → ended r = s.setChannel c (.bound { b with opening := false })) ∧
      (3 ≤ b.openAttempts → b.notes = [] → (∀ d ∈ x.dests, d.state ≠ .pending) →
        s.bindingFailed (ended r) c b x (if b.source.isPeer then .noSource else .sourceReadFailed) 0)) ∧
    ended .lost = s.askEnded (.readSource c) data .lost

/-- A READ answered OK with the whole extent ends its attempt count and moves the read position on by one; the held
entry of the extent is READ with its CRC-64 and bytes, the clip folds the extent if it came from the card, the peer
register takes it if from a peer, and entries no IN_PROGRESS record needs any more are released (R73, R75). A check
read answered so feeds the peer register with the next extent, and nothing else (R97, R98). An ERROR, NO_MEDIUM,
TIMEOUT or short READ, or check read, is counted: below three the same extent is to be read again, a short read filing
SHORT_READ with its byte count; at three the data source has failed, with the extent as detail, SOURCE_READ_FAILED for
the card and NO_SOURCE for a peer (R77, R86, R99). While the read position rises to the lowest verified prefix, a
peer's count stays (R74, R98) and the card's starts again (log entry 18). ENDPOINT_LOST of a peer files ENDPOINT_LOST
and unbinds the channel; of the card it suspends the job with SOURCE_UNAVAILABLE, frees each of its channels, and
files ENDPOINT_LOST for each clip bound, by ascending channel (log entry 37), also without a port's loss (log entry
28; R57, R58, R99). Losses and failures are stated of bindings without noted returns. -/
def Obligations.SourceReadEnds : Prop :=
  ∀ (s : State) (c : ChannelId) (b : Binding) (x : ClipRecord) (data : List Byte), s.channel c = .bound b →
    s.clip? b.clip = some x →
    let read (r : AskEnd) : State := s.askEnded (.readSource c) data r
    let check (r : AskEnd) : State := s.askEnded (.checkRead c) data r
    let needed (h : HeldExtent) : Bool := x.dests.any fun d => d.state == .inProgress && d.verified ≤ h.extent
    let filled := (b.held.map fun (h : HeldExtent) =>
      if h.extent = b.readPos then { h with phase := .read (crc64 data) data } else h).filter needed
    let failing (r : AskEnd) : Prop := r = .timeout ∨ r = .noMedium ∨ ∃ code, r = .error code
    let again : Channel :=
      .bound { b with reading := false, readAttempts := b.readAttempts + 1, held := b.held.filter needed }
    let short (n : Nat) : State :=
      (s.file { kind := .shortRead, clip := some b.clip, endpoint := some b.source.endpoint, detail := n }).setChannel c again
    let reason : FaultKind := if b.source.isPeer then .noSource else .sourceReadFailed
    (∀ e : EpName, b.source = .card e →
      read (.ok (.count (extentLength x.size b.readPos))) =
        (s.setClip b.clip (some (x.fold b.readPos data))).setChannel c
          (.bound { b with reading := false, readAttempts := 0, readPos := b.readPos + 1, held := filled })) ∧
    (∀ (e : EpName) (i : Nat), b.source = .peer e i →
      read (.ok (.count (extentLength x.size b.readPos))) =
        s.setChannel c (.bound { b with
          reading := false
          readAttempts := 0
          readPos := b.readPos + 1
          held := filled
          peerRegister := crc64Feed b.peerRegister data
          peerNext := b.readPos + 1 })) ∧
    (check (.ok (.count (extentLength x.size b.peerNext))) =
      s.setChannel c (.bound { b with
        reading := false
        readAttempts := 0
        peerRegister := crc64Feed b.peerRegister data
        peerNext := b.peerNext + 1 })) ∧
    (b.readAttempts < 2 →
      (∀ r, failing r → read r = s.setChannel c again ∧ check r = s.setChannel c again) ∧
      (∀ n, n ≠ extentLength x.size b.readPos → read (.ok (.count n)) = short n) ∧
      (∀ n, n ≠ extentLength x.size b.peerNext → check (.ok (.count n)) = short n)) ∧
    (2 ≤ b.readAttempts → b.notes = [] → (∀ d ∈ x.dests, d.state ≠ .pending) →
      (∀ r, failing r ∨ (∃ n, n ≠ extentLength x.size b.readPos ∧ r = .ok (.count n)) →
        s.bindingFailed (read r) c b x reason b.readPos) ∧
      (∀ r, failing r ∨ (∃ n, n ≠ extentLength x.size b.peerNext ∧ r = .ok (.count n)) →
        s.bindingFailed (check r) c b x reason b.peerNext)) ∧
    (∀ low, ((x.dests.filter fun d => d.state == .inProgress).map (·.verified)).min? = some low → b.handle ≠ none →
      b.reading = false → b.readPos < low →
      s.raiseReadPos c = s.setChannel c (.bound { b with
        readPos := low, readAttempts := if b.source.isPeer then b.readAttempts else 0 })) ∧
    (∀ (e : EpName) (i : Nat), b.source = .peer e i → b.notes = [] →
      let t := read .lost
      check .lost = t ∧ t.channel c = .free ∧ (∀ d : ChannelId, d ≠ c → t.channel d = s.channel d) ∧
      t.clip? b.clip = some { x with
        copyState := .waiting
        dests := x.dests.map fun d =>
          if d.state = .inProgress then { d with state := .pending, attempts := 0, reason := none } else d
        copyFaults := min (x.copyFaults + 1) 65535
        qc := if x.qc = .clean then .flagged else x.qc } ∧
      (s.spotter.log.length < 128 → t.spotter.log = s.spotter.log ++
        [⟨.endpointLost, s.supply.timeBase, some b.clip, none, some e, none, none, 0, false⟩])) ∧
    ∀ (e : EpName) (j : JobRecord), b.source = .card e → s.job? b.job = some j →
      (∀ (d : ChannelId) (y : Binding), s.channel d = .bound y → y.notes = []) →
      let t := read .lost
      t.job? b.job = some { j with state := .suspended, suspend := some .sourceUnavailable, standing := none } ∧
      (∀ d : ChannelId, t.channel d = if (s.channel d).job? = some b.job then .free else s.channel d) ∧
      (s.spotter.log.length ≤ 120 → t.spotter.log = s.spotter.log ++
        (s.channelsOf b.job).filterMap fun d => (s.binding? d).map fun y =>
          ⟨.endpointLost, s.supply.timeBase, some y.clip, none, some j.source, none, none, 0, false⟩)

/-- For a lane of a bound clip without noted returns: CREATE answered OK records the handle and makes the attempts 0
(R70). WRITE of extent k answered OK ends it, moves a write position k on by one and removes a rewrite of k. A CREATE
that fails, and a WRITE of the extent at the verified prefix, counts an attempt, with DEST_TIMEOUT for a TIMEOUT and
DEST_WRITE_FAILED for ERROR or NO_MEDIUM: below three the CREATE is to be asked again, or the extent is the rewrite;
at three the record is FAILED and one fault of the reason is filed with the verified prefix as detail (R82). A WRITE
of another extent that fails is the lane's held failure, uncounted (R79). CLOSE answered OK makes the record VERIFIED;
one that fails makes it FAILED, filed with the extent count as detail (R84). ENDPOINT_LOST of any of a lane's asks
makes an IN_PROGRESS record DEFERRED, filed with the verified prefix (R85). When the verified prefix is the extent
count and every extent has been fed to the peer register, a register whose complement is not the file CRC makes the
record FAILED with PEER_MISMATCH, filed with the peer's port times 256 plus its id, whatever the state of its endpoint
(R98; log entry 26). A settled record's lane is gone, and no other clip, stream, look or endpoint changes (R83). -/
def Obligations.LaneEnds : Prop :=
  ∀ (s : State) (c : ChannelId) (d : Nat) (data : List Byte) (v : LaneView), s.laneView? c d = some v →
    v.bind.notes = [] →
    let entry (kind : FaultKind) (detail : Nat) : FaultEntry :=
      ⟨kind, s.supply.timeBase, some v.bind.clip, none, some v.record.endpoint, none, none, BitVec.ofNat 32 detail, false⟩
    let gone (t : State) (r : DestRecord) (es : List FaultEntry) : Prop :=
      t.dest? v.bind.clip d = some r ∧ (∀ y ∈ (t.binding? c).elim [] (·.lanes), y.dest ≠ d) ∧
        (s.spotter.log.length < 128 → t.spotter.log = s.spotter.log ++ es) ∧
        (∀ n, n ≠ v.bind.clip → t.clip? n = s.clip? n) ∧ t.review = s.review ∧ t.look = s.look ∧
        t.link.endpoints = s.link.endpoints
    let counted (t : State) (reason : FaultKind) (again : Lane → Lane) : Prop :=
      (v.record.attempts < 2 →
        t = (s.modLane c d again).modDest v.bind.clip d fun x => { x with attempts := v.record.attempts + 1 }) ∧
      (2 ≤ v.record.attempts →
        gone t { v.record with attempts := v.record.attempts + 1, state := .failed, reason := some reason }
          [entry reason v.record.verified])
    let failing (r : AskEnd) (reason : FaultKind) : Prop :=
      (r = .timeout ∧ reason = .destTimeout) ∨ ((r = .noMedium ∨ ∃ code, r = .error code) ∧ reason = .destWriteFailed)
    (∀ h : Word32, s.askEnded (.create c d) data (.ok (.created h)) =
      (s.modLane c d fun l => { l with creating := false, handle := some h }).modDest v.bind.clip d
        fun x => { x with attempts := 0 }) ∧
    (∀ (k : Nat) (a : Answer), s.askEnded (.write c d k) data (.ok a) =
      s.modLane c d fun l =>
        { l with
          write := none
          writePos := if k = l.writePos then k + 1 else l.writePos
          rewrite := if l.rewrite = some k then none else l.rewrite }) ∧
    (∀ a : Answer, gone (s.askEnded (.closeLane c d) data (.ok a)) { v.record with state := .verified, reason := none } []) ∧
    (∀ (r : AskEnd) (reason : FaultKind), failing r reason →
      counted (s.askEnded (.create c d) data r) reason (fun l => { l with creating := false }) ∧
      counted (s.askEnded (.write c d v.record.verified) data r) reason
        (fun l => { l with write := none, rewrite := some v.record.verified }) ∧
      (∀ k, k ≠ v.record.verified → s.askEnded (.write c d k) data r =
        s.modLane c d fun l => { l with write := none, heldFailure := some (k, reason) }) ∧
      gone (s.askEnded (.closeLane c d) data r) { v.record with state := .failed, reason := some reason }
        [entry reason v.clip.extents]) ∧
    (v.record.state = .inProgress → ∀ p : Purpose,
      p = .create c d ∨ (∃ k, p = .write c d k) ∨ (∃ k, p = .verify c d k) ∨ p = .closeLane c d →
      gone (s.askEnded p data .lost) { v.record with state := .deferred, reason := some .endpointLost }
        [entry .endpointLost v.record.verified]) ∧
    ∀ (e : EpName) (i : Nat), v.bind.source = .peer e i →
      (v.record.verified ≠ v.clip.extents ∨ v.bind.peerNext ≠ v.clip.extents ∨
        v.clip.fileCrc = some (~~~ v.bind.peerRegister) → s.checkWholeFile c d = s) ∧
      (v.record.verified = v.clip.extents → v.bind.peerNext = v.clip.extents →
        v.clip.fileCrc ≠ some (~~~ v.bind.peerRegister) →
        gone (s.checkWholeFile c d) { v.record with state := .failed, reason := some .peerMismatch }
          [entry .peerMismatch (e.port.val * 256 + e.id)])

/-- For a lane of a bound clip whose verify of extent k ends: OK with all its bytes and a CRC-64 equal to the extent
CRC held for k, the destination record's verified prefix rises by one and its attempts are 0; a held failure naming
the new prefix is then taken up, counted as one attempt and made the lane's rewrite (R80). OK but short or different,
VERIFY_MISMATCH is filed with the clip, the destination endpoint and detail k; ERROR, NO_MEDIUM or TIMEOUT files
nothing. Either failure is counted: below three the verified prefix stays and k is the lane's rewrite; at three the
record is FAILED, with VERIFY_MISMATCH and no second fault, or with DEST_WRITE_FAILED or DEST_TIMEOUT and one fault of
it with the verified prefix as detail, and its lane ends (R81 to R83). The ends of a lane are stated of a binding
without noted returns. -/
def Obligations.VerifyJudged : Prop :=
  ∀ (s : State) (c : ChannelId) (d k : Nat) (data : List Byte) (v : LaneView), s.laneView? c d = some v →
    v.bind.notes = [] →
    let ended (r : AskEnd) : State := s.askEnded (.verify c d k) data r
    let whole := extentLength v.clip.size k
    let lanes (t : State) : List Lane := (t.binding? c).elim [] (·.lanes)
    let entry (kind : FaultKind) (detail : Nat) : FaultEntry :=
      ⟨kind, s.supply.timeBase, some v.bind.clip, none, some v.record.endpoint, none, none, BitVec.ofNat 32 detail, false⟩
    let filed (t : State) (es : List FaultEntry) : Prop :=
      s.spotter.log.length < 128 → t.spotter.log = s.spotter.log ++ es
    let again (t : State) : Prop :=
      t.dest? v.bind.clip d = some { v.record with attempts := v.record.attempts + 1 } ∧
        ∃ y ∈ lanes t, y.dest = d ∧ y.rewrite = some k ∧ y.verify = none
    let failed (t : State) (reason : FaultKind) : Prop :=
      t.dest? v.bind.clip d =
        some { v.record with attempts := v.record.attempts + 1, state := .failed, reason := some reason } ∧
        ∀ y ∈ lanes t, y.dest ≠ d
    (v.bind.crcOf k = some (crc64 data) →
      let t := ended (.ok (.count whole))
      let next := v.record.verified + 1
      t.spotter = s.spotter ∧
      ((∀ reason, v.lane.heldFailure ≠ some (next, reason)) →
        t.dest? v.bind.clip d = some { v.record with verified := next, attempts := 0 }) ∧
      ∀ reason, v.lane.heldFailure = some (next, reason) →
        t.dest? v.bind.clip d = some { v.record with verified := next, attempts := 1 } ∧
          ∃ y ∈ lanes t, y.dest = d ∧ y.rewrite = some next ∧ y.heldFailure = none) ∧
    (∀ n, n ≠ whole ∨ v.bind.crcOf k ≠ some (crc64 data) →
      let t := ended (.ok (.count n))
      filed t [entry .verifyMismatch k] ∧
        (v.record.attempts < 2 → again t) ∧ (2 ≤ v.record.attempts → failed t .verifyMismatch)) ∧
    ∀ (r : AskEnd) (reason : FaultKind),
      (r = .timeout ∧ reason = .destTimeout) ∨ ((r = .noMedium ∨ ∃ code, r = .error code) ∧ reason = .destWriteFailed) →
      (v.record.attempts < 2 → again (ended r) ∧ filed (ended r) []) ∧
      (2 ≤ v.record.attempts → failed (ended r) reason ∧ filed (ended r) [entry reason v.record.verified])

/-- The end of a lane of a bound clip withdraws its asks and takes it out of the binding; extents that no IN_PROGRESS
record needs any more are released, but the one being read (R73, R83). If then no record is PENDING or IN_PROGRESS the
clip settles: its channel's asks are withdrawn, the channel is CLOSING with the data source's handle, or FREE without
one, the clip COMPLETE with every record VERIFIED, PARTIAL with some, else FAILED, its job settles if it can, and the
noted returns take effect (R56, R87, R88; their order is log entry 37). A job settles if it is ACTIVE without work:
DONE if every record of its clips is VERIFIED, else DONE_INCOMPLETE, without standing or re-seed mark (R56). An
unbinding withdraws the channel's asks and leaves it FREE, the clip WAITING and its IN_PROGRESS records PENDING with
attempts 0; noted returns then take effect; a CLOSING channel is FREE (R57, R88). Withdrawing asks frees their entries
with the generations kept, takes them off the waiting lists and their unsent packets out of the send queues, and
changes nothing else (R19). -/
def Obligations.ClipSettles : Prop :=
  (∀ (s : State) (c : ChannelId) (d : Nat) (b : Binding) (x : ClipRecord), s.channel c = .bound b →
    s.clip? b.clip = some x →
    let u := s.withdrawAsks (Purpose.ofLane c d)
    let needed (h : HeldExtent) : Bool := x.dests.any fun r => r.state == .inProgress && r.verified ≤ h.extent
    let left : Prop := ∃ r ∈ x.dests, r.state = .pending ∨ r.state = .inProgress
    let notes (t : State) : State := b.notes.foldl (fun (v : State) e => v.returnClip b.clip e) t
    (left → s.endLane c d =
      u.setChannel c (.bound { b with
        lanes := b.lanes.filter fun l => l.dest ≠ d
        held := b.held.filter fun h => needed h || (b.reading && h.phase == .reading) })) ∧
    (¬ left → s.endLane c d =
      notes ((((u.withdrawAsks (Purpose.ofChannel c)).setChannel c
        (match b.handle with
          | none => .free
          | some h => .closing ⟨some b.job, b.source.endpoint, h, false⟩)).setClip b.clip
        (some { x with
          copyState :=
            if ∀ r ∈ x.dests, r.state = .verified then .complete
            else if ∃ r ∈ x.dests, r.state = .verified then .partialCopy
            else .failed })).trySettleJob b.job)) ∧
    s.unbind c =
      notes (((s.withdrawAsks (Purpose.ofChannel c)).setChannel c .free).setClip b.clip
        (some { x with
          copyState := .waiting
          dests := x.dests.map fun r =>
            if r.state = .inProgress then { r with state := .pending, attempts := 0, reason := none } else r }))) ∧
  (∀ (s : State) (c : ChannelId), (∀ b, s.channel c ≠ .bound b) →
    s.unbind c = (s.withdrawAsks (Purpose.ofChannel c)).setChannel c .free) ∧
  (∀ (s : State) (n : Nat) (j : JobRecord), s.job? n = some j →
    let work : Prop := ∃ k ∈ j.clips, s.isBound k = true ∨ ∃ c, s.clip? k = some c ∧ (c.fresh = true ∨ c.reseedWork = true)
    (j.state ≠ .active ∨ work → s.trySettleJob n = s) ∧
    (j.state = .active → ¬ work → ∃ x : JobState, (x = .done ∨ x = .doneIncomplete) ∧
      (x = .done ↔ ∀ k ∈ j.clips, ∃ c, s.clip? k = some c ∧ ∀ r ∈ c.dests, r.state = .verified) ∧
      s.trySettleJob n = s.setJob n (some { j with state := x, standing := none, reseed := false }))) ∧
  ∀ (s : State) (f : Purpose → Bool),
    let t := s.withdrawAsks f
    let gone (p : Port) (pk : Packet) : Prop := ∃ (n : EntryId) (l : LiveAsk), (s.port p).asks[n].live = some l ∧
      f l.ask.purpose = true ∧ pk.owner = .ask ((s.port p).asks[n].generation * 64 + n.val)
    t = { s with link := { s.link with ports := t.link.ports } } ∧
    ∀ p : Port,
      t.port p = { s.port p with
        asks := (t.port p).asks, waiting := (s.port p).waiting.filter fun a => !f a.purpose, queues := (t.port p).queues } ∧
      (∀ n : EntryId, (t.port p).asks[n] =
        ⟨(s.port p).asks[n].generation, (s.port p).asks[n].live.filter fun l => !f l.ask.purpose⟩) ∧
      ∀ k : Fin 4, ∃ keep : Packet → Bool, (∀ pk, keep pk = false ↔ gone p pk) ∧
        (t.port p).queues[k] = (s.port p).queues[k].filter keep

/-- LOOK BEGIN clears an unlatched shadow for loading with N 17 or 33 and returns the shadow bank and the entry total;
LOOK DISCARD empties an unlatched shadow; each answers SLOT_BUSY on a latched one and BAD_ARGUMENT on values out of
range. LOOK DATA writes a run of entries of a LOADING shadow's table, clamped; its shadow is COMPLETE once every entry
is written; it returns the shadow state, the coverage and the number of entries clamped. LOOK COMMIT of a COMPLETE
shadow makes it active and is a look change; the former active bank is a STALE shadow, or bank B an EMPTY one; on any
other shadow it is answered INCOMPLETE. Nothing else changes (R102 to R106). -/
def Obligations.LookLoading : Prop :=
  ∀ (s : State) (p : Port) (r : Request), s.Taking p r →
    let u := s.takeRequest p
    let busy (k : Fin 16) : Prop := ∃ st : StreamId, (s.stream st).latch = some (k, (s.slot k).shadowName)
    (r.number = 0x20 →
      exec .lookBegin s = .next
        (match r.args with
        | [a, n] =>
          if h : a.toNat < 16 ∧ (n.toNat = 17 ∨ n.toNat = 33) then
            let k : Fin 16 := ⟨a.toNat, h.1⟩
            let name := (s.slot k).shadowName
            if busy k then u.answered p r .slotBusy []
            else
              (u.modSlot k fun x =>
                { x.setBank name ⟨some n.toNat, Vector.replicate 5 []⟩ with shadow := .loading }).answered p r .done
                (byteOf name.code :: beBytes 4 (783 + 3 * n.toNat ^ 3))
          else u.answered p r .badArgument []
        | _ => u.answered p r .badArgument [])) ∧
    (r.number = 0x23 →
      exec .lookDiscard s = .next
        (match r.args with
        | [a] =>
          if h : a.toNat < 16 then
            let k : Fin 16 := ⟨a.toNat, h⟩
            if busy k then u.answered p r .slotBusy []
            else
              (u.modSlot k fun x =>
                { x.setBank (s.slot k).shadowName ⟨none, Vector.replicate 5 []⟩ with shadow := .empty }).answered p r
                .done []
          else u.answered p r .badArgument []
        | _ => u.answered p r .badArgument [])) ∧
    (r.number = 0x21 →
      exec .lookData s = .next
        (match parseLookData r.args with
        | some a =>
          if h : a.slot < 16 ∧ a.code ≤ 4 ∧ a.entries ≠ [] then
            let k : Fin 16 := ⟨a.slot, h.1⟩
            let x := s.slot k
            let limit := if a.code = 4 then 3 * (x.shadowBank.size.getD 0) ^ 3 else if a.code = 3 then 12 else 257
            if x.shadow ≠ .loading then u.answered p r .wrongState []
            else if limit < a.first + a.entries.length then u.answered p r .badArgument []
            else
              let values : List (Int × Int) := a.entries.zipIdx.map fun wi =>
                let raw : Int := if a.code = 3 then wi.1.toInt else wi.1.toNat
                (raw, if a.code ≠ 3 then max 0 (min raw 65536)
                  else if a.first + wi.2 < 9 then max (-32768) (min raw 32767) else max (-65536) (min raw 65536))
              let bank : Bank :=
                { x.shadowBank with
                  tables := x.shadowBank.tables.set a.code
                    (writeRun (x.shadowBank.tables[a.code]) a.first (values.map (·.2))) }
              let state : ShadowState := if bank.written = bank.total then .complete else .loading
              (u.modSlot k fun y => { y.setBank x.shadowName bank with shadow := state }).answered p r .done
                (byteOf state.code ::
                  (beBytes 4 bank.written ++ beBytes 4 (values.filter fun v => v.1 ≠ v.2).length))
          else u.answered p r .badArgument []
        | none => u.answered p r .badArgument [])) ∧
    (r.number = 0x22 →
      exec .lookCommit s = .next
        (match r.args with
        | [a] =>
          if h : a.toNat < 16 then
            let k : Fin 16 := ⟨a.toNat, h⟩
            let x := s.slot k
            if x.shadow = .complete then
              ((u.modSlot k fun y =>
                if y.active = none then { y with active := some .a, shadow := .empty, bankB := ⟨none, Vector.replicate 5 []⟩ }
                else { y with active := some x.shadowName, shadow := .stale }).lookChanged (.slot k)).answered p r .done
                [byteOf x.shadowName.code]
            else u.answered p r .incomplete (byteOf x.shadow.code :: beBytes 4 x.coverage)
          else u.answered p r .badArgument []
        | _ => u.answered p r .badArgument []))

/-- DIRECTORY SET sets the entry of a look number to 63 to a slot to 15 or UNMAPPED (255) and returns the previous
value; CLIP SET LOOK sets an allocated clip's look number to a number to 63 or NONE (255) and returns the previous
one; values out of range are answered BAD_ARGUMENT, a free clip NOT_FOUND. Each is then reported as a look change. A
look change does nothing to a stream that is not HELD, or whose current clip would resolve as it was graded. A HELD
stream that would resolve otherwise, and whose current clip is the clip changed, or has the look number changed, or
whose graded resolution names the slot changed or whose look number maps to it, starts a regrade, or has the
regrade-again mark set while one is in progress. A regrade, all of it computed at its start (log entry 30), resolves
the look for the current clip, with LOOK_MISSING once, latch and concealment set; in PACED mode the back buffer is
WRITING with the held frame's clip, number and damaged mark, its received lines graded and the others black; in
STREAMING mode the graded lines go out as a frame, in packets of up to 8 consecutive lines (log entry 10), the first
to the queue. No hold point, frame count, measure or other stream changes (R108 to R112, R165, R167; a change is
judged for stream 0, then for stream 1 as stream 0 leaves the state: log entry 37). -/
def Obligations.LookBindings : Prop :=
  (∀ (s : State) (p : Port) (r : Request), s.Taking p r →
    let u := s.takeRequest p
    (r.number = 0x24 →
      exec .directorySet s = .next
        (match r.args with
        | [n, a] =>
          if n.toNat ≤ 63 ∧ (a.toNat ≤ 15 ∨ a = 255) then
            let entry : Option (Fin 16) := if h : a.toNat < 16 then some ⟨a.toNat, h⟩ else none
            (({ u with look :=
                { u.look with directory := s.look.directory.setIfInBounds n.toNat entry } }).lookChanged
              (.look n.toNat)).answered p r .done [(s.directoryAt n.toNat).elim 255 fun k => byteOf k.val]
          else u.answered p r .badArgument []
        | _ => u.answered p r .badArgument [])) ∧
    (r.number = 0x25 →
      exec .clipSetLook s = .next
        (match r.args with
        | [a, b, c] =>
          let n := a.toNat * 256 + b.toNat
          if n ≤ 511 ∧ (c.toNat ≤ 63 ∨ c = 255) then
            match s.clip? n with
            | none => u.answered p r .notFound []
            | some x =>
              ((u.setClip n (some { x with look := if c = 255 then none else some c.toNat })).lookChanged
                (.clip n)).answered p r .done [x.look.elim 255 fun k => byteOf k]
          else u.answered p r .badArgument []
        | _ => u.answered p r .badArgument []))) ∧
  (∀ (s : State) (x : LookChange),
    let alters (t : State) (st : StreamId) : Prop :=
      (t.stream st).state = .held ∧ ∃ k, (t.stream st).currentClip = some k ∧
        (t.chain k).resolution ≠ (t.stream st).graded ∧
        (x = .clip k ∨ (∃ n, x = .look n ∧ t.lookOf k = some n) ∨
          ∃ a, x = .slot a ∧
            ((∃ name, (t.stream st).graded = .bank a name) ∨ ∃ n, t.lookOf k = some n ∧ t.directoryAt n = some a))
    let judged (t v : State) (st : StreamId) : Prop :=
      (¬ alters t st → v = t) ∧
        (alters t st → v =
          if (t.stream st).regrading then t.modStream st fun y => { y with regradeAgain := true } else t.startRegrade st)
    ∃ u : State, judged s u 0 ∧ judged u (s.lookChanged x) 1) ∧
  ∀ (s : State) (st : StreamId) (k : Nat) (h : HeldFrame), (s.stream st).state = .held →
    (s.stream st).currentClip = some k → (s.stream st).heldFrame = some h →
    let x := s.stream st
    let t := s.startRegrade st
    let y := t.stream st
    let graded (n : Nat) (l : List Rgb) : List Rgb :=
      gradeLine (s.bankOf (s.chain k).resolution) x.params.encoding (s.concealmentFor k) n l
    y.regrading = true ∧ y.graded = (s.chain k).resolution ∧ y.latch = (s.chain k).latch ∧
      y.concealment = s.concealmentFor k ∧
    (s.spotter.log.length < 128 → t.spotter.log = s.spotter.log ++
      (match s.chain k with
      | .reached _ _ => []
      | .broken cause =>
        if x.lookMissing then []
        else [⟨.lookMissing, s.supply.timeBase, some k, some h.number, none, none, some st,
          BitVec.ofNat 32 (cause + 256 * (s.lookOf k).getD 255), false⟩])) ∧
    t.spotter.holds = s.spotter.holds ∧ t.spotter.streams = s.spotter.streams ∧
    (x.params.mode = .paced →
      y.backState = .writing ∧
        y.back = some ⟨h.clip, h.number, h.damaged, (List.range x.params.height).map fun n =>
          ((x.source.lookup n).map (graded n)).getD (blackLine x.params.encoding x.params.width)⟩) ∧
    (x.params.mode = .streaming → s.isUp x.params.output.port = true →
      (s.port x.params.output.port).queueOf (.raster st) = [] →
      (t.port x.params.output.port).queueOf (.raster st) ++ y.presenting =
        framePackets st x.params h.clip h.number h.damaged (x.source.map fun nl => (nl.1, graded nl.1 nl.2))) ∧
    y.state = x.state ∧ y.currentClip = x.currentClip ∧ y.lastFrame = x.lastFrame ∧ y.processed = x.processed ∧
      y.skipped = x.skipped ∧ ∀ z : StreamId, z ≠ st → t.stream z = s.stream z

/-- A concealment set holds the sites of the defect map under the clip's camera tag. Of a line, a pixel in the set
takes, channel by channel, the mean of its two neighbours as received, rounded up, or its one neighbour at an end; any
other pixel stays; each pixel is then graded. With a bank whose tables are written whole and hold E, a pixel of 12-bit
codes is graded by the curves, the matrix with offset and clamp, the lattice cell and fraction of each channel, the
weighted corners of the tetrahedron, and the encoding; in bypass each code c is (c x 65536 + 2047) div 4095, encoded.
The encodings are FULL10, NARROW10 and FULL12 as R123 gives them. For fractions from 0 to 65,536 the tetrahedron is
the one row of R121's table: four corners with offsets 0 or 1, each weight at least 0, the weights summing to 65,536,
the first the cell's base corner and the last its far one. A working value from 0 to 65,536 is encoded as 0 to 1023,
64 to 940 or 0 to 4095, rising with the value; its lattice cell is from 0 to N - 2 and its fraction from 0 to 65,536;
the bypass value lies in 0 to 65,536 and FULL12 gives the code back (R115 to R124). -/
def Obligations.LookComputation : Prop :=
  (∀ fx fy fz : Int, 0 ≤ fx → fx ≤ 65536 → 0 ≤ fy → fy ≤ 65536 → 0 ≤ fz → fz ≤ 65536 →
    let corners := tetrahedron fx fy fz
    corners.length = 4 ∧ (∀ c ∈ corners, 0 ≤ c.weight ∧ c.dr ≤ 1 ∧ c.dg ≤ 1 ∧ c.db ≤ 1) ∧
      (corners.map (·.weight)).sum = 65536 ∧ (corners.head?.map fun c => (c.dr, c.dg, c.db)) = some (0, 0, 0) ∧
      (corners.getLast?.map fun c => (c.dr, c.dg, c.db)) = some (1, 1, 1) ∧
      (fy ≤ fx → fz ≤ fy →
        corners = [⟨0, 0, 0, 65536 - fx⟩, ⟨1, 0, 0, fx - fy⟩, ⟨1, 1, 0, fy - fz⟩, ⟨1, 1, 1, fz⟩]) ∧
      (fz ≤ fx → fy < fz →
        corners = [⟨0, 0, 0, 65536 - fx⟩, ⟨1, 0, 0, fx - fz⟩, ⟨1, 0, 1, fz - fy⟩, ⟨1, 1, 1, fy⟩]) ∧
      (fx < fz → fy ≤ fx →
        corners = [⟨0, 0, 0, 65536 - fz⟩, ⟨0, 0, 1, fz - fx⟩, ⟨1, 0, 1, fx - fy⟩, ⟨1, 1, 1, fy⟩]) ∧
      (fx < fy → fz ≤ fx →
        corners = [⟨0, 0, 0, 65536 - fy⟩, ⟨0, 1, 0, fy - fx⟩, ⟨1, 1, 0, fx - fz⟩, ⟨1, 1, 1, fz⟩]) ∧
      (fz ≤ fy → fx < fz →
        corners = [⟨0, 0, 0, 65536 - fy⟩, ⟨0, 1, 0, fy - fz⟩, ⟨0, 1, 1, fz - fx⟩, ⟨1, 1, 1, fx⟩]) ∧
      (fy < fz → fx < fy →
        corners = [⟨0, 0, 0, 65536 - fz⟩, ⟨0, 0, 1, fz - fy⟩, ⟨0, 1, 1, fy - fx⟩, ⟨1, 1, 1, fx⟩])) ∧
  (∀ (n : Nat) (v : Int), n = 17 ∨ n = 33 → 0 ≤ v → v ≤ 65536 →
    0 ≤ latticeCell n v ∧ latticeCell n v ≤ n - 2 ∧ 0 ≤ latticeFrac n v ∧ latticeFrac n v ≤ 65536) ∧
  (∀ v w : Int, 0 ≤ v → v ≤ w → w ≤ 65536 → ∀ e : Encoding, e.encode v ≤ e.encode w) ∧
  (∀ v : Int, 0 ≤ v → v ≤ 65536 → Encoding.full10.encode v ≤ 1023 ∧ 64 ≤ Encoding.narrow10.encode v ∧
    Encoding.narrow10.encode v ≤ 940 ∧ Encoding.full12.encode v ≤ 4095) ∧
  ∀ c : Nat, c ≤ 4095 → 0 ≤ bypassValue c ∧ bypassValue c ≤ 65536 ∧ Encoding.full12.encode (bypassValue c) = c ∧
  (∀ v : Int, 0 ≤ v → v ≤ 65536 →
    (Encoding.full10.encode v : Int) = min ((v * 1023 + 32768) / 65536) 1023 ∧
    (Encoding.narrow10.encode v : Int) = 64 + (v * 876 + 32768) / 65536 ∧
    (Encoding.full12.encode v : Int) = min ((v * 4095 + 32768) / 65536) 4095) ∧
  (∀ (e : Encoding) (x : Rgb), gradePixel none e x =
    let v (c : Nat) : Int := ((c * 65536 + 2047) / 4095 : Nat)
    ⟨e.encode (v x.r), e.encode (v x.g), e.encode (v x.b)⟩) ∧
  (∀ (b : Bank) (n : Nat) (E : Nat → Nat → Int) (e : Encoding) (x : Rgb), b.size = some n → n = 17 ∨ n = 33 →
    (∀ (t : Fin 5) (i : Nat), i < (if t < 3 then 257 else if t = 3 then 12 else 3 * n ^ 3) →
      (b.tables[t]).lookup i = some (E t i)) →
    x.r ≤ 4095 → x.g ≤ 4095 → x.b ≤ 4095 →
    let curve (t c : Nat) : Int :=
      let i := c / 16
      let f : Int := (c % 16 : Nat)
      (E t i * (16 - f) + E t (i + 1) * f + 8) / 16
    let mixed (k : Nat) : Int :=
      let m := E 3 (3 * k) * curve 0 x.r + E 3 (3 * k + 1) * curve 1 x.g + E 3 (3 * k + 2) * curve 2 x.b
      max 0 (min ((m + 2048) / 4096 + E 3 (9 + k)) 65536)
    let cell (v : Int) : Int := min (v * (n - 1) / 65536) (n - 2)
    let frac (v : Int) : Int := v * (n - 1) - cell v * 65536
    let corners := tetrahedron (frac (mixed 0)) (frac (mixed 1)) (frac (mixed 2))
    let point (c : WeightedCorner) : Nat :=
      (cell (mixed 0) + c.dr + n * (cell (mixed 1) + c.dg) + n * n * (cell (mixed 2) + c.db)).toNat
    let out (k : Nat) : Int := ((corners.map fun c => c.weight * E 4 (3 * point c + k)).sum + 32768) / 65536
    gradePixel (some b) e x = ⟨e.encode (out 0), e.encode (out 1), e.encode (out 2)⟩) ∧
  (∀ (s : State) (k line col : Nat), (line, col) ∈ s.concealmentFor k ↔
    ∃ c, s.clip? k = some c ∧ ⟨c.cameraTag, line, col⟩ ∈ s.spotter.defectMap) ∧
  ∀ (bank : Option Bank) (e : Encoding) (set : List (Nat × Nat)) (line : Nat) (codes : List Rgb),
    gradeLine bank e set line codes = (concealLine set line codes).map (gradePixel bank e) ∧
    (concealLine set line codes).length = codes.length ∧
    ∀ (col : Nat) (x : Rgb), codes[col]? = some x →
      let out := (concealLine set line codes)[col]?
      ((line, col) ∉ set → out = some x) ∧
      ((line, col) ∈ set →
        (∀ r, col = 0 → codes[1]? = some r → out = some r) ∧
        (∀ l, 0 < col → col + 1 = codes.length → codes[col - 1]? = some l → out = some l) ∧
        ∀ l r, 0 < col → codes[col - 1]? = some l → codes[col + 1]? = some r →
          out = some ⟨(l.r + r.r + 1) / 2, (l.g + r.g + 1) / 2, (l.b + r.b + 1) / 2⟩)

/-- REVIEW OPEN of 20 bytes: values out of range are answered BAD_ARGUMENT, a stream that is not CLOSED WRONG_STATE, a
missing decoder or output endpoint NOT_FOUND, one of the wrong kind BAD_ARGUMENT, a port without the role
NOT_PERMITTED. Otherwise the stream is WAITING with the parameters named (stall timeout 0 stands for 500 ms) and every
other part as after a restart (its graded resolution bypass, the model's choice, log entry 5), its stall timer set to
the stall timeout from now; the spotter's measures, filters and candidates of the stream are cleared, its QC
configuration kept; the stream's raster credits are granted on the decoder's port if it is UP; the reply is DONE and
nothing else changes (R128, R7). -/
def Obligations.ReviewOpen : Prop :=
  ∀ (s : State) (p : Port) (r : Request), s.Taking p r → r.number = 0x30 →
    let u := s.takeRequest p
    (parseOpen r.args = none → exec .reviewOpen s = .next (u.answered p r .badArgument [])) ∧
    ∀ a : OpenArgs, parseOpen r.args = some a →
      exec .reviewOpen s = .next
        (if h : a.stream < 2 ∧ a.decoderPort < 4 ∧ a.outputPort < 4 ∧ (1 ≤ a.decoderId ∧ a.decoderId ≤ 15) ∧
            (1 ≤ a.outputId ∧ a.outputId ≤ 15) ∧ (16 ≤ a.width ∧ a.width ≤ 4096) ∧ (16 ≤ a.height ∧ a.height ≤ 2304) ∧
            a.encoding ≤ 2 ∧ a.mode ≤ 1 ∧ (a.stall = 0 ∨ 10 ≤ a.stall ∧ a.stall ≤ 10000) ∧ a.permission ≤ 1 ∧
            (a.mode = 1 → (1 ≤ a.num ∧ a.num ≤ 655350) ∧ (1 ≤ a.den ∧ a.den ≤ 65535) ∧ a.den ≤ a.num ∧
              a.num ≤ 120 * a.den) then
          let st : StreamId := ⟨a.stream, h.1⟩
          let decoder : EpName := ⟨⟨a.decoderPort, h.2.1⟩, a.decoderId⟩
          let output : EpName := ⟨⟨a.outputPort, h.2.2.1⟩, a.outputId⟩
          let kindOf (e : EpName) : Option EndpointKind := (s.endpoint? e).map (·.kind)
          if (s.stream st).state ≠ .closed then u.answered p r .wrongState []
          else if kindOf decoder = none ∨ kindOf output = none then u.answered p r .notFound []
          else if kindOf decoder ≠ some .decoder ∨ kindOf output ≠ some .display then u.answered p r .badArgument []
          else if hasRole (s.port decoder.port).roles .decode = false ∨
              hasRole (s.port output.port).roles .display = false then
            u.answered p r .notPermitted []
          else
            let stall := if a.stall = 0 then 500 else a.stall
            let t := u.modStream st fun _ =>
              { Stream.closed
                  { decoder := decoder
                    output := output
                    width := a.width
                    height := a.height
                    encoding := if a.encoding = 0 then .full10 else if a.encoding = 1 then .narrow10 else .full12
                    mode := if a.mode = 0 then .streaming else .paced
                    rateNum := a.num
                    rateDen := a.den
                    stallMs := stall
                    clearWhileHeld := a.permission = 1 } with
                state := .waiting
                stallTimer := some (s.supply.timeBase + BitVec.ofNat 64 (stall * 1000)) }
            let t := t.modSpot st fun x => { SpotterStream.reset with config := x.config }
            (if (s.port decoder.port).link = .up then
              t.modPort decoder.port fun x =>
                let k : Fin 4 := if st = 0 then 2 else 3
                let total := x.receive[k].count + 16
                { x with
                  receive := x.receive.set k.val ⟨total, x.receive[k].count⟩ k.isLt
                  creditDue := x.creditDue || total != x.receive[k].total }
            else t).answered p r .done []
        else u.answered p r .badArgument [])

/-- REVIEW CLOSE of one byte: a stream above 1 is answered BAD_ARGUMENT, a CLOSED stream WRONG_STATE. Otherwise the
stream is CLOSED with its parameters kept and every other part as after a restart: no frame, latch, current clip,
queued packet or timer. An open repeat run is filed as OUTPUT_REPEAT with its clip, frame and length. The current clip
is finalised: FRAME_COUNT is filed, and counted, if its expected frame count is present and differs from its frames
seen; the stream is no longer among its current streams; its QC state is CLEAN if its three fault counts are 0, else
FLAGGED. No packet of the stream is left in its send queues on the output port; the spotter's measures of the stream
are cleared, and its candidates and filters too if it had a current clip. The other stream, the look engine, the
endpoint table, the defect map, the engine and the jobs are unchanged, and the reply is DONE (R35, R36, R137, R139,
R140; that the counts, marks and buffers the rule does not name are reset at the close too is the model's choice, log
entry 41). -/
def Obligations.ReviewClose : Prop :=
  ∀ (s : State) (p : Port) (r : Request), s.Taking p r → r.number = 0x31 →
    let u := s.takeRequest p
    ((∀ a : Byte, r.args = [a] → 1 < a.toNat) → exec .reviewClose s = .next (u.answered p r .badArgument [])) ∧
    ∀ st : StreamId, r.args = [byteOf st.val] →
      ((s.stream st).state = .closed → exec .reviewClose s = .next (u.answered p r .wrongState [])) ∧
      ((s.stream st).state ≠ .closed →
        ∃ t : State, exec .reviewClose s = .next (t.answered p r .done []) ∧
          t.stream st = Stream.closed (s.stream st).params ∧ (∀ x : StreamId, x ≠ st → t.stream x = s.stream x) ∧
          (∀ k : Fin 4, (t.port (s.stream st).params.output.port).queues[k] =
            ((s.port (s.stream st).params.output.port).queues[k]).filter fun pk => pk.owner != .raster st) ∧
          (∀ q : Port, q ≠ (s.stream st).params.output.port → t.port q = s.port q) ∧
          (t.spot st).measures = ⟨⟨0, 0, 0⟩, 0, 0, false, false⟩ ∧ (t.spot st).config = (s.spot st).config ∧
          ((s.stream st).currentClip ≠ none →
            (t.spot st).candidates = [] ∧ (t.spot st).clipRed = ⟨0, false⟩ ∧ (t.spot st).clipGreen = ⟨0, false⟩ ∧
              (t.spot st).clipBlue = ⟨0, false⟩ ∧ (t.spot st).black = ⟨0, false⟩) ∧
          (let x := s.stream st
           let differs (c : ClipRecord) : Bool := c.expectedFrames.any fun n => n.toNat != c.framesSeen
           (s.spotter.log.length ≤ 126 → t.spotter.log = s.spotter.log ++
             (if x.run.length = 0 then []
              else [⟨.outputRepeat, s.supply.timeBase, some x.run.clip, some x.run.frame, none, none, some st,
                BitVec.ofNat 32 x.run.length, false⟩]) ++
             match x.currentClip with
             | none => []
             | some k =>
               match s.clip? k with
               | none => []
               | some c =>
                 if differs c then
                   [⟨.frameCount, s.supply.timeBase, some k, none, none, none, some st, BitVec.ofNat 32 c.framesSeen, false⟩]
                 else []) ∧
           (∀ k c, x.currentClip = some k → s.clip? k = some c →
             ∃ c', t.clip? k = some c' ∧ c'.currentStreams = c.currentStreams.set st.val false ∧
               c'.framesSeen = c.framesSeen ∧
               c'.qc = (if c'.copyFaults = 0 ∧ c'.pictureFaults = 0 ∧ c'.timingFaults = 0 then .clean else .flagged) ∧
               c'.copyFaults = c.copyFaults ∧ c'.pictureFaults = c.pictureFaults ∧
               (x.run.length = 0 ∨ x.run.clip ≠ k →
                 c'.timingFaults = if differs c then min (c.timingFaults + 1) 65535 else c.timingFaults)) ∧
           ∀ n, x.currentClip ≠ some n → (x.run.length = 0 ∨ x.run.clip ≠ n) → t.clip? n = s.clip? n) ∧
          t.look = s.look ∧ t.link.endpoints = s.link.endpoints ∧ t.spotter.defectMap = s.spotter.defectMap ∧
          t.offload = s.offload ∧ t.table.jobs = s.table.jobs ∧ t.supply = s.supply ∧ t.control = u.control)

/-- RASTER_TAKEN does nothing on a stream that is CLOSED or HELD, has no packet waiting, or is STREAMING with its last
packet still waiting to leave. On a stream that may take, with no frame in progress: the packet leaves the queue and
the silent-stall mark is cleared; one that waited when the stream was released restarts the stall timer (R168). A
packet without FRAME_START is counted stray and its buffer freed, and nothing else changes; one with FRAME_START of a
clip without a VERIFIED record counts one more gated frame, and files NOT_SECURED with clip, frame and stream unless
the not-secured mark names the clip, which it then does, the refused frame in progress having next line 0 and no other
mark (the model's choice, log entry 43); one of a clip with such a record counts one more processed frame, makes the
stream RUNNING with the clip current and the frame number last, and counts the frame in the clip. What else starting a
frame does is RasterStart's. In the last two the other stream and what the spotter holds for it, the engine, looks,
jobs, admission list, control unit, supply, endpoint table and defect map are unchanged (R129 to R131). -/
def Obligations.RasterTaken : Prop :=
  ∀ (s : State) (st : StreamId), s.running = true →
    let x := s.stream st
    let may : Prop := (x.state = .waiting ∨ x.state = .running) ∧
      (x.params.mode = .streaming →
        x.presenting = [] ∧ (s.port x.params.output.port).queueOf (.raster st) = [])
    let apart (t : State) : Prop :=
      (∀ y : StreamId, y ≠ st → t.stream y = s.stream y ∧ t.spot y = s.spot y) ∧ t.offload = s.offload ∧ t.look = s.look ∧
        t.table.jobs = s.table.jobs ∧ t.table.admission = s.table.admission ∧ t.control = s.control ∧
        t.supply = s.supply ∧ t.link.endpoints = s.link.endpoints ∧ t.spotter.defectMap = s.spotter.defectMap ∧
        t.pending = s.pending
    ((¬ may ∨ x.queue = []) → exec (.rasterTaken st) s = .next s) ∧
    (may → ∀ pk rest, x.queue = pk :: rest → x.frame = none →
      let u := s.modStream st fun y =>
        { y with
          queue := rest
          stallSilent := false
          stallTimer :=
            if pk.waitedRelease then some (s.supply.timeBase + BitVec.ofNat 64 (x.params.stallMs * 1000)) else x.stallTimer }
      (pk.frameStart = false →
        exec (.rasterTaken st) s =
          .next ((u.modStream st fun y => { y with stray := min (x.stray + 1) 4294967295 }).freeRaster st pk.port)) ∧
      (pk.frameStart = true → (∀ c, s.clip? pk.clip = some c → ∀ d ∈ c.dests, d.state ≠ .verified) →
        ∃ t, exec (.rasterTaken st) s = .next t ∧ apart t ∧ (t.stream st).gated = min (x.gated + 1) 4294967295 ∧
          (t.stream st).processed = x.processed ∧ (t.stream st).currentClip = x.currentClip ∧
          (t.stream st).state = x.state ∧ (t.stream st).notSecured = some pk.clip ∧
          (s.spotter.log.length < 128 → t.spotter.log = s.spotter.log ++
            (if x.notSecured = some pk.clip then [] else
              [⟨.notSecured, s.supply.timeBase, some pk.clip, some pk.frame, none, none, some st, 0, false⟩])) ∧
          (t.stream st).frame =
            (if pk.frameEnd then none else some ⟨pk.clip, pk.frame, true, 0, false, false, false, false⟩)) ∧
      (pk.frameStart = true → pk.frameEnd = false → ∀ c, s.clip? pk.clip = some c →
        (∃ d ∈ c.dests, d.state = .verified) →
        ∃ t c', exec (.rasterTaken st) s = .next t ∧ apart t ∧ (t.stream st).processed = min (x.processed + 1) 4294967295 ∧
          (t.stream st).state = .running ∧ (t.stream st).currentClip = some pk.clip ∧
          (t.stream st).lastFrame = some pk.frame ∧ (t.stream st).notSecured = none ∧ t.clip? pk.clip = some c' ∧
          c'.framesSeen = min (c.framesSeen + 1) 4294967295 ∧ c'.currentStreams[st] = true))

/-- RASTER_TAKEN of a packet with FRAME_START of a clip with a VERIFIED record, on a stream that may take and has no
frame in progress, starts the frame, takes the packet's lines, notes CLIP_END, and with FRAME_END ends the frame. The
start clears the not-secured mark and makes the stream RUNNING, the clip current and the frame number last. Another
current clip is finalised: this stream's current mark leaves it, its QC state is judged, FRAME_COUNT is filed if its
expected count differs, and the filters and candidates are cleared. With a last frame number, not removed by that,
DUPLICATE_FRAME (0), DROPPED_FRAMES (d - 1, to d = 2^31) or OUT_OF_ORDER (the last number) is filed unless d is 1. The
clip counts the frame, keeps the highest number and has this stream current. The look is resolved, with latch,
concealment set and LOOK_MISSING once for a clip. The frame in progress has next line 0, clear gap and geometry marks,
and is damaged if one of these continuity or look faults was filed; the source buffer is empty; in PACED mode the back
buffer is WRITING for the frame, a READY one counted as skipped. The stream's armed FRAME points for this clip and
number, and its armed FAULT points of a kind filed here, set the hold-pending mark, and those of them that are
one-shot are disarmed; no other point changes (R109, R116, R130, R131, R134, R139, R165). -/
def Obligations.RasterStart : Prop :=
  ∀ (s : State) (st : StreamId) (pk : RasterPacket) (rest : List RasterPacket) (c : ClipRecord), s.running = true →
    let x := s.stream st
    (x.state = .waiting ∨ x.state = .running) →
    (x.params.mode = .streaming → x.presenting = [] ∧ (s.port x.params.output.port).queueOf (.raster st) = []) →
    x.queue = pk :: rest → x.frame = none → pk.frameStart = true → s.clip? pk.clip = some c →
    (∃ d ∈ c.dests, d.state = .verified) →
    let k := pk.clip
    let n := pk.frame
    let change : Bool := x.currentClip.any fun a => a ≠ k
    let entry (kind : FaultKind) (detail : Nat) : FaultEntry :=
      ⟨kind, s.supply.timeBase, some k, some n, none, none, some st, BitVec.ofNat 32 detail, false⟩
    let counted : List FaultEntry :=
      match if change then x.currentClip else none with
      | none => []
      | some a =>
        match s.clip? a with
        | none => []
        | some y =>
          if y.expectedFrames.any fun m => m.toNat ≠ y.framesSeen then
            [⟨.frameCount, s.supply.timeBase, some a, none, none, none, some st, BitVec.ofNat 32 y.framesSeen, false⟩]
          else []
    let continuity : List FaultEntry :=
      match if change then none else x.lastFrame with
      | none => []
      | some last =>
        let d := (n - last).toNat
        if d = 1 then []
        else if d = 0 then [entry .duplicateFrame 0]
        else if d ≤ 2 ^ 31 then [entry .droppedFrames (d - 1)]
        else [entry .outOfOrder last.toNat]
    let missing : List FaultEntry :=
      match s.chain k with
      | .reached _ _ => []
      | .broken cause =>
        if x.lookMissing && !change then [] else [entry .lookMissing (cause + 256 * (s.lookOf k).getD 255)]
    let damaged : Bool := !(continuity ++ missing).isEmpty
    let met (h : HoldPoint) : Bool := h.armed && h.stream == st &&
      match h.condition with
      | .frame a m => a == k && m == n
      | .fault q => (counted ++ continuity ++ missing).any fun e => e.kind == q
    ∃ v : State,
      (let t := v.takeLines st pk
       let w := if pk.clipEnd then t.modStream st fun z => { z with frame := z.frame.map fun g => { g with clipEnd := true } }
         else t
       exec (.rasterTaken st) s = .next (if pk.frameEnd then w.endFrame st else w)) ∧
      (let y := v.stream st
       y.state = .running ∧ y.params = x.params ∧ y.queue = rest ∧ y.currentClip = some k ∧ y.lastFrame = some n ∧
       y.notSecured = none ∧ y.processed = min (x.processed + 1) 4294967295 ∧
       y.frame = some ⟨k, n, false, 0, false, false, damaged, false⟩ ∧ y.source = [] ∧
       y.graded = (s.chain k).resolution ∧ y.latch = (s.chain k).latch ∧ y.concealment = s.concealmentFor k ∧
       y.lookMissing = ((x.lookMissing && !change) || !missing.isEmpty) ∧
       (x.params.mode = .paced → y.backState = .writing ∧ y.back = some ⟨k, n, damaged, []⟩ ∧
         y.skipped = if x.backState = .ready then min (x.skipped + 1) 4294967295 else x.skipped) ∧
       (x.params.mode = .streaming → y.backState = x.backState ∧ y.back = x.back ∧ y.skipped = x.skipped) ∧
       y.front = x.front ∧ y.origin = x.origin ∧ y.tick = x.tick ∧ y.run = x.run ∧ y.presenting = x.presenting ∧
       y.inHand = x.inHand ∧ y.gated = x.gated ∧ y.stray = x.stray ∧
       y.stallTimer =
         (if pk.waitedRelease then some (s.supply.timeBase + BitVec.ofNat 64 (x.params.stallMs * 1000)) else x.stallTimer) ∧
       y.holdPending = (x.holdPending || s.spotter.holds.toList.any fun h => h.any met)) ∧
      (∀ a : Fin 4, v.spotter.holds[a] =
        (s.spotter.holds[a]).map fun h => if met h && h.oneShot then { h with armed := false } else h) ∧
      (∃ c', v.clip? k = some c' ∧ c'.framesSeen = min (c.framesSeen + 1) 4294967295 ∧
        c'.highestFrame = some (match c.highestFrame with
          | none => n
          | some h => if h.toNat < n.toNat then n else h) ∧
        c'.currentStreams = c.currentStreams.set st.val true ∧ c'.dests = c.dests ∧ c'.copyState = c.copyState ∧
        c'.look = c.look) ∧
      (∀ a y, change = true → x.currentClip = some a → s.clip? a = some y →
        ∃ y', v.clip? a = some y' ∧ y'.currentStreams = y.currentStreams.set st.val false ∧ y'.framesSeen = y.framesSeen ∧
          y'.qc = if y'.copyFaults = 0 ∧ y'.pictureFaults = 0 ∧ y'.timingFaults = 0 then .clean else .flagged) ∧
      v.spot st =
        (if change then
          { s.spot st with
            clipRed := ⟨0, false⟩, clipGreen := ⟨0, false⟩, clipBlue := ⟨0, false⟩, black := ⟨0, false⟩, candidates := [] }
        else s.spot st) ∧
      (s.spotter.log.length ≤ 125 → v.spotter.log = s.spotter.log ++ counted ++ continuity ++ missing) ∧
      (∀ y : StreamId, y ≠ st → v.stream y = s.stream y ∧ v.spot y = s.spot y) ∧ v.link = s.link ∧ v.look = s.look ∧
      v.offload = s.offload ∧ v.table.jobs = s.table.jobs ∧ v.control = s.control ∧ v.supply = s.supply ∧
      v.spotter.defectMap = s.spotter.defectMap

/-- For a PACED stream at tick 0 of an origin, with a positive rate numerator, the timer moved on K times stands at
the instant floor(K x den x 1,000,000 / num) microseconds after that first origin, however often its tick index has
returned to 0 (R136). -/
def Obligations.PacingNeverDrifts : Prop :=
  ∀ (x : Stream) (o : Word64) (n : Nat), x.origin = some o → x.tick = 0 → 0 < x.params.rateNum →
    let y := Nat.repeat Stream.nextTick n x
    y.params = x.params ∧ y.tick < x.params.rateNum ∧
    ∃ o' : Word64, y.origin = some o' ∧
      tickInstant y.params o' y.tick = o + BitVec.ofNat 64 (n * x.params.rateDen * 1000000 / x.params.rateNum)

/-- PACING_TICK without an origin does nothing; with one the timer moves to its next tick, and if a presentation is in
progress the overrun count alone rises; else a READY back buffer becomes the front one and is presented, an open
repeat run being filed first unless the stream is HELD, and an IDLE or WRITING one has the front frame presented
again. STALL_TIMER_EXPIRY without a timer does nothing; with one the timer stops, and STALL is filed with the stream,
its current clip and the timeout in ms, unless this is the first interval after a release. REGRADE_END ends a regrade
once no packet of it is left, releasing the latch; in PACED mode the back buffer is READY; a regrade-again mark starts
another. The time base stands at the timer's instant if it had not reached it (R136 to R138, R166, R167; log entry 8;
that a regrade was computed at its start and ends once no packet of it is left is the model's choice, log entry 30).
-/
def Obligations.StreamTimers : Prop :=
  ∀ (s : State) (st : StreamId), s.running = true →
    let x := s.stream st
    (x.origin = none → exec (.pacingTick st) s = .next s) ∧
    (∀ o, x.nextTick.origin = some o →
      let u := (s.advanceTo (tickInstant x.params o x.nextTick.tick)).modStream st fun _ => x.nextTick
      (x.presenting ≠ [] ∨ (s.port x.params.output.port).queueOf (.raster st) ≠ [] →
        exec (.pacingTick st) s =
          .next (u.modStream st fun y => { y with overruns := min (x.overruns + 1) 4294967295 })) ∧
      (x.presenting = [] → (s.port x.params.output.port).queueOf (.raster st) = [] →
        (x.backState = .ready →
          let v := if x.run.length = 0 ∨ x.state = .held then u
            else (u.file { kind := .outputRepeat, clip := some x.run.clip, frame := some x.run.frame, stream := some st,
                           detail := x.run.length }).modStream st fun y => { y with run := ⟨0, 0, 0⟩ }
          exec (.pacingTick st) s =
            .next ((v.modStream st fun y => { y with front := x.back, back := x.front, backState := .idle }).present st)) ∧
        (x.backState ≠ .ready → ∀ f, x.front = some f →
          exec (.pacingTick st) s =
            .next ((u.modStream st fun y =>
              { y with run :=
                  if x.state = .held then x.run
                  else if x.run.length = 0 then ⟨1, f.clip, f.number⟩
                  else ⟨x.run.length + 1, x.run.clip, x.run.frame⟩ }).present st)))) ∧
    exec (.stallTimerExpiry st) s =
      (match x.stallTimer with
      | none => .next s
      | some time =>
        let u := (s.advanceTo time).modStream st fun y => { y with stallTimer := none, stallSilent := false }
        .next (if x.stallSilent then u
          else u.file { kind := .stall, clip := x.currentClip, stream := some st, detail := x.params.stallMs })) ∧
    (x.regrading = false ∨ (x.params.mode = .streaming ∧ x.presenting ≠ []) → exec (.regradeEnd st) s = .next s) ∧
    (x.regrading = true → (x.params.mode = .streaming → x.presenting = []) →
      let u := s.modStream st fun y =>
        { y with
          latch := none
          regrading := false
          regradeAgain := false
          backState := if x.params.mode = .paced then .ready else x.backState }
      exec (.regradeEnd st) s = .next (if x.regradeAgain then u.startRegrade st else u))

/-- QC CONFIG with every value in its range replaces the stream's configuration whole, resets its four filters, marks
a processed frame being measured unjudged and keeps the candidates, in any state of the stream, and is answered DONE;
with any value out of range, or not 14 bytes, it is answered BAD_ARGUMENT. Nothing else changes (R144). -/
def Obligations.QcConfig : Prop :=
  ∀ (s : State) (p : Port) (r : Request), s.Taking p r → r.number = 0x38 →
    let u := s.takeRequest p
    exec .qcConfig s = .next
      (match r.args with
      | [st, ct, l1, l0, p1, p0, kc, bt, t1, t0, kb, h1, h0, kh] =>
        let lclip := l1.toNat * 256 + l0.toNat
        let part := p1.toNat * 256 + p0.toNat
        let tblack := t1.toNat * 256 + t0.toNat
        let hot := h1.toNat * 256 + h0.toNat
        if h : st.toNat < 2 ∧ ct.toNat ≤ 1 ∧ lclip ≤ 4095 ∧ (1 ≤ part ∧ part ≤ 1000) ∧ 1 ≤ kc.toNat ∧ bt.toNat ≤ 1 ∧
            tblack ≤ 4095 ∧ 1 ≤ kb.toNat ∧ hot ≤ 4095 ∧ 1 ≤ kh.toNat then
          let tap (b : Byte) : Tap := if b = 0 then .a else .b
          (u.modSpot ⟨st.toNat, h.1⟩ fun x =>
            { x with
              config := ⟨tap ct, lclip, part, kc.toNat, tap bt, tblack, kb.toNat, hot, kh.toNat⟩
              clipRed := ⟨0, false⟩
              clipGreen := ⟨0, false⟩
              clipBlue := ⟨0, false⟩
              black := ⟨0, false⟩
              measures := { x.measures with unjudged := x.measures.unjudged ||
                (s.stream ⟨st.toNat, h.1⟩).frame.any fun f => !f.refused } }).answered p r .done []
        else u.answered p r .badArgument []
      | _ => u.answered p r .badArgument [])

/-- HOLD SET sets a point, armed, with its stream, condition and one-shot flag; HOLD CLEAR frees a set point and
answers NOT_FOUND on a free one. HOLD RELEASE of a WAITING or RUNNING stream with a hold pending clears the mark and
returns 1; of a HELD stream it releases it and returns 0; else it answers WRONG_STATE; nothing else changes. A release
ends a regrade (latch and marks gone; in PACED mode the back buffer IDLE, in STREAMING mode no more of its packets);
makes a finalisation that waits; in PACED mode sets the origin to now and k to 0, whose tick presents a READY back
buffer, the buffers exchanging roles, or the front frame again, or is an overrun, no repeat being opened, lengthened
or filed; starts the stall timer, whose first interval files nothing; and makes the stream RUNNING. In STREAMING mode
the buffer of the last taken packet is then freed, with its credit, if that packet's own outgoing packet has gone,
though a packet of a regrade waits in the send queue (that it was kept during the hold is log entry 20). The packets
that waited are then taken as RASTER_TAKEN takes them, each restarting the stall timer (R7, R129, R132, R164, R167,
R168). -/
def Obligations.HoldRequests : Prop :=
  (∀ (s : State) (p : Port) (r : Request), s.Taking p r →
    let u := s.takeRequest p
    (r.number = 0x48 →
      exec .holdSet s = .next
        (match r.args with
        | [pt, st, ty, c1, c0, f3, f2, f1, f0, k, one] =>
          let clip := c1.toNat * 256 + c0.toNat
          let cond : Option HoldCondition :=
            if ty = 0 then if clip ≤ 511 then some (.frame clip (f3 ++ f2 ++ f1 ++ f0)) else none
            else if ty = 1 then
              ([.hotPixel, .clipping, .blackFrame, .hotScanSaturated, .lookMissing, .lineGap, .geometry, .notSecured,
                .droppedFrames, .outOfOrder, .frameCount, .duplicateFrame, .stall, .outputRepeat].find?
                  fun (x : FaultKind) => x.code == k.toNat).map HoldCondition.fault
            else none
          if h : pt.toNat < 4 ∧ st.toNat < 2 ∧ one.toNat ≤ 1 then
            match cond with
            | none => u.answered p r .badArgument []
            | some c =>
              ({ u with spotter :=
                  { u.spotter with
                    holds := s.spotter.holds.set pt.toNat (some ⟨⟨st.toNat, h.2.1⟩, c, one = 1, true⟩) h.1 } }).answered p r .done []
          else u.answered p r .badArgument []
        | _ => u.answered p r .badArgument [])) ∧
    (r.number = 0x49 →
      exec .holdClear s = .next
        (match r.args with
        | [pt] =>
          if h : pt.toNat < 4 then
            if s.spotter.holds[pt.toNat] = none then u.answered p r .notFound []
            else
              ({ u with spotter := { u.spotter with holds := s.spotter.holds.set pt.toNat none h } }).answered p r .done []
          else u.answered p r .badArgument []
        | _ => u.answered p r .badArgument [])) ∧
    (r.number = 0x4A →
      exec .holdRelease s = .next
        (match r.args with
        | [a] =>
          if h : a.toNat < 2 then
            let st : StreamId := ⟨a.toNat, h⟩
            if (s.stream st).state = .held then (u.releaseHold st).answered p r .done [0]
            else if ((s.stream st).state = .waiting ∨ (s.stream st).state = .running) ∧
                (s.stream st).holdPending = true then
              (u.modStream st fun x => { x with holdPending := false }).answered p r .done [1]
            else u.answered p r .wrongState []
          else u.answered p r .badArgument []
        | _ => u.answered p r .badArgument []))) ∧
  (∀ (s : State) (st : StreamId), (s.stream st).state = .held →
    let x := s.stream st
    let out := x.params.output.port
    let idle : Prop := x.presenting = [] ∧ (s.port out).queueOf (.raster st) = []
    ∃ u : State, s.releaseHold st = State.takeWaiting st x.queue.length u ∧
      (let y := u.stream st
       y.state = .running ∧ y.params = x.params ∧ y.holdPending = false ∧ y.heldFrame = none ∧ y.regrading = false ∧
       y.queue = x.queue.map (fun pk => { pk with waitedRelease := true }) ∧
       (x.regrading = true → y.latch = none ∧ y.regradeAgain = false ∧
         (x.params.mode = .paced → y.backState = .idle) ∧ (x.params.mode = .streaming → y.presenting = [])) ∧
       y.finaliseWaiting = false ∧ (x.finaliseWaiting = true → y.currentClip = none) ∧
       (x.finaliseWaiting = false → y.currentClip = x.currentClip ∧ u.table = s.table) ∧
       (∀ k c, x.finaliseWaiting = true → x.currentClip = some k → s.clip? k = some c →
         ∃ c', u.clip? k = some c' ∧ c'.currentStreams = c.currentStreams.set st.val false ∧
           c'.qc = (if c'.copyFaults = 0 ∧ c'.pictureFaults = 0 ∧ c'.timingFaults = 0 then .clean else .flagged)) ∧
       (x.params.mode = .paced →
         y.origin = some s.supply.timeBase ∧ y.tick = 0 ∧
         (¬ idle → y.overruns = min (x.overruns + 1) 4294967295 ∧ y.front = x.front) ∧
         (idle →
           let shown := if x.backState = .ready ∧ x.regrading = false then x.back else x.front
           y.front = shown ∧
           (x.backState = .ready → x.regrading = false → y.back = x.front ∧ y.backState = .idle) ∧
           ∀ f, shown = some f → s.isUp out = true →
             (u.port out).queueOf (.raster st) ++ y.presenting = f.packets st x.params)) ∧
       (x.params.mode = .streaming →
         let waits : Prop := (s.port out).queueOf (.raster st) ≠ []
         (x.inHand = none → y.inHand = none ∧ u.link = s.link) ∧
         ∀ b, x.inHand = some b →
           (b.outputGone = false → waits → y.inHand = some b ∧ u.link = s.link) ∧
           (b.outputGone = true ∨ ¬ waits → y.inHand = none ∧
             (x.params.decoder.port ≠ b.port ∨ (s.port b.port).link ≠ .up → u.link = s.link) ∧
             (x.params.decoder.port = b.port → (s.port b.port).link = .up →
               let k : Fin 4 := if st = 0 then 2 else 3
               u.link = (s.modPort b.port fun z =>
                 { z with
                   receive := z.receive.set k.val ⟨z.receive[k].total + 1, z.receive[k].count⟩ k.isLt
                   creditDue := true }).link))) ∧
       y.run = x.run ∧ y.stallSilent = true ∧
       y.stallTimer = some (s.supply.timeBase + BitVec.ofNat 64 (x.params.stallMs * 1000)) ∧
       ∀ z : StreamId, z ≠ st → u.stream z = s.stream z)) ∧
  ∀ (s : State) (st : StreamId) (n : Nat), State.takeWaiting st 0 s = s ∧
    State.takeWaiting st (n + 1) s = State.takeWaiting st n (s.takeRaster st) ∧
    (s.running = true → exec (.rasterTaken st) s = .next (s.takeRaster st))

/-- DEFECT ADD inserts a site in its sorted place, answers "already present" for one in the map and FULL at 1024;
DEFECT REMOVE takes a site out or answers NOT_FOUND; DEFECT PROMOTE inserts a candidate of a stream under its current
clip's camera tag, answering WRONG_STATE without a current clip, NOT_FOUND without the candidate and FULL at 1024. An
insertion removes the candidate at the coordinate from the table of every stream whose current clip has the tag.
Values out of range are answered BAD_ARGUMENT; each reply ends with the number of map entries; nothing else changes
(R155 to R157). -/
def Obligations.DefectMapRequests : Prop :=
  ∀ (s : State) (p : Port) (r : Request), s.Taking p r →
    let u := s.takeRequest p
    let map := s.spotter.defectMap
    let key (d : DefectSite) : Nat := (d.tag * 4096 + d.line) * 4096 + d.column
    let tagOf (st : StreamId) : Option Nat := ((s.stream st).currentClip.bind s.clip?).map (·.cameraTag)
    let grown (d : DefectSite) : List DefectSite :=
      map.filter (fun x => key x < key d) ++ d :: map.filter fun x => key d < key x
    let inserted (d : DefectSite) : State :=
      { u with spotter :=
        { u.spotter with
          defectMap := grown d
          streams := Vector.ofFn fun st : StreamId =>
            { s.spot st with
              candidates :=
                if tagOf st = some d.tag then
                  (s.spot st).candidates.filter fun c => !(c.line == d.line && c.column == d.column)
                else (s.spot st).candidates } } }
    (r.number = 0x39 →
      exec .defectAdd s = .next
        (match r.args with
        | [t, l1, l0, c1, c0] =>
          let d : DefectSite := ⟨t.toNat, l1.toNat * 256 + l0.toNat, c1.toNat * 256 + c0.toNat⟩
          if 15 < d.tag ∨ 2303 < d.line ∨ 4095 < d.column then u.answered p r .badArgument []
          else if d ∈ map then u.answered p r .done (1 :: beBytes 2 map.length)
          else if 1024 ≤ map.length then u.answered p r .full []
          else (inserted d).answered p r .done (0 :: beBytes 2 (grown d).length)
        | _ => u.answered p r .badArgument [])) ∧
    (r.number = 0x3A →
      exec .defectRemove s = .next
        (match r.args with
        | [t, l1, l0, c1, c0] =>
          let d : DefectSite := ⟨t.toNat, l1.toNat * 256 + l0.toNat, c1.toNat * 256 + c0.toNat⟩
          let left := map.filter fun x => x != d
          if 15 < d.tag ∨ 2303 < d.line ∨ 4095 < d.column then u.answered p r .badArgument []
          else if d ∉ map then u.answered p r .notFound []
          else ({ u with spotter := { u.spotter with defectMap := left } }).answered p r .done (beBytes 2 left.length)
        | _ => u.answered p r .badArgument [])) ∧
    (r.number = 0x3B →
      exec .defectPromote s = .next
        (match r.args with
        | [a, l1, l0, c1, c0] =>
          let line := l1.toNat * 256 + l0.toNat
          let column := c1.toNat * 256 + c0.toNat
          if h : a.toNat < 2 ∧ line ≤ 2303 ∧ column ≤ 4095 then
            match tagOf ⟨a.toNat, h.1⟩ with
            | none => u.answered p r .wrongState []
            | some tag =>
              if ∀ c ∈ (s.spot ⟨a.toNat, h.1⟩).candidates, ¬ (c.line = line ∧ c.column = column) then
                u.answered p r .notFound []
              else if 1024 ≤ map.length then u.answered p r .full []
              else
                (inserted ⟨tag, line, column⟩).answered p r .done
                  (byteOf tag :: beBytes 2 (grown ⟨tag, line, column⟩).length)
          else u.answered p r .badArgument []
        | _ => u.answered p r .badArgument []))

/-- FAULT TAKE of n from 1 to 128 and a flag removes the oldest entries, up to n, and returns their number, the number
left, the overflow count before the request and the entries, oldest first; with the flag the overflow count is then 0;
a notice that carries an entry left in the log goes on carrying it, and one whose entry went carries none (log entry
32). CLIP CLEAR FAULTS of an allocated clip sets its three counts to 0 and its QC state to UNCHECKED and returns what
they were; a clip current on a HELD stream opened without permission is answered HELD. Values out of range are
answered BAD_ARGUMENT, a free clip NOT_FOUND; nothing else changes (R29, R161, R163). -/
def Obligations.FaultTakeAndClear : Prop :=
  ∀ (s : State) (p : Port) (r : Request), s.Taking p r →
    let u := s.takeRequest p
    (r.number = 0x3E →
      exec .faultTake s = .next
        (match r.args with
        | [n, flag] =>
          if 1 ≤ n.toNat ∧ n.toNat ≤ 128 ∧ flag.toNat ≤ 1 then
            let log := s.spotter.log
            let left := log.length - n.toNat
            ({ u with
              spotter := { u.spotter with
                log := log.drop n.toNat
                overflow := if flag = 1 then 0 else s.spotter.overflow }
              control := { u.control with
                notice := match s.control.notice with
                  | .none => .none
                  | .orphan => .orphan
                  | .carrying k => if k < log.length - left then .orphan else .carrying (k - (log.length - left)) }
              }).answered p r .done
              ([byteOf (log.length - left), byteOf left] ++ beBytes 4 s.spotter.overflow ++
                (log.take n.toNat).flatMap FaultEntry.bytes)
          else u.answered p r .badArgument []
        | _ => u.answered p r .badArgument [])) ∧
    (r.number = 0x40 →
      exec .clipClearFaults s = .next
        (match r.args with
        | [a, b] =>
          let n := a.toNat * 256 + b.toNat
          if 511 < n then u.answered p r .badArgument []
          else
            match s.clip? n with
            | none => u.answered p r .notFound []
            | some c =>
              if ∃ st : StreamId, (s.stream st).state = .held ∧ (s.stream st).currentClip = some n ∧
                  (s.stream st).params.clearWhileHeld = false then
                u.answered p r .held []
              else
                (u.setClip n (some { c with copyFaults := 0, pictureFaults := 0, timingFaults := 0, qc := .unchecked })).answered
                  p r .done
                  (beBytes 2 c.copyFaults ++ beBytes 2 c.pictureFaults ++ beBytes 2 c.timingFaults ++ [byteOf c.qc.code])
        | _ => u.answered p r .badArgument []))

/-- RAIL_LEVEL_CHANGE on a running part sets the level and keeps, starts or stops each filter as its condition holds
or not, and changes nothing else. When the WARN entry filter ends, 20 us after its condition began, the state is WARN,
the resume timer stops, SUPPLY_WARN is filed with the WARN level, and with action QUIESCE the SUPPLY reason is added;
when the WARN clear filter ends, after 2 ms, the state is RECOVERING with the resume timer set, and the reason goes;
when that timer ends in RECOVERING the state is NORMAL. A filter or timer that does not run does nothing (R172; the
time base moves to the filter's end, log entry 8). While a brownout holds the part, every command other than
RAIL_LEVEL_CHANGE, BROWNOUT_RESTART and POWER_ON_RESTART completes and changes nothing. R173 stops every block then;
that an event which comes all the same changes nothing at all is the model's choice, log entry 17 (R173). -/
def Obligations.SupplyMonitor : Prop :=
  (∀ s : State, s.running = true →
    let refreshed (x : SupplyUnit) : SupplyUnit :=
      { x with
        warnEntry := if x.state ≠ .warn ∧ x.rail < x.options.warnMv then some (x.warnEntry.getD x.timeBase) else none
        warnClear := if x.state = .warn ∧ x.options.warnMv + 50 < x.rail then some (x.warnClear.getD x.timeBase) else none
        crit := if x.rail < x.options.critMv then some (x.crit.getD x.timeBase) else none }
    (∀ mv, exec (.railLevelChange mv) s = .next { s with supply := refreshed { s.supply with rail := mv } }) ∧
    (s.supply.warnEntry = none → exec .warnEntryFilter s = .next s) ∧
    (∀ time, s.supply.warnEntry = some time →
      let t := s.advanceTo (time + 20)
      let t : State := State.file { t with supply := refreshed { t.supply with state := .warn, resumeTimer := none } }
        { kind := .supplyWarn, detail := s.supply.options.warnMv }
      exec .warnEntryFilter s =
        .next (if s.supply.options.quiesce then State.engineSettle { t with offload := { t.offload with pauseSupply := true } }
          else t)) ∧
    (s.supply.warnClear = none → exec .warnClearFilter s = .next s) ∧
    (∀ time, s.supply.warnClear = some time →
      let t := s.advanceTo (time + 2000)
      let timer := t.supply.timeBase + if s.supply.options.resumeLong then 50000 else 1000
      let t : State := { t with supply := refreshed { t.supply with state := .recovering, resumeTimer := some timer } }
      exec .warnClearFilter s =
        .next (if s.supply.options.quiesce then State.engineSettle { t with offload := { t.offload with pauseSupply := false } }
          else t)) ∧
    (s.supply.resumeTimer = none → exec .supplyResumeTimer s = .next s) ∧
    ∀ time, s.supply.resumeTimer = some time → s.supply.state = .recovering →
      let t := s.advanceTo time
      exec .supplyResumeTimer s =
        .next { t with supply := refreshed { t.supply with state := .normal, resumeTimer := none } }) ∧
  ∀ (s : State) (c : Instr), s.running = false → (∀ mv, c ≠ .railLevelChange mv) →
    (∀ b, c ≠ .brownoutRestart b) → (∀ b, c ≠ .powerOnRestart b) → exec c s = .next s

/-- When the CRIT filter of a running part ends, 5 us after its condition began, the part is held, with the supply
state it was in, nothing leaves any port, and no other part of the block's state changes. While held,
RAIL_LEVEL_CHANGE sets the level and keeps, starts or stops the timing of the restart delay as the rail stands above
the CRIT level plus 50 mV or not. BROWNOUT_RESTART does nothing on a running part or while the delay is not being
timed. POWER_ON_RESTART does nothing while the rail is not above 3.00 V (R172, R173, R175; that the filter's end
leaves the rest of the state for the restart to clear, and that a restart row waits for the delay or the rail, is the
model's choice, log entry 17; the time base stands at the filter's end, log entry 8). POWER_ON_RESTART with the rail
above 3.00 V leaves the state State.reset, but for what the option block gives: the copy in use and the defaulted
mark, the port role table and the notice port; and for the rail, whose level stays and, below a level of the copy,
starts its filter at time 0. The commands that wait and the model's count of free values go on. The options are the
block's when it is read, holds valid codes, and leaves the notice port with CONTROL, else the default ones (R170,
R175; that the row is taken from any state is log entry 17, and what State.reset chooses log entries 3 and 5). -/
def Obligations.HoldAndPowerOn : Prop :=
  (∀ s : State,
    (s.running = true → s.supply.crit = none → exec .critFilter s = .next s) ∧
    (∀ time, s.running = true → s.supply.crit = some time →
      let t := s.advanceTo (time + 5)
      exec .critFilter s =
        .next { t with
          link := { t.link with ports := s.link.ports.map fun (x : PortState) => { x with transmitting := none, wire := [] } }
          supply := { t.supply with
            power := .held s.supply.state
              (if s.supply.options.critMv + 50 < s.supply.rail then some t.supply.timeBase else none) } }) ∧
    (∀ was since mv, s.supply.power = .held was since →
      exec (.railLevelChange mv) s =
        .next { s with supply :=
          { s.supply with
            rail := mv
            power := .held was
              (if s.supply.options.critMv + 50 < mv then some (since.getD s.supply.timeBase) else none) } }) ∧
    (∀ block, (s.running = true ∨ ∃ was, s.supply.power = .held was none) → exec (.brownoutRestart block) s = .next s) ∧
    ∀ block, s.supply.rail ≤ 3000 → exec (.powerOnRestart block) s = .next s) ∧
  ∀ (s : State) (block : Option (List Byte)), 3000 < s.supply.rail →
    let o := (validOptions block).getD Options.default
    exec (.powerOnRestart block) s =
      .next { State.reset with
        link := ⟨o.roles.map fun (x : BitVec 5) => PortState.reset .down x, []⟩
        control := ControlUnit.reset o.noticePort
        supply := { SupplyUnit.reset with
          rail := s.supply.rail
          options := o
          defaulted := (validOptions block).isNone
          warnEntry := if s.supply.rail < o.warnMv then some 0 else none
          warnClear := none
          crit := if s.supply.rail < o.critMv then some 0 else none }
        pending := s.pending
        freeCount := s.freeCount }

/-- After SOFT_RESTART_EXECUTE of a running part whose soft restart is ready, and after BROWNOUT_RESTART of a held
part whose delay is timed: every port is TRAINING with its roles; endpoints are RELEASED where they were RELEASED or
DRAINING, else OFFLINE; IDENTIFYING and ACTIVE jobs are SUSPENDED with RESTART; COPYING clips are WAITING, IN_PROGRESS
records PENDING or, at a RELEASED endpoint of a job not CANCELLED, DEFERRED, attempts 0; defect map kept; looks,
streams, channels, hold points and queues as after power-on; supply NORMAL, notice port the options'. A soft restart
adds SOFT, keeps log and options, and starts the time base at 0; a brownout adds BROWNOUT, reads the block, and files
BROWNOUT at the free time of log entry 1 (R173, R174). That the parameters and the graded resolution of the streams
are not kept is log entry 5, and that BROWNOUT_RESTART acts whenever the delay is timed log entry 17. -/
def Obligations.RestartKeeps : Prop :=
  ∀ s : State,
    let released (e : EpName) : Prop :=
      ∃ x, s.endpoint? e = some x ∧ (x.state = .released ∨ x.state = .draining)
    let kept (t : State) : Prop :=
      (∀ p : Port, t.port p = PortState.reset .training (s.port p).roles) ∧
      t.link.endpoints = s.link.endpoints.map (fun e =>
        { e with state := if e.state = .released ∨ e.state = .draining then .released else .offline }) ∧
      (∀ n, t.job? n = (s.job? n).map fun j =>
        if j.state = .identifying ∨ j.state = .active then
          { j with state := .suspended, suspend := some .restart, standing := none }
        else j) ∧
      (∀ k c, s.clip? k = some c → ∃ ds : List DestRecord, t.clip? k = some { c with
          copyState := if c.copyState = .copying then .waiting else c.copyState
          currentStreams := #v[false, false]
          dests := ds } ∧ ds.length = c.dests.length ∧
        ∀ (i : Nat) (d : DestRecord), c.dests[i]? = some d →
          let unfinished : Prop := d.state = .pending ∨ d.state = .inProgress
          let cancelled : Prop := ∃ j, s.job? c.job = some j ∧ j.state = .cancelled
          (unfinished → released d.endpoint → ¬ cancelled →
            ds[i]? = some { d with state := .deferred, reason := none, attempts := 0 }) ∧
          (unfinished → (¬ released d.endpoint ∨ cancelled) → ds[i]? = some { d with state := .pending, attempts := 0 }) ∧
          (¬ unfinished → ds[i]? = some { d with attempts := 0 })) ∧
      t.table.admission = s.table.admission ∧ t.spotter.defectMap = s.spotter.defectMap ∧
      t.look = State.reset.look ∧ t.review = State.reset.review ∧ t.offload = State.reset.offload ∧
      t.spotter.streams = State.reset.spotter.streams ∧ t.spotter.holds = State.reset.spotter.holds ∧
      t.control = ControlUnit.reset t.supply.options.noticePort ∧ t.supply.state = .normal ∧ t.supply.rail = s.supply.rail ∧
      t.running = true ∧ t.pending = s.pending
    (s.running = true → s.control.softRestart = .ready →
      ∃ t, exec .softRestartExecute s = .next t ∧ kept t ∧ t.spotter.log = s.spotter.log ∧
        t.spotter.overflow = s.spotter.overflow ∧ t.supply.timeBase = 0 ∧ t.supply.options = s.supply.options ∧
        t.supply.defaulted = s.supply.defaulted ∧ t.supply.resetCause = { s.supply.resetCause with soft := true } ∧
        t.freeCount = s.freeCount) ∧
    ∀ was time block, s.supply.power = .held was (some time) →
      ∃ t, exec (.brownoutRestart block) s = .next t ∧ kept t ∧
        t.supply.timeBase = Config.brownoutFilingTime s.freeCount ∧ t.freeCount = s.freeCount + 1 ∧
        t.supply.options = (validOptions block).getD Options.default ∧
        t.supply.defaulted = (validOptions block).isNone ∧
        t.supply.resetCause = { s.supply.resetCause with brownout := true } ∧
        (s.spotter.log.length < 128 → t.spotter.log = s.spotter.log ++
          [⟨.brownout, Config.brownoutFilingTime s.freeCount, none, none, none, none, none,
            BitVec.ofNat 32 was.code, false⟩])

/-- From every state in which each port that is DOWN or TRAINING has empty send queues, no frame in transmission, no
outstanding or waiting ask, every credit zero, no credit frame due and no credit timer, a step that answers a next
state leaves such a state (R1, R2, R9, R16). -/
def Obligations.StepKeepsDownPorts : Prop :=
  ∀ s t : State, s.downIdle → step s = .next t → t.downIdle

/-- RASTER_TAKEN of a packet without FRAME_START while a frame is in progress: another clip or frame number: it is a
stray, counted. A refused frame: it is discarded, and FRAME_END ends the frame. Else its lines are taken, CLIP_END is
noted for the frame, and FRAME_END ends the frame. Of this and of the packet that started the frame: lines of another
width, beyond the height, or before the next expected line are discarded, with GEOMETRY filed once for the frame, its
mark set and nothing reaching the spotter. Other lines are appended to the source buffer with their numbers and
graded; the next expected line moves past them; missing lines before them set the gap mark, filing LINE_GAP once,
first. In PACED mode the back buffer receives black for the missing lines, then the graded ones, and the raster buffer
is freed; in STREAMING mode, on an output port that is UP, one outgoing packet is queued with the same header, DAMAGED
beside FRAME_END if the frame is damaged, and the raster buffer is kept until it has gone. The spotter's clipped
counts and luma sum rise by the codes at the taps configured (R129, R132, R135, R146, R147, section 1.7; DAMAGED tells
of the marks as they stand when the packet is formed, log entry 21). -/
def Obligations.RasterLines : Prop :=
  (∀ (s : State) (st : StreamId) (pk : RasterPacket) (rest : List RasterPacket) (f : FrameInProgress),
    s.running = true →
    let x := s.stream st
    (x.state = .waiting ∨ x.state = .running) →
    (x.params.mode = .streaming → x.presenting = [] ∧ (s.port x.params.output.port).queueOf (.raster st) = []) →
    x.queue = pk :: rest → x.frame = some f → pk.frameStart = false →
    let u := s.modStream st fun y =>
      { y with
        queue := rest
        stallSilent := false
        stallTimer :=
          if pk.waitedRelease then some (s.supply.timeBase + BitVec.ofNat 64 (x.params.stallMs * 1000)) else x.stallTimer }
    (f.clip ≠ pk.clip ∨ f.number ≠ pk.frame →
      exec (.rasterTaken st) s =
        .next ((u.modStream st fun z => { z with stray := min (x.stray + 1) 4294967295 }).freeRaster st pk.port)) ∧
    (f.clip = pk.clip → f.number = pk.frame → f.refused = true →
      let v := u.freeRaster st pk.port
      exec (.rasterTaken st) s = .next (if pk.frameEnd then v.endFrame st else v)) ∧
    (f.clip = pk.clip → f.number = pk.frame → f.refused = false →
      let t := u.takeLines st pk
      let v := if pk.clipEnd then t.modStream st fun z => { z with frame := z.frame.map fun g => { g with clipEnd := true } }
        else t
      exec (.rasterTaken st) s = .next (if pk.frameEnd then v.endFrame st else v))) ∧
  ∀ (s : State) (st : StreamId) (pk : RasterPacket) (f : FrameInProgress),
    let x := s.stream st
    x.frame = some f → f.refused = false →
    (x.params.mode = .streaming → x.presenting = [] ∧ (s.port x.params.output.port).queueOf (.raster st) = []) →
    (x.params.mode = .streaming → x.state ≠ .held) →
    let t := s.takeLines st pk
    let y := t.stream st
    let p := x.params
    let entry (kind : FaultKind) (detail : Nat) : FaultEntry :=
      ⟨kind, s.supply.timeBase, some f.clip, some f.number, none, none, some st, BitVec.ofNat 32 detail, false⟩
    y.queue = x.queue ∧ (∀ z : StreamId, z ≠ st → t.stream z = s.stream z ∧ t.spot z = s.spot z) ∧
    (pk.width ≠ p.width ∨ p.height < pk.firstLine + pk.lines.length ∨ pk.firstLine < f.next →
      y.frame = some { f with geometry := true, damaged := f.damaged || !f.geometry } ∧
        (s.spotter.log.length < 128 → t.spotter.log = s.spotter.log ++
          (if f.geometry then [] else [entry .geometry (pk.firstLine + 65536 * pk.width)])) ∧
        y.source = x.source ∧ y.back = x.back ∧ t.spotter.streams = s.spotter.streams ∧
        t.link = (s.freeRaster st pk.port).link) ∧
    (pk.width = p.width → pk.firstLine + pk.lines.length ≤ p.height → f.next ≤ pk.firstLine →
      let gap : Bool := f.next < pk.firstLine
      let lines : List (Nat × List Rgb) := pk.lines.zipIdx.map fun li => (pk.firstLine + li.2, li.1)
      let graded : List (List Rgb) :=
        lines.map fun nl => gradeLine (s.bankOf x.graded) p.encoding x.concealment nl.1 nl.2
      (∃ z, y.frame = some z ∧ z.clip = f.clip ∧ z.number = f.number ∧ z.refused = false ∧
        z.next = pk.firstLine + pk.lines.length ∧ z.gap = (f.gap || gap) ∧ z.geometry = f.geometry ∧
        z.clipEnd = f.clipEnd ∧ (f.damaged = true ∨ (gap = true ∧ f.gap = false) → z.damaged = true) ∧
        ((s.spot st).config.hotThreshold = 0 → z.damaged = (f.damaged || (gap && !f.gap))) ∧
        (p.mode = .streaming → s.isUp p.output.port = true →
          y.presenting = [] ∧ y.inHand = some ⟨pk.port, false⟩ ∧
          (t.port p.output.port).queueOf (.raster st) =
            [{ kind := .raster
               endpoint := p.output.id
               stream := st.val
               tag := 0
               payload := beBytes 2 f.clip ++ beBytes 4 f.number.toNat ++ beBytes 2 pk.firstLine ++
                 [byteOf pk.lines.length] ++ beBytes 2 pk.width ++
                 [byteOf ((if pk.frameStart then 1 else 0) + (if pk.frameEnd then 2 else 0) + (if pk.clipEnd then 4 else 0) +
                   (if pk.frameEnd && z.damaged then 8 else 0))] ++
                 (graded.flatten.map fun c => beBytes 2 c.r ++ beBytes 2 c.g ++ beBytes 2 c.b).flatten
               owner := .raster st }])) ∧
      (s.spotter.log.length < 128 → ∃ hot : List FaultEntry, t.spotter.log = s.spotter.log ++
        (if gap && !f.gap then [entry .lineGap f.next] else []) ++ hot ∧ ∀ e ∈ hot, e.kind = .hotPixel ∨
          e.kind = .hotScanSaturated) ∧
      y.source = x.source ++ lines ∧
      (p.mode = .paced → t.link = (s.freeRaster st pk.port).link ∧ ∀ g, x.back = some g →
        y.back = some { g with
          lines := g.lines ++
            List.replicate (if gap then pk.firstLine - g.lines.length else 0) (blackLine p.encoding p.width) ++ graded }) ∧
      (p.mode = .streaming → s.isUp p.output.port = false → y.presenting = [] ∧ y.inHand = none) ∧
      (let old := (s.spot st).measures
       let now := (t.spot st).measures
       let tap (k : Tap) : List (List Rgb) := if k = .a then pk.lines else graded
       let count (c : Rgb → Nat) : Nat := ((tap (s.spot st).config.clipTap).map fun l =>
         (l.filter fun q => (s.spot st).config.clipLevel ≤ c q).length).sum
       now.clipped = ⟨old.clipped.r + count (·.r), old.clipped.g + count (·.g), old.clipped.b + count (·.b)⟩ ∧
       now.lumaSum = old.lumaSum + ((tap (s.spot st).config.blackTap).map fun l => (l.map luma).sum).sum ∧
       now.unjudged = old.unjudged))

/-- A refused frame in progress simply ends. The end of a processed one: lines missing before the height file LINE_GAP
with the next expected line, unless the gap mark is set, and damage the frame. In PACED mode the back buffer, filled
with black to the height and with the frame's damaged mark, is READY while an origin is set; with none, the origin is
now, the tick index 0, and, no presentation being in progress, the buffers exchange roles and the frame is presented.
The latch is released and the measures are cleared. A stream with its hold-pending mark set is HELD, the mark clear,
the frame held with its damaged mark as stage 1 found it (that no fault of stage 3 sets it is log entry 44), no stall
timer, no open repeat run, and its clip current, the finalisation of a CLIP_END waiting. With the mark clear and no
armed point of the stream the state stays, and CLIP_END alone removes the current clip. A packet with FRAME_START
first ends the frame in progress; if that holds the stream the packet waits first in its queue, else it is taken as if
no frame had been in progress (R129, R130, R133, R134, R136, R166; that the packet waits is log entry 11). -/
def Obligations.FrameEnds : Prop :=
  (∀ (s : State) (st : StreamId) (f : FrameInProgress), (s.stream st).frame = some f →
    let x := s.stream st
    let p := x.params
    let out := p.output.port
    let t := s.endFrame st
    let y := t.stream st
    let missing : Bool := f.next < p.height
    let hurt : Bool := f.damaged || (missing && !f.gap)
    (f.refused = true → t = s.modStream st fun z => { z with frame := none }) ∧
    (f.refused = false →
      y.frame = none ∧ y.latch = none ∧ y.params = p ∧ y.queue = x.queue ∧
      (t.spot st).measures = ⟨⟨0, 0, 0⟩, 0, 0, false, false⟩ ∧
      (∀ z : StreamId, z ≠ st → t.stream z = s.stream z ∧ t.spot z = s.spot z) ∧ t.look = s.look ∧
      t.offload = s.offload ∧ t.supply = s.supply ∧
      (missing = true → f.gap = false → s.spotter.log.length < 128 → ∃ more : List FaultEntry,
        t.spotter.log = s.spotter.log ++ ⟨.lineGap, s.supply.timeBase, some f.clip, some f.number, none, none, some st,
          BitVec.ofNat 32 f.next, false⟩ :: more) ∧
      (p.mode = .paced → ∀ g, x.back = some g →
        let done : GradedFrame := { g with
          damaged := hurt
          lines := g.lines ++
            List.replicate (if missing then p.height - g.lines.length else 0) (blackLine p.encoding p.width) }
        (∀ o, x.origin = some o → y.origin = some o ∧ y.tick = x.tick ∧ y.backState = .ready ∧ y.back = some done ∧
          y.front = x.front) ∧
        (x.origin = none → y.origin = some s.supply.timeBase ∧ y.tick = 0 ∧
          (x.presenting = [] → (s.port out).queueOf (.raster st) = [] →
            y.front = some done ∧ y.back = x.front ∧ y.backState = .idle ∧
              (s.isUp out = true →
                (t.port out).queueOf (.raster st) ++ y.presenting = done.packets st p)))) ∧
      (x.holdPending = true →
        y.state = .held ∧ y.holdPending = false ∧ y.heldFrame = some ⟨f.clip, f.number, hurt⟩ ∧ y.stallTimer = none ∧
          y.run.length = 0 ∧ y.currentClip = x.currentClip ∧ y.lastFrame = x.lastFrame ∧
          y.finaliseWaiting = (f.clipEnd || x.finaliseWaiting)) ∧
      (x.holdPending = false → x.state ≠ .held →
        (∀ h : HoldPoint, some h ∈ s.spotter.holds.toList → h.stream = st → h.armed = false) →
        y.state = x.state ∧ y.holdPending = false ∧ y.stallTimer = x.stallTimer ∧
          (f.clipEnd = true → y.currentClip = none ∧ (x.currentClip ≠ none → y.lastFrame = none) ∧
            ∀ k c, x.currentClip = some k → s.clip? k = some c →
              ∃ c', t.clip? k = some c' ∧ c'.currentStreams = c.currentStreams.set st.val false) ∧
          (f.clipEnd = false → y.currentClip = x.currentClip ∧ y.lastFrame = x.lastFrame)))) ∧
  ∀ (s : State) (st : StreamId) (pk : RasterPacket) (rest : List RasterPacket) (f : FrameInProgress),
    s.running = true →
    let x := s.stream st
    (x.state = .waiting ∨ x.state = .running) →
    (x.params.mode = .streaming → x.presenting = [] ∧ (s.port x.params.output.port).queueOf (.raster st) = []) →
    x.queue = pk :: rest → x.frame = some f → pk.frameStart = true →
    let u := s.modStream st fun y =>
      { y with
        queue := rest
        stallSilent := false
        stallTimer :=
          if pk.waitedRelease then some (s.supply.timeBase + BitVec.ofNat 64 (x.params.stallMs * 1000)) else x.stallTimer }
    let ended := (u.endFrame st).modStream st fun y => { y with queue := pk :: rest }
    exec (.rasterTaken st) s = if (ended.stream st).state = .held then .next ended else exec (.rasterTaken st) ended

/-- A line adds to each clipped count its codes at or above the clip level at the clipping tap, and to the luma sum
its lumas at the black tap. With a hot threshold above 0 its detections are, at tap A, the pixels between the first
and last columns whose code exceeds both neighbours' by the threshold or more in a channel and which the map does not
hold under the current clip's tag; they are taken by ascending column (log entry 40). Detections 1 to 256 of a frame
give the site's entry its count, frame number and seen mark: one more, to 255, after the frame before, else 1. With
K_hot reached and no reported mark, HOT_PIXEL is filed with the coordinate and channels, the mark is set, and the
frame in progress it names is damaged. The other entries stay, but when 64 others fill the table the one of lowest
count goes, then of furthest frame, then of lowest line and column; the table stays in order. Detection 257 files
HOT_SCAN_SATURATED with detail 256 and sets the saturated mark; later ones do nothing (R131, R146, R147, R149 to
R152). -/
def Obligations.SpotterLines : Prop :=
  (∀ (s : State) (st : StreamId) (clip : Nat) (frame : Word32) (line : Nat) (tapA tapB : List Rgb),
    let x := s.spot st
    let clipping := if x.config.clipTap = .a then tapA else tapB
    let black := if x.config.blackTap = .a then tapA else tapB
    let count (c : Rgb → Nat) : Nat := (clipping.filter fun q => x.config.clipLevel ≤ c q).length
    s.spotLine st clip frame line tapA tapB =
      (detections x.config.hotThreshold s.spotter.defectMap (s.currentTag st) line tapA).foldl
        (fun v cm => v.takeDetection st clip frame line cm.1 cm.2)
        (s.modSpot st fun y => { y with
          measures := { y.measures with
            clipped := ⟨y.measures.clipped.r + count (·.r), y.measures.clipped.g + count (·.g),
              y.measures.clipped.b + count (·.b)⟩
            lumaSum := y.measures.lumaSum + (black.map luma).sum } })) ∧
  (∀ (h : Nat) (map : List DefectSite) (tag : Option Nat) (line : Nat) (codes : List Rgb),
    let found := detections h map tag line codes
    found.Pairwise (fun a b => a.1 < b.1) ∧
    ∀ col mask : Nat, (col, mask) ∈ found ↔
      0 < h ∧ 0 < col ∧ (∀ t, tag = some t → ⟨t, line, col⟩ ∉ map) ∧ mask ≠ 0 ∧
        ∃ l c r : Rgb, codes[col - 1]? = some l ∧ codes[col]? = some c ∧ codes[col + 1]? = some r ∧
          mask = (if l.r + h ≤ c.r ∧ r.r + h ≤ c.r then 1 else 0) + (if l.g + h ≤ c.g ∧ r.g + h ≤ c.g then 2 else 0) +
            (if l.b + h ≤ c.b ∧ r.b + h ≤ c.b then 4 else 0)) ∧
  ∀ (s : State) (st : StreamId) (clip : Nat) (frame : Word32) (line column mask : Nat),
    let x := s.spot st
    let n := x.measures.detections
    let t := s.takeDetection st clip frame line column mask
    let here (c : Candidate) : Prop := c.line = line ∧ c.column = column
    (256 < n → t = s) ∧
    (n = 256 →
      t.spot st = { x with measures := { x.measures with detections := 257, saturated := true } } ∧
        (s.spotter.log.length < 128 → t.spotter.log = s.spotter.log ++
          [⟨.hotScanSaturated, s.supply.timeBase, some clip, some frame, none, none, some st, 256, false⟩])) ∧
    (n < 256 → x.candidates.Pairwise (fun a b => a.key < b.key) → (∀ c ∈ x.candidates, c.column < 4096) →
      column < 4096 → x.candidates.length ≤ 64 →
      ∀ e : Candidate,
        (∀ c ∈ x.candidates, here c → e = { c with
          count := if c.lastFrame = frame - 1 then min (c.count + 1) 255 else 1
          lastFrame := frame
          seen := true }) →
        ((∀ c ∈ x.candidates, ¬ here c) → e = ⟨line, column, 1, frame, false, true⟩) →
        let reports : Bool := decide (x.config.hotFrames ≤ e.count) && !e.reported
        let before (a b : Candidate) : Prop :=
          a.count < b.count ∨ a.count = b.count ∧
            ((frame - b.lastFrame).toNat < (frame - a.lastFrame).toNat ∨
              frame - b.lastFrame = frame - a.lastFrame ∧ a.key < b.key)
        let table := (t.spot st).candidates
        table.Pairwise (fun a b => a.key < b.key) ∧ table.length ≤ 64 ∧
        (∀ c, c ∈ table ↔ c = { e with reported := e.reported || reports } ∨
          (c ∈ x.candidates ∧ ¬ here c ∧ ¬ (x.candidates.length = 64 ∧ (∀ d ∈ x.candidates, ¬ here d) ∧
            ∀ d ∈ x.candidates, d = c ∨ before c d))) ∧
        (t.spot st).measures = { x.measures with detections := n + 1 } ∧
        (∀ z : StreamId, z ≠ st → t.spot z = s.spot z) ∧
        (s.spotter.log.length < 128 → t.spotter.log = s.spotter.log ++
          (if reports then [⟨.hotPixel, s.supply.timeBase, some clip, some frame, none, some (line, column), some st,
            BitVec.ofNat 32 mask, false⟩] else [])) ∧
        ∀ f, (s.stream st).frame = some f → f.refused = false → f.clip = clip → f.number = frame →
          (t.stream st).frame = some { f with damaged := f.damaged || reports })

/-- A frame whose gap, geometry and unjudged marks are not all clear is not judged: its measures and the candidates'
seen marks are cleared, and nothing else changes. A judged frame steps the four filters, clipping for red, green and
blue and black: with the condition present (clipped count times 1000 at or above P times the pixel count; luma sum
below the black level times the pixel count) the run rises by one, to 255, and at K with the raised mark clear one
fault is filed and the mark is set; with it absent the filter is zero. CLIPPING carries the channel and its share in
per mille, BLACK_FRAME the luma sum over the pixel count; they are filed red, green, blue, black (log entry 9). The
candidates not seen leave the table unless the saturated mark is set; every seen mark and the measures are cleared
(R145 to R148, R153). -/
def Obligations.SpotterFrameEnd : Prop :=
  ∀ (s : State) (st : StreamId) (f : FrameInProgress),
    let x := s.spot st
    let m := x.measures
    let c := x.config
    let pixels := (s.stream st).params.width * (s.stream st).params.height
    let t := s.spotFrameEnd st f
    let unseen (cs : List Candidate) : List Candidate := cs.map fun a => { a with seen := false }
    (f.gap = true ∨ f.geometry = true ∨ m.unjudged = true →
      t = s.modSpot st fun y =>
        { y with candidates := unseen y.candidates, measures := ⟨⟨0, 0, 0⟩, 0, 0, false, false⟩ }) ∧
    (f.gap = false → f.geometry = false → m.unjudged = false →
      let red : Bool := decide (c.clipFraction * pixels ≤ m.clipped.r * 1000)
      let green : Bool := decide (c.clipFraction * pixels ≤ m.clipped.g * 1000)
      let blue : Bool := decide (c.clipFraction * pixels ≤ m.clipped.b * 1000)
      let black : Bool := decide (m.lumaSum < c.blackLevel * pixels)
      let files (old : Filter) (k : Nat) (present : Bool) : Bool :=
        present && decide (k ≤ min (old.run + 1) 255) && !old.raised
      let stepped (old : Filter) (k : Nat) (present : Bool) : Filter :=
        if present then ⟨min (old.run + 1) 255, old.raised || decide (k ≤ min (old.run + 1) 255)⟩ else ⟨0, false⟩
      let entry (kind : FaultKind) (detail : Nat) : FaultEntry :=
        ⟨kind, s.supply.timeBase, some f.clip, some f.number, none, none, some st, BitVec.ofNat 32 detail, false⟩
      let share (n : Nat) : Nat := n * 1000 / pixels
      t.spot st = { x with
        clipRed := stepped x.clipRed c.clipFrames red
        clipGreen := stepped x.clipGreen c.clipFrames green
        clipBlue := stepped x.clipBlue c.clipFrames blue
        black := stepped x.black c.blackFrames black
        candidates := unseen (if m.saturated then x.candidates else x.candidates.filter (·.seen))
        measures := ⟨⟨0, 0, 0⟩, 0, 0, false, false⟩ } ∧
      (∀ z : StreamId, z ≠ st → t.spot z = s.spot z ∧ t.stream z = s.stream z) ∧
      t.spotter.defectMap = s.spotter.defectMap ∧
      (s.spotter.log.length ≤ 124 → t.spotter.log = s.spotter.log ++
        (if files x.clipRed c.clipFrames red then [entry .clipping (256 * share m.clipped.r)] else []) ++
        (if files x.clipGreen c.clipFrames green then [entry .clipping (1 + 256 * share m.clipped.g)] else []) ++
        (if files x.clipBlue c.clipFrames blue then [entry .clipping (2 + 256 * share m.clipped.b)] else []) ++
        (if files x.black c.blackFrames black then [entry .blackFrame (m.lumaSum / pixels)] else [])))
end

