-- ==== Sys2Proof/Laws/State.lean ====
section
/-!
SUPPORT. One lemma per field per update of the state, and reading back what an update wrote, so that no later proof unfolds
a record update.
-/

namespace Sys2Proof.Machine

/-! ### modPort -/

@[simp] theorem State.modPort_control (s : State) (p : Port) (f : PortState → PortState) : (s.modPort p f).control = s.control := rfl
@[simp] theorem State.modPort_table (s : State) (p : Port) (f : PortState → PortState) : (s.modPort p f).table = s.table := rfl
@[simp] theorem State.modPort_offload (s : State) (p : Port) (f : PortState → PortState) : (s.modPort p f).offload = s.offload := rfl
@[simp] theorem State.modPort_look (s : State) (p : Port) (f : PortState → PortState) : (s.modPort p f).look = s.look := rfl
@[simp] theorem State.modPort_review (s : State) (p : Port) (f : PortState → PortState) : (s.modPort p f).review = s.review := rfl
@[simp] theorem State.modPort_spotter (s : State) (p : Port) (f : PortState → PortState) : (s.modPort p f).spotter = s.spotter := rfl
@[simp] theorem State.modPort_supply (s : State) (p : Port) (f : PortState → PortState) : (s.modPort p f).supply = s.supply := rfl
@[simp] theorem State.modPort_pending (s : State) (p : Port) (f : PortState → PortState) : (s.modPort p f).pending = s.pending := rfl
@[simp] theorem State.modPort_freeCount (s : State) (p : Port) (f : PortState → PortState) : (s.modPort p f).freeCount = s.freeCount := rfl

/-! ### setEndpoints -/

@[simp] theorem State.setEndpoints_control (s : State) (es : List Endpoint) : (s.setEndpoints es).control = s.control := rfl
@[simp] theorem State.setEndpoints_table (s : State) (es : List Endpoint) : (s.setEndpoints es).table = s.table := rfl
@[simp] theorem State.setEndpoints_offload (s : State) (es : List Endpoint) : (s.setEndpoints es).offload = s.offload := rfl
@[simp] theorem State.setEndpoints_look (s : State) (es : List Endpoint) : (s.setEndpoints es).look = s.look := rfl
@[simp] theorem State.setEndpoints_review (s : State) (es : List Endpoint) : (s.setEndpoints es).review = s.review := rfl
@[simp] theorem State.setEndpoints_spotter (s : State) (es : List Endpoint) : (s.setEndpoints es).spotter = s.spotter := rfl
@[simp] theorem State.setEndpoints_supply (s : State) (es : List Endpoint) : (s.setEndpoints es).supply = s.supply := rfl
@[simp] theorem State.setEndpoints_pending (s : State) (es : List Endpoint) : (s.setEndpoints es).pending = s.pending := rfl
@[simp] theorem State.setEndpoints_freeCount (s : State) (es : List Endpoint) : (s.setEndpoints es).freeCount = s.freeCount := rfl

/-! ### setEndpointState -/

@[simp] theorem State.setEndpointState_control (s : State) (e : EpName) (x : EndpointState) : (s.setEndpointState e x).control = s.control := rfl
@[simp] theorem State.setEndpointState_table (s : State) (e : EpName) (x : EndpointState) : (s.setEndpointState e x).table = s.table := rfl
@[simp] theorem State.setEndpointState_offload (s : State) (e : EpName) (x : EndpointState) : (s.setEndpointState e x).offload = s.offload := rfl
@[simp] theorem State.setEndpointState_look (s : State) (e : EpName) (x : EndpointState) : (s.setEndpointState e x).look = s.look := rfl
@[simp] theorem State.setEndpointState_review (s : State) (e : EpName) (x : EndpointState) : (s.setEndpointState e x).review = s.review := rfl
@[simp] theorem State.setEndpointState_spotter (s : State) (e : EpName) (x : EndpointState) : (s.setEndpointState e x).spotter = s.spotter := rfl
@[simp] theorem State.setEndpointState_supply (s : State) (e : EpName) (x : EndpointState) : (s.setEndpointState e x).supply = s.supply := rfl
@[simp] theorem State.setEndpointState_pending (s : State) (e : EpName) (x : EndpointState) : (s.setEndpointState e x).pending = s.pending := rfl
@[simp] theorem State.setEndpointState_freeCount (s : State) (e : EpName) (x : EndpointState) : (s.setEndpointState e x).freeCount = s.freeCount := rfl

/-! ### modStream -/

@[simp] theorem State.modStream_link (s : State) (st : StreamId) (f : Stream → Stream) : (s.modStream st f).link = s.link := rfl
@[simp] theorem State.modStream_control (s : State) (st : StreamId) (f : Stream → Stream) : (s.modStream st f).control = s.control := rfl
@[simp] theorem State.modStream_table (s : State) (st : StreamId) (f : Stream → Stream) : (s.modStream st f).table = s.table := rfl
@[simp] theorem State.modStream_offload (s : State) (st : StreamId) (f : Stream → Stream) : (s.modStream st f).offload = s.offload := rfl
@[simp] theorem State.modStream_look (s : State) (st : StreamId) (f : Stream → Stream) : (s.modStream st f).look = s.look := rfl
@[simp] theorem State.modStream_spotter (s : State) (st : StreamId) (f : Stream → Stream) : (s.modStream st f).spotter = s.spotter := rfl
@[simp] theorem State.modStream_supply (s : State) (st : StreamId) (f : Stream → Stream) : (s.modStream st f).supply = s.supply := rfl
@[simp] theorem State.modStream_pending (s : State) (st : StreamId) (f : Stream → Stream) : (s.modStream st f).pending = s.pending := rfl
@[simp] theorem State.modStream_freeCount (s : State) (st : StreamId) (f : Stream → Stream) : (s.modStream st f).freeCount = s.freeCount := rfl

/-! ### modSpot -/

@[simp] theorem State.modSpot_link (s : State) (st : StreamId) (f : SpotterStream → SpotterStream) : (s.modSpot st f).link = s.link := rfl
@[simp] theorem State.modSpot_control (s : State) (st : StreamId) (f : SpotterStream → SpotterStream) : (s.modSpot st f).control = s.control := rfl
@[simp] theorem State.modSpot_table (s : State) (st : StreamId) (f : SpotterStream → SpotterStream) : (s.modSpot st f).table = s.table := rfl
@[simp] theorem State.modSpot_offload (s : State) (st : StreamId) (f : SpotterStream → SpotterStream) : (s.modSpot st f).offload = s.offload := rfl
@[simp] theorem State.modSpot_look (s : State) (st : StreamId) (f : SpotterStream → SpotterStream) : (s.modSpot st f).look = s.look := rfl
@[simp] theorem State.modSpot_review (s : State) (st : StreamId) (f : SpotterStream → SpotterStream) : (s.modSpot st f).review = s.review := rfl
@[simp] theorem State.modSpot_supply (s : State) (st : StreamId) (f : SpotterStream → SpotterStream) : (s.modSpot st f).supply = s.supply := rfl
@[simp] theorem State.modSpot_pending (s : State) (st : StreamId) (f : SpotterStream → SpotterStream) : (s.modSpot st f).pending = s.pending := rfl
@[simp] theorem State.modSpot_freeCount (s : State) (st : StreamId) (f : SpotterStream → SpotterStream) : (s.modSpot st f).freeCount = s.freeCount := rfl

/-! ### setChannel -/

@[simp] theorem State.setChannel_link (s : State) (c : ChannelId) (x : Channel) : (s.setChannel c x).link = s.link := rfl
@[simp] theorem State.setChannel_control (s : State) (c : ChannelId) (x : Channel) : (s.setChannel c x).control = s.control := rfl
@[simp] theorem State.setChannel_table (s : State) (c : ChannelId) (x : Channel) : (s.setChannel c x).table = s.table := rfl
@[simp] theorem State.setChannel_look (s : State) (c : ChannelId) (x : Channel) : (s.setChannel c x).look = s.look := rfl
@[simp] theorem State.setChannel_review (s : State) (c : ChannelId) (x : Channel) : (s.setChannel c x).review = s.review := rfl
@[simp] theorem State.setChannel_spotter (s : State) (c : ChannelId) (x : Channel) : (s.setChannel c x).spotter = s.spotter := rfl
@[simp] theorem State.setChannel_supply (s : State) (c : ChannelId) (x : Channel) : (s.setChannel c x).supply = s.supply := rfl
@[simp] theorem State.setChannel_pending (s : State) (c : ChannelId) (x : Channel) : (s.setChannel c x).pending = s.pending := rfl
@[simp] theorem State.setChannel_freeCount (s : State) (c : ChannelId) (x : Channel) : (s.setChannel c x).freeCount = s.freeCount := rfl

/-! ### setClip -/

@[simp] theorem State.setClip_link (s : State) (n : Nat) (c : Option ClipRecord) : (s.setClip n c).link = s.link := rfl
@[simp] theorem State.setClip_control (s : State) (n : Nat) (c : Option ClipRecord) : (s.setClip n c).control = s.control := rfl
@[simp] theorem State.setClip_offload (s : State) (n : Nat) (c : Option ClipRecord) : (s.setClip n c).offload = s.offload := rfl
@[simp] theorem State.setClip_look (s : State) (n : Nat) (c : Option ClipRecord) : (s.setClip n c).look = s.look := rfl
@[simp] theorem State.setClip_review (s : State) (n : Nat) (c : Option ClipRecord) : (s.setClip n c).review = s.review := rfl
@[simp] theorem State.setClip_spotter (s : State) (n : Nat) (c : Option ClipRecord) : (s.setClip n c).spotter = s.spotter := rfl
@[simp] theorem State.setClip_supply (s : State) (n : Nat) (c : Option ClipRecord) : (s.setClip n c).supply = s.supply := rfl
@[simp] theorem State.setClip_pending (s : State) (n : Nat) (c : Option ClipRecord) : (s.setClip n c).pending = s.pending := rfl
@[simp] theorem State.setClip_freeCount (s : State) (n : Nat) (c : Option ClipRecord) : (s.setClip n c).freeCount = s.freeCount := rfl

/-! ### setJob -/

@[simp] theorem State.setJob_link (s : State) (n : Nat) (j : Option JobRecord) : (s.setJob n j).link = s.link := rfl
@[simp] theorem State.setJob_control (s : State) (n : Nat) (j : Option JobRecord) : (s.setJob n j).control = s.control := rfl
@[simp] theorem State.setJob_offload (s : State) (n : Nat) (j : Option JobRecord) : (s.setJob n j).offload = s.offload := rfl
@[simp] theorem State.setJob_look (s : State) (n : Nat) (j : Option JobRecord) : (s.setJob n j).look = s.look := rfl
@[simp] theorem State.setJob_review (s : State) (n : Nat) (j : Option JobRecord) : (s.setJob n j).review = s.review := rfl
@[simp] theorem State.setJob_spotter (s : State) (n : Nat) (j : Option JobRecord) : (s.setJob n j).spotter = s.spotter := rfl
@[simp] theorem State.setJob_supply (s : State) (n : Nat) (j : Option JobRecord) : (s.setJob n j).supply = s.supply := rfl
@[simp] theorem State.setJob_pending (s : State) (n : Nat) (j : Option JobRecord) : (s.setJob n j).pending = s.pending := rfl
@[simp] theorem State.setJob_freeCount (s : State) (n : Nat) (j : Option JobRecord) : (s.setJob n j).freeCount = s.freeCount := rfl

/-! ### setIdentify -/

@[simp] theorem State.setIdentify_link (s : State) (n : Nat) (x : Identify) : (s.setIdentify n x).link = s.link := rfl
@[simp] theorem State.setIdentify_control (s : State) (n : Nat) (x : Identify) : (s.setIdentify n x).control = s.control := rfl
@[simp] theorem State.setIdentify_table (s : State) (n : Nat) (x : Identify) : (s.setIdentify n x).table = s.table := rfl
@[simp] theorem State.setIdentify_look (s : State) (n : Nat) (x : Identify) : (s.setIdentify n x).look = s.look := rfl
@[simp] theorem State.setIdentify_review (s : State) (n : Nat) (x : Identify) : (s.setIdentify n x).review = s.review := rfl
@[simp] theorem State.setIdentify_spotter (s : State) (n : Nat) (x : Identify) : (s.setIdentify n x).spotter = s.spotter := rfl
@[simp] theorem State.setIdentify_supply (s : State) (n : Nat) (x : Identify) : (s.setIdentify n x).supply = s.supply := rfl
@[simp] theorem State.setIdentify_pending (s : State) (n : Nat) (x : Identify) : (s.setIdentify n x).pending = s.pending := rfl
@[simp] theorem State.setIdentify_freeCount (s : State) (n : Nat) (x : Identify) : (s.setIdentify n x).freeCount = s.freeCount := rfl

/-! ### modSlot -/

@[simp] theorem State.modSlot_link (s : State) (k : Fin 16) (f : Slot → Slot) : (s.modSlot k f).link = s.link := rfl
@[simp] theorem State.modSlot_control (s : State) (k : Fin 16) (f : Slot → Slot) : (s.modSlot k f).control = s.control := rfl
@[simp] theorem State.modSlot_table (s : State) (k : Fin 16) (f : Slot → Slot) : (s.modSlot k f).table = s.table := rfl
@[simp] theorem State.modSlot_offload (s : State) (k : Fin 16) (f : Slot → Slot) : (s.modSlot k f).offload = s.offload := rfl
@[simp] theorem State.modSlot_review (s : State) (k : Fin 16) (f : Slot → Slot) : (s.modSlot k f).review = s.review := rfl
@[simp] theorem State.modSlot_spotter (s : State) (k : Fin 16) (f : Slot → Slot) : (s.modSlot k f).spotter = s.spotter := rfl
@[simp] theorem State.modSlot_supply (s : State) (k : Fin 16) (f : Slot → Slot) : (s.modSlot k f).supply = s.supply := rfl
@[simp] theorem State.modSlot_pending (s : State) (k : Fin 16) (f : Slot → Slot) : (s.modSlot k f).pending = s.pending := rfl
@[simp] theorem State.modSlot_freeCount (s : State) (k : Fin 16) (f : Slot → Slot) : (s.modSlot k f).freeCount = s.freeCount := rfl

/-! ### setDirectory -/

@[simp] theorem State.setDirectory_link (s : State) (n : Nat) (k : Option (Fin 16)) : (s.setDirectory n k).link = s.link := rfl
@[simp] theorem State.setDirectory_control (s : State) (n : Nat) (k : Option (Fin 16)) : (s.setDirectory n k).control = s.control := rfl
@[simp] theorem State.setDirectory_table (s : State) (n : Nat) (k : Option (Fin 16)) : (s.setDirectory n k).table = s.table := rfl
@[simp] theorem State.setDirectory_offload (s : State) (n : Nat) (k : Option (Fin 16)) : (s.setDirectory n k).offload = s.offload := rfl
@[simp] theorem State.setDirectory_review (s : State) (n : Nat) (k : Option (Fin 16)) : (s.setDirectory n k).review = s.review := rfl
@[simp] theorem State.setDirectory_spotter (s : State) (n : Nat) (k : Option (Fin 16)) : (s.setDirectory n k).spotter = s.spotter := rfl
@[simp] theorem State.setDirectory_supply (s : State) (n : Nat) (k : Option (Fin 16)) : (s.setDirectory n k).supply = s.supply := rfl
@[simp] theorem State.setDirectory_pending (s : State) (n : Nat) (k : Option (Fin 16)) : (s.setDirectory n k).pending = s.pending := rfl
@[simp] theorem State.setDirectory_freeCount (s : State) (n : Nat) (k : Option (Fin 16)) : (s.setDirectory n k).freeCount = s.freeCount := rfl

/-! ### modSupply -/

@[simp] theorem State.modSupply_link (s : State) (f : SupplyUnit → SupplyUnit) : (s.modSupply f).link = s.link := rfl
@[simp] theorem State.modSupply_control (s : State) (f : SupplyUnit → SupplyUnit) : (s.modSupply f).control = s.control := rfl
@[simp] theorem State.modSupply_table (s : State) (f : SupplyUnit → SupplyUnit) : (s.modSupply f).table = s.table := rfl
@[simp] theorem State.modSupply_offload (s : State) (f : SupplyUnit → SupplyUnit) : (s.modSupply f).offload = s.offload := rfl
@[simp] theorem State.modSupply_look (s : State) (f : SupplyUnit → SupplyUnit) : (s.modSupply f).look = s.look := rfl
@[simp] theorem State.modSupply_review (s : State) (f : SupplyUnit → SupplyUnit) : (s.modSupply f).review = s.review := rfl
@[simp] theorem State.modSupply_spotter (s : State) (f : SupplyUnit → SupplyUnit) : (s.modSupply f).spotter = s.spotter := rfl
@[simp] theorem State.modSupply_pending (s : State) (f : SupplyUnit → SupplyUnit) : (s.modSupply f).pending = s.pending := rfl
@[simp] theorem State.modSupply_freeCount (s : State) (f : SupplyUnit → SupplyUnit) : (s.modSupply f).freeCount = s.freeCount := rfl

/-! ### withdrawAsks -/

@[simp] theorem State.withdrawAsks_control (s : State) (p : Purpose → Bool) : (s.withdrawAsks p).control = s.control := rfl
@[simp] theorem State.withdrawAsks_table (s : State) (p : Purpose → Bool) : (s.withdrawAsks p).table = s.table := rfl
@[simp] theorem State.withdrawAsks_offload (s : State) (p : Purpose → Bool) : (s.withdrawAsks p).offload = s.offload := rfl
@[simp] theorem State.withdrawAsks_look (s : State) (p : Purpose → Bool) : (s.withdrawAsks p).look = s.look := rfl
@[simp] theorem State.withdrawAsks_review (s : State) (p : Purpose → Bool) : (s.withdrawAsks p).review = s.review := rfl
@[simp] theorem State.withdrawAsks_spotter (s : State) (p : Purpose → Bool) : (s.withdrawAsks p).spotter = s.spotter := rfl
@[simp] theorem State.withdrawAsks_supply (s : State) (p : Purpose → Bool) : (s.withdrawAsks p).supply = s.supply := rfl
@[simp] theorem State.withdrawAsks_pending (s : State) (p : Purpose → Bool) : (s.withdrawAsks p).pending = s.pending := rfl
@[simp] theorem State.withdrawAsks_freeCount (s : State) (p : Purpose → Bool) : (s.withdrawAsks p).freeCount = s.freeCount := rfl

/-! ### takeRequest -/

@[simp] theorem State.takeRequest_link (s : State) (p : Port) : (s.takeRequest p).link = s.link := rfl
@[simp] theorem State.takeRequest_table (s : State) (p : Port) : (s.takeRequest p).table = s.table := rfl
@[simp] theorem State.takeRequest_offload (s : State) (p : Port) : (s.takeRequest p).offload = s.offload := rfl
@[simp] theorem State.takeRequest_look (s : State) (p : Port) : (s.takeRequest p).look = s.look := rfl
@[simp] theorem State.takeRequest_review (s : State) (p : Port) : (s.takeRequest p).review = s.review := rfl
@[simp] theorem State.takeRequest_spotter (s : State) (p : Port) : (s.takeRequest p).spotter = s.spotter := rfl
@[simp] theorem State.takeRequest_supply (s : State) (p : Port) : (s.takeRequest p).supply = s.supply := rfl
@[simp] theorem State.takeRequest_pending (s : State) (p : Port) : (s.takeRequest p).pending = s.pending := rfl
@[simp] theorem State.takeRequest_freeCount (s : State) (p : Port) : (s.takeRequest p).freeCount = s.freeCount := rfl

/-! ### withPending -/

@[simp] theorem State.withPending_link (s : State) (q : List Instr) : (s.withPending q).link = s.link := rfl
@[simp] theorem State.withPending_control (s : State) (q : List Instr) : (s.withPending q).control = s.control := rfl
@[simp] theorem State.withPending_table (s : State) (q : List Instr) : (s.withPending q).table = s.table := rfl
@[simp] theorem State.withPending_offload (s : State) (q : List Instr) : (s.withPending q).offload = s.offload := rfl
@[simp] theorem State.withPending_look (s : State) (q : List Instr) : (s.withPending q).look = s.look := rfl
@[simp] theorem State.withPending_review (s : State) (q : List Instr) : (s.withPending q).review = s.review := rfl
@[simp] theorem State.withPending_spotter (s : State) (q : List Instr) : (s.withPending q).spotter = s.spotter := rfl
@[simp] theorem State.withPending_supply (s : State) (q : List Instr) : (s.withPending q).supply = s.supply := rfl
@[simp] theorem State.withPending_freeCount (s : State) (q : List Instr) : (s.withPending q).freeCount = s.freeCount := rfl

/-! ### setHold -/

@[simp] theorem State.setHold_link (s : State) (k : Fin 4) (h : Option HoldPoint) : (s.setHold k h).link = s.link := rfl
@[simp] theorem State.setHold_control (s : State) (k : Fin 4) (h : Option HoldPoint) : (s.setHold k h).control = s.control := rfl
@[simp] theorem State.setHold_table (s : State) (k : Fin 4) (h : Option HoldPoint) : (s.setHold k h).table = s.table := rfl
@[simp] theorem State.setHold_offload (s : State) (k : Fin 4) (h : Option HoldPoint) : (s.setHold k h).offload = s.offload := rfl
@[simp] theorem State.setHold_look (s : State) (k : Fin 4) (h : Option HoldPoint) : (s.setHold k h).look = s.look := rfl
@[simp] theorem State.setHold_review (s : State) (k : Fin 4) (h : Option HoldPoint) : (s.setHold k h).review = s.review := rfl
@[simp] theorem State.setHold_supply (s : State) (k : Fin 4) (h : Option HoldPoint) : (s.setHold k h).supply = s.supply := rfl
@[simp] theorem State.setHold_pending (s : State) (k : Fin 4) (h : Option HoldPoint) : (s.setHold k h).pending = s.pending := rfl
@[simp] theorem State.setHold_freeCount (s : State) (k : Fin 4) (h : Option HoldPoint) : (s.setHold k h).freeCount = s.freeCount := rfl

/-! ### clearCause -/

@[simp] theorem State.clearCause_link (s : State) : (s.clearCause).link = s.link := rfl
@[simp] theorem State.clearCause_control (s : State) : (s.clearCause).control = s.control := rfl
@[simp] theorem State.clearCause_table (s : State) : (s.clearCause).table = s.table := rfl
@[simp] theorem State.clearCause_offload (s : State) : (s.clearCause).offload = s.offload := rfl
@[simp] theorem State.clearCause_look (s : State) : (s.clearCause).look = s.look := rfl
@[simp] theorem State.clearCause_review (s : State) : (s.clearCause).review = s.review := rfl
@[simp] theorem State.clearCause_spotter (s : State) : (s.clearCause).spotter = s.spotter := rfl
@[simp] theorem State.clearCause_pending (s : State) : (s.clearCause).pending = s.pending := rfl
@[simp] theorem State.clearCause_freeCount (s : State) : (s.clearCause).freeCount = s.freeCount := rfl

/-! ### setRoles -/

@[simp] theorem State.setRoles_control (s : State) (p : Port) (r : BitVec 5) : (s.setRoles p r).control = s.control := rfl
@[simp] theorem State.setRoles_table (s : State) (p : Port) (r : BitVec 5) : (s.setRoles p r).table = s.table := rfl
@[simp] theorem State.setRoles_offload (s : State) (p : Port) (r : BitVec 5) : (s.setRoles p r).offload = s.offload := rfl
@[simp] theorem State.setRoles_look (s : State) (p : Port) (r : BitVec 5) : (s.setRoles p r).look = s.look := rfl
@[simp] theorem State.setRoles_review (s : State) (p : Port) (r : BitVec 5) : (s.setRoles p r).review = s.review := rfl
@[simp] theorem State.setRoles_spotter (s : State) (p : Port) (r : BitVec 5) : (s.setRoles p r).spotter = s.spotter := rfl
@[simp] theorem State.setRoles_supply (s : State) (p : Port) (r : BitVec 5) : (s.setRoles p r).supply = s.supply := rfl
@[simp] theorem State.setRoles_pending (s : State) (p : Port) (r : BitVec 5) : (s.setRoles p r).pending = s.pending := rfl
@[simp] theorem State.setRoles_freeCount (s : State) (p : Port) (r : BitVec 5) : (s.setRoles p r).freeCount = s.freeCount := rfl

/-! ### unmapSite -/

@[simp] theorem State.unmapSite_link (s : State) (d : DefectSite) : (s.unmapSite d).link = s.link := rfl
@[simp] theorem State.unmapSite_control (s : State) (d : DefectSite) : (s.unmapSite d).control = s.control := rfl
@[simp] theorem State.unmapSite_table (s : State) (d : DefectSite) : (s.unmapSite d).table = s.table := rfl
@[simp] theorem State.unmapSite_offload (s : State) (d : DefectSite) : (s.unmapSite d).offload = s.offload := rfl
@[simp] theorem State.unmapSite_look (s : State) (d : DefectSite) : (s.unmapSite d).look = s.look := rfl
@[simp] theorem State.unmapSite_review (s : State) (d : DefectSite) : (s.unmapSite d).review = s.review := rfl
@[simp] theorem State.unmapSite_supply (s : State) (d : DefectSite) : (s.unmapSite d).supply = s.supply := rfl
@[simp] theorem State.unmapSite_pending (s : State) (d : DefectSite) : (s.unmapSite d).pending = s.pending := rfl
@[simp] theorem State.unmapSite_freeCount (s : State) (d : DefectSite) : (s.unmapSite d).freeCount = s.freeCount := rfl

/-! ### Reading back -/

@[simp] theorem State.modPort_endpoints (s : State) (p : Port) (f : PortState → PortState) :
    (s.modPort p f).link.endpoints = s.link.endpoints := rfl

@[simp] theorem State.setEndpoints_endpoints (s : State) (es : List Endpoint) :
    (s.setEndpoints es).link.endpoints = es := rfl

@[simp] theorem State.setEndpoints_ports (s : State) (es : List Endpoint) :
    (s.setEndpoints es).link.ports = s.link.ports := rfl

@[simp] theorem State.withdrawAsks_endpoints (s : State) (p : Purpose → Bool) :
    (s.withdrawAsks p).link.endpoints = s.link.endpoints := rfl

@[simp] theorem State.withPending_pending (s : State) (q : List Instr) : (s.withPending q).pending = q := rfl

@[simp] theorem State.modSpot_defectMap (s : State) (st : StreamId) (f : SpotterStream → SpotterStream) :
    (s.modSpot st f).spotter.defectMap = s.spotter.defectMap := rfl

@[simp] theorem State.modSpot_log (s : State) (st : StreamId) (f : SpotterStream → SpotterStream) :
    (s.modSpot st f).spotter.log = s.spotter.log := rfl

@[simp] theorem State.port_modPort (s : State) (p : Port) (f : PortState → PortState) :
    (s.modPort p f).port p = f (s.port p) := by
  simp [State.port, State.modPort]

theorem State.port_modPort_ne (s : State) {p q : Port} (f : PortState → PortState) (h : p ≠ q) :
    (s.modPort p f).port q = s.port q := by
  have : p.val ≠ q.val := fun e => h (Fin.ext e)
  simp [State.port, State.modPort, this]

@[simp] theorem State.stream_modStream (s : State) (st : StreamId) (f : Stream → Stream) :
    (s.modStream st f).stream st = f (s.stream st) := by
  simp [State.stream, State.modStream]

theorem State.stream_modStream_ne (s : State) {st su : StreamId} (f : Stream → Stream) (h : st ≠ su) :
    (s.modStream st f).stream su = s.stream su := by
  have : st.val ≠ su.val := fun e => h (Fin.ext e)
  simp [State.stream, State.modStream, this]

@[simp] theorem State.spot_modSpot (s : State) (st : StreamId) (f : SpotterStream → SpotterStream) :
    (s.modSpot st f).spot st = f (s.spot st) := by
  simp [State.spot, State.modSpot]

@[simp] theorem State.channel_setChannel (s : State) (c : ChannelId) (x : Channel) :
    (s.setChannel c x).channel c = x := by
  simp [State.channel, State.setChannel]

theorem State.channel_setChannel_ne (s : State) {c d : ChannelId} (x : Channel) (h : c ≠ d) :
    (s.setChannel c x).channel d = s.channel d := by
  have : c.val ≠ d.val := fun e => h (Fin.ext e)
  simp [State.channel, State.setChannel, this]

@[simp] theorem State.slot_modSlot (s : State) (k : Fin 16) (f : Slot → Slot) :
    (s.modSlot k f).slot k = f (s.slot k) := by
  simp [State.slot, State.modSlot]

theorem State.slot_modSlot_ne (s : State) {k l : Fin 16} (f : Slot → Slot) (h : k ≠ l) :
    (s.modSlot k f).slot l = s.slot l := by
  have : k.val ≠ l.val := fun e => h (Fin.ext e)
  simp [State.slot, State.modSlot, this]

theorem State.clip?_setClip (s : State) (n m : Nat) (c : Option ClipRecord) :
    (s.setClip n c).clip? m = if n = m ∧ m < 512 then c else s.clip? m := by
  simp only [State.clip?, State.setClip, Vector.getElem?_setIfInBounds]
  split <;> split <;> simp_all

theorem State.job?_setJob (s : State) (n m : Nat) (j : Option JobRecord) :
    (s.setJob n j).job? m = if n = m ∧ m < 16 then j else s.job? m := by
  simp only [State.job?, State.setJob, Vector.getElem?_setIfInBounds]
  split <;> split <;> simp_all

end Sys2Proof.Machine
end

