-- ==== Sys2Proof/Laws/Fixed.lean ====
section
/-!
SUPPORT. What the offload engine's operations leave alone. `State.fixed` gathers it: of each port its link state, roles,
credits and transmitter, the endpoint table, the control unit but for its deferred replies, the admission
list, the engine's state, timer and pause reasons, the look engine, the review unit, the supply unit, the fault spotter but
for its log, and whether the log fits. Every operation has one lemma: it keeps `State.fixed`.
-/

namespace Sys2Proof.Machine

/-- What the engine's operations leave alone of a port. -/
structure FixedPort where
  link : LinkState
  roles : BitVec 5
  receive : Vector Credit 4
  send : Vector Credit 4
  creditDue : Bool
  creditTimer : Option Word64
  lastServed : Fin 4
  transmitting : Option TxFrame
  wire : List Byte

/-- What the engine's operations leave alone of a port. -/
def PortState.fixed (x : PortState) : FixedPort :=
  ⟨x.link, x.roles, x.receive, x.send, x.creditDue, x.creditTimer, x.lastServed, x.transmitting, x.wire⟩

/-- What the engine's operations leave alone of the block. -/
structure Fixed where
  ports : Vector FixedPort 4
  endpoints : List Endpoint
  requests : Vector (List Request) 4
  served : Port
  noticePort : Port
  notice : NoticeFlight
  softRestart : SoftRestart
  admission : List Nat
  engine : EngineState
  pauseSupply : Bool
  pauseOperator : Bool
  resumeTimer : Option Word64
  lastJob : Nat
  look : LookEngine
  review : Vector Stream 2
  spotters : Vector SpotterStream 2
  defectMap : List DefectSite
  holds : Vector (Option HoldPoint) 4
  supply : SupplyUnit
  pending : List Instr
  freeCount : Nat
  logFits : Bool

/-- What the engine's operations leave alone of the block. -/
def State.fixed (s : State) : Fixed where
  ports := s.link.ports.map PortState.fixed
  endpoints := s.link.endpoints
  requests := s.control.queues
  served := s.control.lastServed
  noticePort := s.control.noticePort
  notice := s.control.notice
  softRestart := s.control.softRestart
  admission := s.table.admission
  engine := s.offload.state
  pauseSupply := s.offload.pauseSupply
  pauseOperator := s.offload.pauseOperator
  resumeTimer := s.offload.resumeTimer
  lastJob := s.offload.lastJob
  look := s.look
  review := s.review
  spotters := s.spotter.streams
  defectMap := s.spotter.defectMap
  holds := s.spotter.holds
  supply := s.supply
  pending := s.pending
  freeCount := s.freeCount
  logFits := s.spotter.log.length.ble Config.faultLogLimit

/-! ### Folds -/

/-- A fold of operations that keep a view keeps it. -/
theorem foldl_keeps {α β : Type} (view : State → β) (f : State → α → State)
    (h : ∀ s x, view (f s x) = view s) (l : List α) (s : State) : view (l.foldl f s) = view s := by
  induction l generalizing s with
  | nil => rfl
  | cons x xs ih => simp [ih, h]

/-- A fold of operations that keep `fixed` keeps it. -/
theorem foldl_fixed {α : Type} (f : State → α → State) (h : ∀ s x, (f s x).fixed = s.fixed) (l : List α) (s : State) :
    (l.foldl f s).fixed = s.fixed := foldl_keeps State.fixed f h l s

/-- Repeating an operation that keeps `fixed` keeps it. -/
theorem repeat_fixed (f : State → State) (h : ∀ s, (f s).fixed = s.fixed) (n : Nat) (s : State) :
    (Nat.repeat f n s).fixed = s.fixed := by
  induction n with
  | zero => rfl
  | succ n ih => simp [Nat.repeat, h, ih]

/-! ### Ports and asks -/

theorem modPort_fixed (s : State) (p : Port) (f : PortState → PortState) (h : (f (s.port p)).fixed = (s.port p).fixed) :
    (s.modPort p f).fixed = s.fixed := by
  have e : (s.link.ports.map PortState.fixed).set p.val (s.port p).fixed p.isLt = s.link.ports.map PortState.fixed := by
    ext1 i hi
    by_cases hp : p.val = i
    · subst hp; simp [State.port]
    · simp [Vector.getElem_set_ne, hp]
  simp only [State.fixed, State.modPort, Vector.map_set, h, e]

@[simp] theorem PortState.place_fixed (x : PortState) (entry : Nat) (a : Ask) : (x.place entry a).fixed = x.fixed := by
  have h : ∀ (l : List Packet) (y : PortState), (l.foldl (fun z pk => z.enqueue .bulk pk) y).fixed = y.fixed := by
    intro l
    induction l with
    | nil => intro y; rfl
    | cons pk l ih => intro y; rw [List.foldl_cons, ih]; rfl
  unfold PortState.place
  split
  · rfl
  · simp only []
    split
    · rw [h]; rfl
    · rfl

@[simp] theorem PortState.withdraw_fixed (x : PortState) (p : Ask → Bool) : (x.withdraw p).fixed = x.fixed := rfl

@[simp] theorem PortState.enqueue_fixed (x : PortState) (c : PacketClass) (pk : Packet) :
    (x.enqueue c pk).fixed = x.fixed := rfl

@[simp] theorem withdrawAsks_fixed (s : State) (p : Purpose → Bool) : (s.withdrawAsks p).fixed = s.fixed := by
  simp [State.fixed, State.withdrawAsks, Function.comp_def]

@[simp] theorem makeAsk_fixed (s : State) (a : Ask) : (s.makeAsk a).1.fixed = s.fixed := by
  unfold State.makeAsk
  split
  · rfl
  · simp only []
    split
    · exact modPort_fixed _ _ _ (PortState.place_fixed _ _ _)
    · exact modPort_fixed _ _ _ rfl

@[simp] theorem reply_fixed (s : State) (p : Port) (tag n : Nat) (c : ReplyCode) (r : List Byte) :
    (s.reply p tag n c r).fixed = s.fixed := by
  unfold State.reply
  split
  · exact modPort_fixed _ _ _ rfl
  · rfl

/-! ### The table -/

@[simp] theorem setClip_fixed (s : State) (n : Nat) (c : Option ClipRecord) : (s.setClip n c).fixed = s.fixed := rfl

@[simp] theorem modClip_fixed (s : State) (n : Nat) (f : ClipRecord → ClipRecord) : (s.modClip n f).fixed = s.fixed := by
  unfold State.modClip; split <;> rfl

@[simp] theorem modJob_fixed (s : State) (n : Nat) (f : JobRecord → JobRecord) : (s.modJob n f).fixed = s.fixed := by
  unfold State.modJob; split <;> rfl

@[simp] theorem modDest_fixed (s : State) (n d : Nat) (f : DestRecord → DestRecord) :
    (s.modDest n d f).fixed = s.fixed := modClip_fixed _ _ _

@[simp] theorem setChannel_fixed (s : State) (c : ChannelId) (x : Channel) : (s.setChannel c x).fixed = s.fixed := rfl

@[simp] theorem setIdentify_fixed (s : State) (n : Nat) (x : Identify) : (s.setIdentify n x).fixed = s.fixed := rfl

@[simp] theorem modBinding_fixed (s : State) (c : ChannelId) (f : Binding → Binding) :
    (s.modBinding c f).fixed = s.fixed := by
  unfold State.modBinding; split <;> rfl

@[simp] theorem modLane_fixed (s : State) (c : ChannelId) (d : Nat) (f : Lane → Lane) :
    (s.modLane c d f).fixed = s.fixed := modBinding_fixed _ _ _

/-- `fixed` with the endpoint table set. -/
def Fixed.withEndpoints (x : Fixed) (es : List Endpoint) : Fixed := { x with endpoints := es }

theorem setEndpoints_fixed (s : State) (es : List Endpoint) : (s.setEndpoints es).fixed = s.fixed.withEndpoints es := rfl

/-- Setting one entry's state names the endpoints it named. -/
@[simp] theorem setEndpointState_names (s : State) (e : EpName) (x : EndpointState) :
    (s.setEndpointState e x).link.endpoints.map (·.name) = s.link.endpoints.map (·.name) := by
  have h : (fun ep : Endpoint => (if ep.name = e then { ep with state := x } else ep).name) = fun ep => ep.name := by
    funext ep; split <;> rfl
  simp [State.setEndpointState, State.setEndpoints, Function.comp_def, h]

/-! ### Filings without a stream -/

@[simp] theorem copyFiling_stream (k : FaultKind) (n : Nat) (e : EpName) (d : Nat) :
    (copyFiling k n e d).stream = none := rfl

@[simp] theorem noSourceFiling_stream (n : Nat) (e : EpName) : (noSourceFiling n e).stream = none := rfl

@[simp] theorem logFault_fixed (s : State) (f : Filing) : (s.logFault f).fixed = s.fixed := by
  unfold State.logFault
  split
  · rename_i h
    have h1 : (s.spotter.log.length + 1).ble Config.faultLogLimit = true := Nat.ble_eq.mpr h
    have h2 : s.spotter.log.length.ble Config.faultLogLimit = true := Nat.ble_eq.mpr (by omega)
    simp only [State.fixed, List.length_append, List.length_singleton, h1, h2]
  · rfl

/-- A filing that carries no stream keeps `fixed` (R160). -/
theorem file_fixed (s : State) (f : Filing) (h : f.stream = none) : (s.file f).fixed = s.fixed := by
  have h1 : ∀ t : State, (t.countFault f).fixed = t.fixed := by
    intro t; unfold State.countFault; split
    · rfl
    · exact modClip_fixed _ _ _
  have h2 : ∀ t : State, t.reportFault f = t := by intro t; unfold State.reportFault; rw [h]
  rw [State.file, h2, h1, logFault_fixed]

/-- The filing of a copy fault keeps `fixed` (R116). -/
@[simp] theorem file_copyFiling_fixed (s : State) (k : FaultKind) (n : Nat) (e : EpName) (d : Nat) :
    (s.file (copyFiling k n e d)).fixed = s.fixed := file_fixed _ _ rfl

/-- The filing of NO_SOURCE keeps `fixed` (R116). -/
@[simp] theorem file_noSourceFiling_fixed (s : State) (n : Nat) (e : EpName) :
    (s.file (noSourceFiling n e)).fixed = s.fixed := file_fixed _ _ rfl

end Sys2Proof.Machine
end

