-- ==== Sys2Proof/Laws/Engine.lean ====
section
/-!
SUPPORT. Every operation of the offload engine keeps `State.fixed` (chapters 4 to 6): one lemma for each. `engineSettle`
keeps all of it but the engine's state and resume timer.
-/

namespace Sys2Proof.Machine

@[simp] theorem settleJob_fixed (s : State) (n : Nat) : (s.settleJob n).fixed = s.fixed := by simp [State.settleJob]

@[simp] theorem trySettleJob_fixed (s : State) (n : Nat) : (s.trySettleJob n).fixed = s.fixed := by
  unfold State.trySettleJob
  repeat' split
  all_goals first | rfl | simp

@[simp] theorem settleRecord_fixed (s : State) (n : Nat) : (s.settleRecord n).fixed = s.fixed := by simp [State.settleRecord]

@[simp] theorem returnToJob_fixed (s : State) (n d : Nat) (e : EpName) : (s.returnToJob n d e).fixed = s.fixed := by
  unfold State.returnToJob
  repeat' split
  all_goals first | rfl | simp

@[simp] theorem returnClip_fixed (s : State) (n : Nat) (e : EpName) : (s.returnClip n e).fixed = s.fixed := by
  unfold State.returnClip
  repeat' split
  all_goals first | rfl | simp

@[simp] theorem releaseExtents_fixed (s : State) (c : ChannelId) : (s.releaseExtents c).fixed = s.fixed := by
  unfold State.releaseExtents
  repeat' split
  all_goals first | rfl | simp

@[simp] theorem takeNotes_fixed (s : State) (n : Nat) (l : List EpName) : (s.takeNotes n l).fixed = s.fixed := foldl_fixed _ (fun _ _ => returnClip_fixed _ _ _) _ _

@[simp] theorem settleClip_fixed (s : State) (c : ChannelId) : (s.settleClip c).fixed = s.fixed := by
  unfold State.settleClip
  (try simp only [])
  repeat' split
  all_goals first | rfl | simp

@[simp] theorem checkSettle_fixed (s : State) (c : ChannelId) : (s.checkSettle c).fixed = s.fixed := by
  unfold State.checkSettle
  repeat' split
  all_goals first | rfl | simp

@[simp] theorem unbind_fixed (s : State) (c : ChannelId) : (s.unbind c).fixed = s.fixed := by
  unfold State.unbind
  (try simp only [])
  repeat' split
  all_goals first | rfl | simp

@[simp] theorem suspendRecord_fixed (s : State) (n : Nat) (r : SuspendReason) :
    (s.suspendRecord n r).fixed = s.fixed := by simp [State.suspendRecord]

@[simp] theorem loseSource_fixed (s : State) (n : Nat) : (s.loseSource n).fixed = s.fixed := by
  unfold State.loseSource
  split
  · rfl
  · simp only []
    rw [foldl_fixed, suspendRecord_fixed]
    intro s c
    split <;> simp

@[simp] theorem loseDataSource_fixed (s : State) (c : ChannelId) : (s.loseDataSource c).fixed = s.fixed := by
  unfold State.loseDataSource
  repeat' split
  all_goals first | rfl | simp

@[simp] theorem endLane_fixed (s : State) (c : ChannelId) (d : Nat) : (s.endLane c d).fixed = s.fixed := by simp [State.endLane]

@[simp] theorem closeLane_fixed (s : State) (c : ChannelId) (d : Nat) (f : DestRecord → DestRecord) (x : Option Filing)
    (h : ∀ y ∈ x, y.stream = none) :
    (s.closeLane c d f x).fixed = s.fixed := by
  unfold State.closeLane
  split
  · rfl
  · cases x with
    | none => simp
    | some y => simp [file_fixed _ y (h y rfl)]

@[simp] theorem countAttempt_fixed (s : State) (c : ChannelId) (d : Nat) (k : FaultKind) (b : Bool) (f : Lane → Lane) :
    (s.countAttempt c d k b f).fixed = s.fixed := by
  unfold State.countAttempt
  split
  · rfl
  · simp only []
    split
    · simp
    · rw [closeLane_fixed, modDest_fixed]
      intro y hy
      split at hy <;> simp at hy
      subst hy; rfl

@[simp] theorem loseLane_fixed (s : State) (c : ChannelId) (d : Nat) : (s.loseLane c d).fixed = s.fixed := by
  unfold State.loseLane
  split
  · rfl
  · split
    · rw [closeLane_fixed]
      intro y hy
      simp at hy; subst hy; rfl
    · rfl

@[simp] theorem failBinding_fixed (s : State) (c : ChannelId) (k : FaultKind) (n : Nat) :
    (s.failBinding c k n).fixed = s.fixed := by
  unfold State.failBinding
  (try simp only [])
  repeat' split
  all_goals first | rfl | simp

@[simp] theorem failSource_fixed (s : State) (c : ChannelId) (n : Nat) : (s.failSource c n).fixed = s.fixed := by
  unfold State.failSource
  repeat' split
  all_goals first | rfl | simp

@[simp] theorem identifyExhausted_fixed (s : State) (n : Nat) : (s.identifyExhausted n).fixed = s.fixed := by
  unfold State.identifyExhausted
  (try simp only [])
  repeat' split
  all_goals first | rfl | simp

@[simp] theorem identifyFailed_fixed (s : State) (n : Nat) : (s.identifyFailed n).fixed = s.fixed := by
  unfold State.identifyFailed
  (try simp only [])
  repeat' split
  all_goals first | rfl | simp

@[simp] theorem changeMedium_fixed (s : State) (e : EpName) (n : Nat) : (s.changeMedium e n).fixed = s.fixed := by
  unfold State.changeMedium
  repeat' split
  all_goals first | rfl | simp

@[simp] theorem identifyAnswered_fixed (s : State) (n : Nat) (m : Word64) :
    (s.identifyAnswered n m).fixed = s.fixed := by
  have h : ∀ (l : List Nat) (e : EpName) (t : State),
      (l.foldl (fun s k => s.changeMedium e k) t).fixed = t.fixed :=
    fun l e t => foldl_fixed _ (fun _ _ => changeMedium_fixed _ _ _) l t
  unfold State.identifyAnswered
  split
  · rfl
  · simp only []
    split
    · simp
    · split <;> simp [h]

@[simp] theorem identifyEnd_fixed (s : State) (n : Nat) (r : AskEnd) : (s.identifyEnd n r).fixed = s.fixed := by
  unfold State.identifyEnd
  repeat' split
  all_goals first | rfl | simp

@[simp] theorem sourceOpened_fixed (s : State) (c : ChannelId) (h : Word32) :
    (s.sourceOpened c h).fixed = s.fixed := by
  unfold State.sourceOpened
  (try simp only [])
  repeat' split
  all_goals first | rfl | simp

@[simp] theorem sizeMismatch_fixed (s : State) (c : ChannelId) (h : Word32) (n : Nat) :
    (s.sizeMismatch c h n).fixed = s.fixed := by simp [State.sizeMismatch]

@[simp] theorem openFailed_fixed (s : State) (c : ChannelId) : (s.openFailed c).fixed = s.fixed := by
  unfold State.openFailed
  (try simp only [])
  repeat' split
  all_goals first | rfl | simp

@[simp] theorem openEnd_fixed (s : State) (c : ChannelId) (r : AskEnd) : (s.openEnd c r).fixed = s.fixed := by
  unfold State.openEnd
  repeat' split
  all_goals first | rfl | simp

@[simp] theorem readFailed_fixed (s : State) (c : ChannelId) (k : Nat) (n : Option Nat) :
    (s.readFailed c k n).fixed = s.fixed := by
  unfold State.readFailed
  split
  · rfl
  · simp only []
    split
    · cases n <;> simp
    · simp

@[simp] theorem readSucceeded_fixed (s : State) (c : ChannelId) (k : Nat) (d : List Byte) :
    (s.readSucceeded c k d).fixed = s.fixed := by
  unfold State.readSucceeded
  (try simp only [])
  repeat' split
  all_goals first | rfl | simp

@[simp] theorem readEnd_fixed (s : State) (c : ChannelId) (d : List Byte) (r : AskEnd) :
    (s.readEnd c d r).fixed = s.fixed := by
  unfold State.readEnd
  repeat' split
  all_goals first | rfl | simp

@[simp] theorem checkSucceeded_fixed (s : State) (c : ChannelId) (d : List Byte) :
    (s.checkSucceeded c d).fixed = s.fixed := by simp [State.checkSucceeded]

@[simp] theorem checkEnd_fixed (s : State) (c : ChannelId) (d : List Byte) (r : AskEnd) :
    (s.checkEnd c d r).fixed = s.fixed := by
  unfold State.checkEnd
  repeat' split
  all_goals first | rfl | simp

@[simp] theorem channelClosed_fixed (s : State) (c : ChannelId) : (s.channelClosed c).fixed = s.fixed := by
  unfold State.channelClosed
  repeat' split
  all_goals rfl

@[simp] theorem createEnd_fixed (s : State) (c : ChannelId) (d : Nat) (r : AskEnd) :
    (s.createEnd c d r).fixed = s.fixed := by
  unfold State.createEnd
  repeat' split
  all_goals first | rfl | simp

@[simp] theorem writeEnd_fixed (s : State) (c : ChannelId) (d k : Nat) (r : AskEnd) :
    (s.writeEnd c d k r).fixed = s.fixed := by
  unfold State.writeEnd
  (try simp only [])
  repeat' split
  all_goals first | rfl | simp

@[simp] theorem takeUpFailure_fixed (s : State) (c : ChannelId) (d : Nat) : (s.takeUpFailure c d).fixed = s.fixed := by
  unfold State.takeUpFailure
  repeat' split
  all_goals first | rfl | simp

@[simp] theorem verified_fixed (s : State) (c : ChannelId) (d n : Nat) : (s.verified c d n).fixed = s.fixed := by simp [State.verified]

@[simp] theorem verifyEnd_fixed (s : State) (c : ChannelId) (d k : Nat) (x : List Byte) (r : AskEnd) :
    (s.verifyEnd c d k x r).fixed = s.fixed := by
  unfold State.verifyEnd
  (try simp only [])
  repeat' split
  all_goals first | rfl | simp

@[simp] theorem laneCloseEnd_fixed (s : State) (c : ChannelId) (d : Nat) (r : AskEnd) :
    (s.laneCloseEnd c d r).fixed = s.fixed := by
  unfold State.laneCloseEnd
  split
  · rfl
  · split
    · simp
    · rw [closeLane_fixed]; simp
    all_goals
      rw [closeLane_fixed]
      intro y hy
      simp at hy; subst hy; rfl

@[simp] theorem askEnded_fixed (s : State) (p : Purpose) (d : List Byte) (r : AskEnd) :
    (s.askEnded p d r).fixed = s.fixed := by
  unfold State.askEnded; cases p <;> simp

@[simp] theorem ask_fixed (s : State) (a : Ask) : (s.ask a).fixed = s.fixed := by
  unfold State.ask
  simp only []
  split <;> simp

@[simp] theorem pumpOpen_fixed (s : State) (c : ChannelId) : (s.pumpOpen c).fixed = s.fixed := by
  unfold State.pumpOpen
  repeat' split
  all_goals first | rfl | simp

@[simp] theorem raiseReadPos_fixed (s : State) (c : ChannelId) : (s.raiseReadPos c).fixed = s.fixed := by
  unfold State.raiseReadPos
  repeat' split
  all_goals first | rfl | simp

@[simp] theorem pumpRead_fixed (s : State) (c : ChannelId) : (s.pumpRead c).fixed = s.fixed := by
  unfold State.pumpRead
  repeat' split
  all_goals first | rfl | simp

@[simp] theorem pumpSource_fixed (s : State) (c : ChannelId) : (s.pumpSource c).fixed = s.fixed := by simp [State.pumpSource]

@[simp] theorem pumpCreate_fixed (s : State) (c : ChannelId) (d : Nat) : (s.pumpCreate c d).fixed = s.fixed := by
  unfold State.pumpCreate
  repeat' split
  all_goals first | rfl | simp

@[simp] theorem pumpVerify_fixed (s : State) (c : ChannelId) (d : Nat) : (s.pumpVerify c d).fixed = s.fixed := by
  unfold State.pumpVerify
  repeat' split
  all_goals first | rfl | simp

@[simp] theorem pumpWrite_fixed (s : State) (c : ChannelId) (d : Nat) : (s.pumpWrite c d).fixed = s.fixed := by
  unfold State.pumpWrite
  repeat' split
  all_goals first | rfl | simp

@[simp] theorem checkWholeFile_fixed (s : State) (c : ChannelId) (d : Nat) : (s.checkWholeFile c d).fixed = s.fixed := by
  unfold State.checkWholeFile
  repeat' split
  all_goals first
    | rfl
    | (rw [closeLane_fixed]; intro y hy; simp at hy; subst hy; rfl)

@[simp] theorem pumpClose_fixed (s : State) (c : ChannelId) (d : Nat) : (s.pumpClose c d).fixed = s.fixed := by
  unfold State.pumpClose
  repeat' split
  all_goals first | rfl | simp

@[simp] theorem pumpLane_fixed (s : State) (c : ChannelId) (d : Nat) : (s.pumpLane c d).fixed = s.fixed := by simp [State.pumpLane]

@[simp] theorem pumpClosing_fixed (s : State) (c : ChannelId) : (s.pumpClosing c).fixed = s.fixed := by
  unfold State.pumpClosing
  repeat' split
  all_goals first | rfl | simp

@[simp] theorem pumpChannel_fixed (s : State) (c : ChannelId) : (s.pumpChannel c).fixed = s.fixed := by
  unfold State.pumpChannel
  simp only [pumpClosing_fixed, pumpSource_fixed]
  rw [foldl_fixed _ (fun _ _ => pumpLane_fixed _ _ _), pumpSource_fixed]

@[simp] theorem pumpIdentifyOnce_fixed (n : Nat) (s : State) : (State.pumpIdentifyOnce n s).fixed = s.fixed := by
  unfold State.pumpIdentifyOnce
  split
  · rfl
  · simp only []
    split <;> simp

@[simp] theorem pumpIdentify_fixed (s : State) (n : Nat) : (s.pumpIdentify n).fixed = s.fixed := repeat_fixed _ (fun _ => pumpIdentifyOnce_fixed _ _) _ _

@[simp] theorem refreshPool_fixed (s : State) : (s.refreshPool).fixed = s.fixed := rfl

@[simp] theorem tidyOrphans_fixed (s : State) (n : Nat) : (s.tidyOrphans n).fixed = s.fixed := by
  unfold State.tidyOrphans
  split
  · rfl
  · split
    · apply foldl_fixed
      intro s d
      split <;> simp
    · rfl

@[simp] theorem tidyIdle_fixed (s : State) (n : Nat) : (s.tidyIdle n).fixed = s.fixed := by
  unfold State.tidyIdle
  repeat' split
  all_goals first | rfl | simp

@[simp] theorem activate_fixed (s : State) (n : Nat) (j : JobRecord) : (s.activate n j).fixed = s.fixed := by
  have h1 : ∀ (l : List Nat) (t : State), (l.foldl (fun s k => s.tidyOrphans k) t).fixed = t.fixed :=
    fun l t => foldl_fixed _ (fun _ _ => tidyOrphans_fixed _ _) l t
  have h2 : ∀ (l : List Nat) (t : State), (l.foldl (fun s k => s.tidyIdle k) t).fixed = t.fixed :=
    fun l t => foldl_fixed _ (fun _ _ => tidyIdle_fixed _ _) l t
  unfold State.activate
  simp only []
  split <;> simp [h1, h2]

@[simp] theorem failNoSource_fixed (s : State) (c : ChannelId) (n : Nat) (r : ClipRecord) :
    (s.failNoSource c n r).fixed = s.fixed := by
  unfold State.failNoSource
  rw [checkSettle_fixed, foldl_fixed]
  intro s d
  split <;> simp

@[simp] theorem deferLane_fixed (s : State) (k : Option FaultKind) (x : Reached) :
    (s.deferLane k x).fixed = s.fixed := by
  unfold State.deferLane
  split
  · cases k <;> simp only [] <;> split <;> simp
  · rfl

@[simp] theorem settleUnbound_fixed (s : State) (l : List Nat) (n : Nat) : (s.settleUnbound l n).fixed = s.fixed := by
  unfold State.settleUnbound
  repeat' split
  all_goals first | rfl | simp

@[simp] theorem deferRecords_fixed (s : State) (p : EpName → Bool) (k : Option FaultKind) :
    (s.deferRecords p k).fixed = s.fixed := by
  unfold State.deferRecords
  simp only []
  rw [foldl_fixed, foldl_fixed, foldl_fixed]
  · intro s x; simp
  · intro s x; simp
  · intro s x; split <;> simp

@[simp] theorem answerDrain_fixed (s : State) (e : EpName) (r : DrainResult) (n : Nat) :
    (s.answerDrain e r n).fixed = s.fixed := by
  unfold State.answerDrain
  split
  · rfl
  · simp only [reply_fixed]; rfl

/-- The end of a drain leaves all of `fixed` but the state of the drained endpoint (R91). -/
theorem completeDrain_fixed (s : State) (e : EpName) :
    (s.completeDrain e).fixed = s.fixed.withEndpoints (s.setEndpointState e .released).link.endpoints := by
  unfold State.completeDrain
  simp only [answerDrain_fixed]
  rw [foldl_fixed _ (fun _ _ => unbind_fixed _ _), deferRecords_fixed]
  rfl

@[simp] theorem returnTo_fixed (s : State) (e : EpName) (n : Nat) : (s.returnTo e n).fixed = s.fixed := by
  unfold State.returnTo
  repeat' split
  all_goals first | rfl | simp

@[simp] theorem takeReturn_fixed (s : State) (e : EpName) : (s.takeReturn e).fixed = s.fixed := foldl_fixed _ (fun _ _ => returnTo_fixed _ _ _) _ _

@[simp] theorem suspendJob_fixed (s : State) (n : Nat) : (s.suspendJob n).fixed = s.fixed := by
  unfold State.suspendJob
  simp only []
  rw [foldl_fixed _ (fun _ _ => unbind_fixed _ _), suspendRecord_fixed]

@[simp] theorem dropChannel_fixed (s : State) (c : ChannelId) : (s.dropChannel c).fixed = s.fixed := by simp [State.dropChannel]

@[simp] theorem cancelJob_fixed (s : State) (n : Nat) (j : JobRecord) : (s.cancelJob n j).fixed = s.fixed := by
  unfold State.cancelJob
  simp only []
  rw [foldl_fixed _ (fun _ _ => modClip_fixed _ _ _), foldl_fixed _ (fun _ _ => dropChannel_fixed _ _)]
  simp

/-! ### The engine's state -/

/-- `fixed` with the engine's state and timer set. -/
def Fixed.withEngine (x : Fixed) (e : EngineState) (t : Option Word64) : Fixed := { x with engine := e, resumeTimer := t }

theorem refreshEngine_fixed (s : State) :
    s.refreshEngine.fixed = s.fixed.withEngine s.refreshEngine.offload.state s.refreshEngine.offload.resumeTimer := by
  unfold State.refreshEngine
  simp only []
  split <;> rfl

/-- What `engineSettle` leaves alone: everything `fixed` gathers but the engine's state and timer (R62). -/
theorem engineSettle_fixed (s : State) :
    s.engineSettle.fixed = s.fixed.withEngine s.engineSettle.offload.state s.engineSettle.offload.resumeTimer := by
  have h1 : ∀ (l : List Nat) (t : State), (l.foldl (fun s n => s.pumpIdentify n) t).fixed = t.fixed :=
    foldl_fixed _ fun _ _ => pumpIdentify_fixed _ _
  have h2 : ∀ (l : List ChannelId) (t : State), (l.foldl (fun s c => s.pumpChannel c) t).fixed = t.fixed :=
    foldl_fixed _ fun _ _ => pumpChannel_fixed _ _
  have h (t : State) (ht : t.fixed = s.refreshEngine.fixed) :
      t.refreshEngine.refreshPool.fixed = s.fixed.withEngine t.refreshEngine.refreshPool.offload.state
        t.refreshEngine.refreshPool.offload.resumeTimer := by
    rw [refreshPool_fixed, refreshEngine_fixed, ht, refreshEngine_fixed]
    rfl
  exact h _ (by rw [h2, h1])

end Sys2Proof.Machine
end

