-- ==== Sys2Proof/Laws/Calm.lean ====
section
/-!
SUPPORT. What the picture operations leave alone. `State.calm` gathers the defect map, the request queues, the
endpoint table, the commands that wait, and whether the fault log fits. Every operation of the spotter, the look engine
and the review unit, and every ask and answer of the link unit, has one lemma: it keeps `State.calm`. The operations that
do change it are the defect requests, the request queues' own operations, ENDPOINT ADD and REMOVE, and the restarts.
-/

namespace Sys2Proof.Machine

/-- What the picture operations leave alone. -/
structure Calm where
  defectMap : List DefectSite
  requests : Vector (List Request) 4
  endpoints : List Endpoint
  pending : List Instr
  logFits : Bool

/-- What the picture operations leave alone. -/
def State.calm (s : State) : Calm where
  defectMap := s.spotter.defectMap
  requests := s.control.queues
  endpoints := s.link.endpoints
  pending := s.pending
  logFits := s.spotter.log.length.ble Config.faultLogLimit

/-- What `calm` reads of `fixed`. -/
def Fixed.calm (x : Fixed) : Calm := ⟨x.defectMap, x.requests, x.endpoints, x.pending, x.logFits⟩

theorem calm_of_fixed (s : State) : s.calm = s.fixed.calm := rfl

/-- An operation that keeps `fixed` keeps `calm`. -/
theorem calm_of_fixed_eq {s t : State} (h : s.fixed = t.fixed) : s.calm = t.calm := by
  rw [calm_of_fixed, calm_of_fixed, h]

/-- A fold of operations that keep `calm` keeps it. -/
theorem foldl_calm {α : Type} (f : State → α → State) (h : ∀ s x, (f s x).calm = s.calm) (l : List α) (s : State) :
    (l.foldl f s).calm = s.calm := foldl_keeps State.calm f h l s

@[simp] theorem engineSettle_calm (s : State) : s.engineSettle.calm = s.calm := by
  rw [calm_of_fixed, engineSettle_fixed]; rfl

@[simp] theorem modPort_calm (s : State) (p : Port) (f : PortState → PortState) : (s.modPort p f).calm = s.calm := by cases s; rfl

@[simp] theorem modStream_calm (s : State) (st : StreamId) (f : Stream → Stream) : (s.modStream st f).calm = s.calm := by cases s; rfl

@[simp] theorem modSpot_calm (s : State) (st : StreamId) (f : SpotterStream → SpotterStream) :
    (s.modSpot st f).calm = s.calm := by cases s; rfl

@[simp] theorem modSlot_calm (s : State) (k : Fin 16) (f : Slot → Slot) : (s.modSlot k f).calm = s.calm := by cases s; rfl

@[simp] theorem modSupply_calm (s : State) (f : SupplyUnit → SupplyUnit) : (s.modSupply f).calm = s.calm := by cases s; rfl

@[simp] theorem modClip_calm (s : State) (n : Nat) (f : ClipRecord → ClipRecord) : (s.modClip n f).calm = s.calm :=
  calm_of_fixed_eq (modClip_fixed _ _ _)

@[simp] theorem modJob_calm (s : State) (n : Nat) (f : JobRecord → JobRecord) : (s.modJob n f).calm = s.calm :=
  calm_of_fixed_eq (modJob_fixed _ _ _)

@[simp] theorem advanceTo_calm (s : State) (t : Word64) : (s.advanceTo t).calm = s.calm := by
  unfold State.advanceTo; split <;> rfl

@[simp] theorem reply_calm (s : State) (p : Port) (tag n : Nat) (c : ReplyCode) (r : List Byte) :
    (s.reply p tag n c r).calm = s.calm := calm_of_fixed_eq (reply_fixed _ _ _ _ _ _)

@[simp] theorem logFault_calm (s : State) (f : Filing) : (s.logFault f).calm = s.calm :=
  calm_of_fixed_eq (logFault_fixed _ _)

@[simp] theorem countFault_calm (s : State) (f : Filing) : (s.countFault f).calm = s.calm := by
  unfold State.countFault; split <;> simp

@[simp] theorem matchHolds_calm (s : State) (st : StreamId) (p : HoldCondition → Bool) :
    (s.matchHolds st p).calm = s.calm := by
  unfold State.matchHolds; split <;> rfl

/-- A filing keeps `calm`: the log never outgrows its limit (R160). -/
@[simp] theorem file_calm (s : State) (f : Filing) : (s.file f).calm = s.calm := by
  unfold State.file State.reportFault
  split <;> simp

@[simp] theorem fileIf_calm (s : State) (b : Bool) (f : Filing) : (s.fileIf b f).calm = s.calm := by
  unfold State.fileIf; split <;> simp

@[simp] theorem fileOpt_calm (s : State) (f : Option Filing) : (s.fileOpt f).calm = s.calm := by
  unfold State.fileOpt; split <;> simp

@[simp] theorem freeRaster_calm (s : State) (st : StreamId) (p : Port) : (s.freeRaster st p).calm = s.calm := by
  unfold State.freeRaster; split <;> rfl

@[simp] theorem freeBuffer_calm (s : State) (p : Port) (c : PacketClass) : (s.freeBuffer p c).calm = s.calm := by
  unfold State.freeBuffer
  split
  · simp
  all_goals split <;> rfl

/-! ### The fault spotter -/

@[simp] theorem takeDetection_calm (s : State) (st : StreamId) (clip : Nat) (frame : Word32) (l c m : Nat) : (s.takeDetection st clip frame l c m).calm = s.calm := by
  unfold State.takeDetection
  simp only []
  repeat' split
  all_goals first | rfl | simp

@[simp] theorem spotLine_calm (s : State) (st : StreamId) (clip : Nat) (frame : Word32) (line : Nat) (a b : List Rgb) : (s.spotLine st clip frame line a b).calm = s.calm := by
  unfold State.spotLine
  simp only []
  rw [foldl_calm _ (fun _ _ => takeDetection_calm _ _ _ _ _ _ _), modSpot_calm]

@[simp] theorem judgeFrame_calm (s : State) (st : StreamId) (clip : Nat) (frame : Word32) (n : Nat) : (s.judgeFrame st clip frame n).calm = s.calm := by
  simp [State.judgeFrame]

@[simp] theorem spotFrameEnd_calm (s : State) (st : StreamId) (x : FrameInProgress) : (s.spotFrameEnd st x).calm = s.calm := by
  unfold State.spotFrameEnd
  simp only []
  repeat' split
  all_goals first | rfl | simp

/-! ### Looks -/

@[simp] theorem resolve_calm (s : State) (st : StreamId) (clip : Nat) (frame : Word32) : (s.resolve st clip frame).calm = s.calm := by
  unfold State.resolve
  simp only []
  repeat' split
  all_goals first | rfl | simp

/-! ### The review unit -/

@[simp] theorem handNext_calm (s : State) (st : StreamId) : (s.handNext st).calm = s.calm := by
  unfold State.handNext
  split
  · rfl
  · simp only []
    repeat' split
    all_goals rfl

@[simp] theorem releaseInHand_calm (s : State) (st : StreamId) : (s.releaseInHand st).calm = s.calm := by
  unfold State.releaseInHand
  simp only []
  repeat' split
  all_goals first | rfl | simp

@[simp] theorem outputGone_calm (s : State) (st : StreamId) : (s.outputGone st).calm = s.calm := by
  simp [State.outputGone]

@[simp] theorem sendFrame_calm (s : State) (st : StreamId) (l : List Packet) : (s.sendFrame st l).calm = s.calm := by
  simp [State.sendFrame]

@[simp] theorem finalise_calm (s : State) (st : StreamId) : (s.finalise st).calm = s.calm := by
  unfold State.finalise
  repeat' split
  all_goals first | rfl | simp

@[simp] theorem fileRun_calm (s : State) (st : StreamId) : (s.fileRun st).calm = s.calm := by
  unfold State.fileRun
  simp only []
  repeat' split
  all_goals first | rfl | simp

@[simp] theorem present_calm (s : State) (st : StreamId) : (s.present st).calm = s.calm := by
  unfold State.present
  simp only []
  repeat' split
  all_goals first | rfl | simp

@[simp] theorem tick_calm (s : State) (st : StreamId) (h : Bool) : (s.tick st h).calm = s.calm := by
  unfold State.tick
  simp only []
  repeat' split
  all_goals first | rfl | simp

@[simp] theorem startRegrade_calm (s : State) (st : StreamId) : (s.startRegrade st).calm = s.calm := by
  unfold State.startRegrade
  simp only []
  repeat' split
  all_goals first | rfl | simp

@[simp] theorem cutRegrade_calm (s : State) (st : StreamId) : (s.cutRegrade st).calm = s.calm := by
  unfold State.cutRegrade
  split <;> rfl

@[simp] theorem judgeChange_calm (s : State) (c : LookChange) (st : StreamId) : (s.judgeChange c st).calm = s.calm := by
  unfold State.judgeChange
  repeat' split
  all_goals first | rfl | simp

@[simp] theorem lookChanged_calm (s : State) (c : LookChange) : (s.lookChanged c).calm = s.calm := foldl_calm _ (fun _ _ => judgeChange_calm _ _ _) _ _

@[simp] theorem modFrame_calm (s : State) (st : StreamId) (f : FrameInProgress → FrameInProgress) : (s.modFrame st f).calm = s.calm := rfl

@[simp] theorem noteGap_calm (s : State) (st : StreamId) (x : FrameInProgress) (e : Nat) : (s.noteGap st x e).calm = s.calm := by
  unfold State.noteGap
  repeat' split
  all_goals first | rfl | simp

@[simp] theorem enterHold_calm (s : State) (st : StreamId) (x : FrameInProgress) : (s.enterHold st x).calm = s.calm := by
  simp [State.enterHold]

@[simp] theorem readyBack_calm (s : State) (st : StreamId) (x : FrameInProgress) : (s.readyBack st x).calm = s.calm := by
  unfold State.readyBack
  simp only []
  repeat' split
  all_goals first | rfl | simp

@[simp] theorem endProcessed_calm (s : State) (st : StreamId) (x : FrameInProgress) : (s.endProcessed st x).calm = s.calm := by
  simp [State.endProcessed, apply_ite State.calm]

@[simp] theorem endFrame_calm (s : State) (st : StreamId) : (s.endFrame st).calm = s.calm := by
  unfold State.endFrame
  repeat' split
  all_goals first | rfl | simp

@[simp] theorem rejectLines_calm (s : State) (st : StreamId) (pk : RasterPacket) (x : FrameInProgress) : (s.rejectLines st pk x).calm = s.calm := by
  unfold State.rejectLines
  simp only []
  repeat' split
  all_goals first | rfl | simp

@[simp] theorem gradeLines_calm (s : State) (st : StreamId) (pk : RasterPacket) (x : FrameInProgress) : (s.gradeLines st pk x).calm = s.calm := by
  have h : ∀ (l : List ((Nat × List Rgb) × List Rgb)) (t : State),
      (l.foldl (fun s ng => s.spotLine st x.clip x.number ng.1.1 ng.1.2 ng.2) t).calm = t.calm :=
    fun l t => foldl_calm _ (fun _ _ => spotLine_calm _ _ _ _ _ _ _) l t
  unfold State.gradeLines
  simp only []
  split <;> simp [h]

@[simp] theorem takeLines_calm (s : State) (st : StreamId) (pk : RasterPacket) : (s.takeLines st pk).calm = s.calm := by
  unfold State.takeLines
  (try simp only [])
  repeat' split
  all_goals first | rfl | simp

@[simp] theorem actOnFlags_calm (s : State) (st : StreamId) (pk : RasterPacket) : (s.actOnFlags st pk).calm = s.calm := by
  simp [State.actOnFlags, apply_ite State.calm]

@[simp] theorem startFrame_calm (s : State) (st : StreamId) (clip : Nat) (n : Word32) : (s.startFrame st clip n).calm = s.calm := by
  simp [State.startFrame, apply_ite State.calm]

@[simp] theorem refuseFrame_calm (s : State) (st : StreamId) (clip : Nat) (n : Word32) : (s.refuseFrame st clip n).calm = s.calm := by
  simp [State.refuseFrame]

@[simp] theorem discardRefused_calm (s : State) (st : StreamId) (pk : RasterPacket) : (s.discardRefused st pk).calm = s.calm := by
  unfold State.discardRefused
  simp only []
  repeat' split
  all_goals first | rfl | simp

@[simp] theorem takeStart_calm (s : State) (st : StreamId) (pk : RasterPacket) : (s.takeStart st pk).calm = s.calm := by
  simp [State.takeStart, apply_ite State.calm]

@[simp] theorem takeRest_calm (s : State) (st : StreamId) (pk : RasterPacket) : (s.takeRest st pk).calm = s.calm := by
  unfold State.takeRest
  repeat' split
  all_goals first | rfl | simp

@[simp] theorem restartStall_calm (s : State) (st : StreamId) : (s.restartStall st).calm = s.calm := rfl

@[simp] theorem takeRaster_calm (s : State) (st : StreamId) : (s.takeRaster st).calm = s.calm := by
  unfold State.takeRaster
  split
  · split
    · rfl
    · simp only []
      repeat' split
      all_goals simp
  · rfl

@[simp] theorem rasterArrives_calm (s : State) (st : StreamId) (pk : RasterPacket) : (s.rasterArrives st pk).calm = s.calm := by
  unfold State.rasterArrives
  simp only []
  split <;> rfl

@[simp] theorem takeWaiting_calm (st : StreamId) (n : Nat) (s : State) : (State.takeWaiting st n s).calm = s.calm := by
  induction n generalizing s with
  | zero => rfl
  | succ n ih => simp [State.takeWaiting, ih]

@[simp] theorem releaseHold_calm (s : State) (st : StreamId) : (s.releaseHold st).calm = s.calm := by
  unfold State.releaseHold
  simp only [takeWaiting_calm, releaseInHand_calm, modStream_calm, restartStall_calm]
  split <;> simp [apply_ite State.calm]

@[simp] theorem openStream_calm (s : State) (st : StreamId) (x : StreamParams) : (s.openStream st x).calm = s.calm := by
  simp [State.openStream, apply_ite State.calm]

@[simp] theorem closeStream_calm (s : State) (st : StreamId) : (s.closeStream st).calm = s.calm := by
  simp [State.closeStream, apply_ite State.calm]

@[simp] theorem pacingTicks_calm (s : State) (st : StreamId) : (s.pacingTicks st).calm = s.calm := by
  unfold State.pacingTicks
  generalize (s.stream st).nextTick = x
  split
  · rfl
  · simp only [tick_calm, modStream_calm, advanceTo_calm]

@[simp] theorem stallExpires_calm (s : State) (st : StreamId) : (s.stallExpires st).calm = s.calm := by
  unfold State.stallExpires
  simp only []
  repeat' split
  all_goals first | rfl | simp

@[simp] theorem finishRegrade_calm (s : State) (st : StreamId) : (s.finishRegrade st).calm = s.calm := by
  unfold State.finishRegrade
  (try simp only [])
  repeat' split
  all_goals first | rfl | simp

/-! ### The link unit -/

@[simp] theorem rejectPacket_calm (s : State) (p : Port) (c : PacketClass) (h : RxHeader) (n : Nat) : (s.rejectPacket p c h n).calm = s.calm := by
  simp [State.rejectPacket]

@[simp] theorem completeAsk_calm (s : State) (p : Port) (tag : Nat) (l : LiveAsk) (r : AskEnd) : (s.completeAsk p tag l r).calm = s.calm := by
  unfold State.completeAsk
  simp only []
  rw [engineSettle_calm, calm_of_fixed_eq (askEnded_fixed _ _ _ _), modPort_calm]

@[simp] theorem takeAnswer_calm (s : State) (p : Port) (h : RxHeader) (b : List Byte) : (s.takeAnswer p h b).calm = s.calm := by
  unfold State.takeAnswer
  repeat' split
  all_goals simp

@[simp] theorem takeBlock_calm (s : State) (p : Port) (h : RxHeader) (b : List Byte) : (s.takeBlock p h b).calm = s.calm := by
  unfold State.takeBlock
  repeat' split
  all_goals first | rfl | simp

@[simp] theorem takeRasterPacket_calm (s : State) (p : Port) (st : StreamId) (h : RxHeader) (b : List Byte) : (s.takeRasterPacket p st h b).calm = s.calm := by
  unfold State.takeRasterPacket
  repeat' split
  all_goals simp

@[simp] theorem servePacket_calm (s : State) (p : Port) (k : Fin 4) : (s.servePacket p k).calm = s.calm := by
  unfold State.servePacket
  split
  · rfl
  · simp only []
    split <;> simp

@[simp] theorem startFrameOn_calm (s : State) (p : Port) : (s.startFrameOn p).calm = s.calm := by
  unfold State.startFrameOn
  simp only []
  repeat' split
  all_goals first | rfl | simp

@[simp] theorem askSent_calm (s : State) (p : Port) (tag : Nat) : (s.askSent p tag).calm = s.calm := by
  unfold State.askSent
  repeat' split
  all_goals rfl

@[simp] theorem markNoticed_length (log : List FaultEntry) (n : Nat) : (markNoticed log n).length = log.length := by
  unfold markNoticed; split <;> simp

@[simp] theorem noticeSent_calm (s : State) : (s.noticeSent).calm = s.calm := by
  unfold State.noticeSent
  split <;> simp [State.calm]

@[simp] theorem packetSent_calm (s : State) (p : Port) (o : Owner) : (s.packetSent p o).calm = s.calm := by
  unfold State.packetSent
  repeat' split
  all_goals first | rfl | simp

@[simp] theorem endFrameOn_calm (s : State) (p : Port) : (s.endFrameOn p).calm = s.calm := by
  unfold State.endFrameOn
  split
  · rfl
  · simp only []
    split <;> simp

@[simp] theorem creditTimerEnds_calm (s : State) (p : Port) : (s.creditTimerEnds p).calm = s.calm := by
  unfold State.creditTimerEnds
  repeat' split
  all_goals first | rfl | simp

@[simp] theorem expireAsk_calm (s : State) (p : Port) (e : EntryId) : (s.expireAsk p e).calm = s.calm := by
  unfold State.expireAsk
  split
  · rfl
  · simp only []
    rw [engineSettle_calm, calm_of_fixed_eq (askEnded_fixed _ _ _ _), modPort_calm, advanceTo_calm]

@[simp] theorem grantEntry_calm (s : State) (p : Port) : (s.grantEntry p).calm = s.calm := by
  unfold State.grantEntry
  split
  · simp only []
    rw [engineSettle_calm]
    split
    · rfl
    · rw [calm_of_fixed_eq (askEnded_fixed _ _ _ _), modPort_calm]
  · rfl

@[simp] theorem chooseNotice_calm (s : State) : (s.chooseNotice).calm = s.calm := by
  unfold State.chooseNotice
  simp only []
  repeat' split
  all_goals rfl

end Sys2Proof.Machine
end

