-- ==== Sys2Proof/Laws/Control.lean ====
section
/-!
SUPPORT. What the path of a request does (R21, R22), said once: a request row carries out its rule on the request it is
taken with, and leaves the state alone otherwise.
-/

namespace Sys2Proof.Machine

@[simp] theorem State.whenRunning_running {s : State} (h : s.running = true) (f : State → State) : s.whenRunning f = f s := by
  simp [State.whenRunning, h]

@[simp] theorem State.whenRunning_held {s : State} (h : s.running = false) (f : State → State) : s.whenRunning f = s := by
  simp [State.whenRunning, h]

/-- A row whose number is that of the request taken next carries out its rule. -/
theorem State.carryOut_taking {s : State} {p : Port} {r : Request} (h : s.Taking p r) (rule : State → Port → Request → State) :
    s.carryOut r.number rule = rule (s.takeRequest p) p r := by
  simp [State.carryOut, State.whenRunning, h.1, h.2]

/-- A row of another number leaves the state as it is. -/
theorem State.carryOut_other {s : State} {p : Port} {r : Request} {n : Nat} (h : s.Taking p r) (hn : r.number ≠ n)
    (rule : State → Port → Request → State) : s.carryOut n rule = s := by
  simp [State.carryOut, State.whenRunning, h.1, h.2, hn]

/-- With no request to take, or on a held part, a row leaves the state as it is. -/
theorem State.carryOut_none {s : State} (h : s.running = false ∨ s.nextRequest = none) (n : Nat)
    (rule : State → Port → Request → State) : s.carryOut n rule = s := by
  rcases h with h | h <;> simp [State.carryOut, State.whenRunning, h]

/-- A request that is answered at once: its rule on its arguments, then the reply. -/
theorem State.serve_taking {s : State} {p : Port} {r : Request} (h : s.Taking p r) (rule : State → List Byte → Served) :
    s.serve r.number rule = (s.takeRequest p).answer p r (rule (s.takeRequest p) r.args) :=
  s.carryOut_taking h _

/-- The answer to a request whose rule gave a state and a reply, and to one whose arguments had no admissible length. -/
@[simp] theorem State.answer_some (s t : State) (p : Port) (r : Request) (y : Reply) :
    s.answer p r (some (t, y)) = t.answered p r y.code y.result := rfl

@[simp] theorem State.answer_none (s : State) (p : Port) (r : Request) :
    s.answer p r none = s.answered p r .badArgument [] := rfl

end Sys2Proof.Machine
end

