-- ==== Sys2Proof/Laws/PerInstr.lean ====
section
/-!
SUPPORT. Facts about every row of the table, one lemma per constructor of `Instr`. `TableRow.Statement`: a row that names
a request names one of the numbers in use (R22 check 1), and such a row carries no operand that could be ill formed.
-/

namespace Sys2Proof.Laws

/-- A request row's number is in use, and the row is well formed (R22). -/
def TableRow.Statement (i : Instr) : Prop :=
  ∀ n, i.request = some n → Machine.knownRequest n = true ∧ i.wf = true

theorem TableRow.partnerDetected (port : Port) : TableRow.Statement (.partnerDetected port) := fun _ h => nomatch h

theorem TableRow.linkUp (port : Port) : TableRow.Statement (.linkUp port) := fun _ h => nomatch h

theorem TableRow.linkDown (port : Port) : TableRow.Statement (.linkDown port) := fun _ h => nomatch h

theorem TableRow.packetFrameReceived (port : Port) (frame : List Byte) : TableRow.Statement (.packetFrameReceived port frame) :=
  fun _ h => nomatch h

theorem TableRow.creditFrameReceived (port : Port) (frame : List Byte) : TableRow.Statement (.creditFrameReceived port frame) :=
  fun _ h => nomatch h

theorem TableRow.creditFrameTimer (port : Port) : TableRow.Statement (.creditFrameTimer port) := fun _ h => nomatch h

theorem TableRow.frameTransmitStart (port : Port) : TableRow.Statement (.frameTransmitStart port) :=
  fun _ h => nomatch h

theorem TableRow.frameTransmitEnd (port : Port) : TableRow.Statement (.frameTransmitEnd port) := fun _ h => nomatch h

theorem TableRow.askExpiry (port : Port) (entry : EntryId) : TableRow.Statement (.askExpiry port entry) :=
  fun _ h => nomatch h

theorem TableRow.askEntryGrant (port : Port) : TableRow.Statement (.askEntryGrant port) := fun _ h => nomatch h

theorem TableRow.unknownRequest : TableRow.Statement (.unknownRequest) := fun _ h => nomatch h

theorem TableRow.statusRead : TableRow.Statement (.statusRead) := by
  intro n h
  cases h
  exact ⟨rfl, rfl⟩

theorem TableRow.softRestart : TableRow.Statement (.softRestart) := by
  intro n h
  cases h
  exact ⟨rfl, rfl⟩

theorem TableRow.softRestartExecute : TableRow.Statement (.softRestartExecute) := fun _ h => nomatch h

theorem TableRow.optionsRead : TableRow.Statement (.optionsRead) := by
  intro n h
  cases h
  exact ⟨rfl, rfl⟩

theorem TableRow.portRolesSet : TableRow.Statement (.portRolesSet) := by
  intro n h
  cases h
  exact ⟨rfl, rfl⟩

theorem TableRow.endpointAdd : TableRow.Statement (.endpointAdd) := by
  intro n h
  cases h
  exact ⟨rfl, rfl⟩

theorem TableRow.endpointRemove : TableRow.Statement (.endpointRemove) := by
  intro n h
  cases h
  exact ⟨rfl, rfl⟩

theorem TableRow.endpointList : TableRow.Statement (.endpointList) := by
  intro n h
  cases h
  exact ⟨rfl, rfl⟩

theorem TableRow.noticePortSet : TableRow.Statement (.noticePortSet) := by
  intro n h
  cases h
  exact ⟨rfl, rfl⟩

theorem TableRow.jobAdd : TableRow.Statement (.jobAdd) := by
  intro n h
  cases h
  exact ⟨rfl, rfl⟩

theorem TableRow.jobCancel : TableRow.Statement (.jobCancel) := by
  intro n h
  cases h
  exact ⟨rfl, rfl⟩

theorem TableRow.jobResume : TableRow.Statement (.jobResume) := by
  intro n h
  cases h
  exact ⟨rfl, rfl⟩

theorem TableRow.jobRemove : TableRow.Statement (.jobRemove) := by
  intro n h
  cases h
  exact ⟨rfl, rfl⟩

theorem TableRow.jobRead : TableRow.Statement (.jobRead) := by
  intro n h
  cases h
  exact ⟨rfl, rfl⟩

theorem TableRow.clipRead : TableRow.Statement (.clipRead) := by
  intro n h
  cases h
  exact ⟨rfl, rfl⟩

theorem TableRow.channelLimitSet : TableRow.Statement (.channelLimitSet) := by
  intro n h
  cases h
  exact ⟨rfl, rfl⟩

theorem TableRow.offloadPause : TableRow.Statement (.offloadPause) := by
  intro n h
  cases h
  exact ⟨rfl, rfl⟩

theorem TableRow.offloadContinue : TableRow.Statement (.offloadContinue) := by
  intro n h
  cases h
  exact ⟨rfl, rfl⟩

theorem TableRow.destRelease : TableRow.Statement (.destRelease) := by
  intro n h
  cases h
  exact ⟨rfl, rfl⟩

theorem TableRow.destReclaim : TableRow.Statement (.destReclaim) := by
  intro n h
  cases h
  exact ⟨rfl, rfl⟩

theorem TableRow.lookBegin : TableRow.Statement (.lookBegin) := by
  intro n h
  cases h
  exact ⟨rfl, rfl⟩

theorem TableRow.lookData : TableRow.Statement (.lookData) := by
  intro n h
  cases h
  exact ⟨rfl, rfl⟩

theorem TableRow.lookCommit : TableRow.Statement (.lookCommit) := by
  intro n h
  cases h
  exact ⟨rfl, rfl⟩

theorem TableRow.lookDiscard : TableRow.Statement (.lookDiscard) := by
  intro n h
  cases h
  exact ⟨rfl, rfl⟩

theorem TableRow.directorySet : TableRow.Statement (.directorySet) := by
  intro n h
  cases h
  exact ⟨rfl, rfl⟩

theorem TableRow.clipSetLook : TableRow.Statement (.clipSetLook) := by
  intro n h
  cases h
  exact ⟨rfl, rfl⟩

theorem TableRow.lookStatus : TableRow.Statement (.lookStatus) := by
  intro n h
  cases h
  exact ⟨rfl, rfl⟩

theorem TableRow.reviewOpen : TableRow.Statement (.reviewOpen) := by
  intro n h
  cases h
  exact ⟨rfl, rfl⟩

theorem TableRow.reviewClose : TableRow.Statement (.reviewClose) := by
  intro n h
  cases h
  exact ⟨rfl, rfl⟩

theorem TableRow.reviewRead : TableRow.Statement (.reviewRead) := by
  intro n h
  cases h
  exact ⟨rfl, rfl⟩

theorem TableRow.qcConfig : TableRow.Statement (.qcConfig) := by
  intro n h
  cases h
  exact ⟨rfl, rfl⟩

theorem TableRow.defectAdd : TableRow.Statement (.defectAdd) := by
  intro n h
  cases h
  exact ⟨rfl, rfl⟩

theorem TableRow.defectRemove : TableRow.Statement (.defectRemove) := by
  intro n h
  cases h
  exact ⟨rfl, rfl⟩

theorem TableRow.defectPromote : TableRow.Statement (.defectPromote) := by
  intro n h
  cases h
  exact ⟨rfl, rfl⟩

theorem TableRow.defectList : TableRow.Statement (.defectList) := by
  intro n h
  cases h
  exact ⟨rfl, rfl⟩

theorem TableRow.candidatesRead : TableRow.Statement (.candidatesRead) := by
  intro n h
  cases h
  exact ⟨rfl, rfl⟩

theorem TableRow.faultTake : TableRow.Statement (.faultTake) := by
  intro n h
  cases h
  exact ⟨rfl, rfl⟩

theorem TableRow.faultPeek : TableRow.Statement (.faultPeek) := by
  intro n h
  cases h
  exact ⟨rfl, rfl⟩

theorem TableRow.clipClearFaults : TableRow.Statement (.clipClearFaults) := by
  intro n h
  cases h
  exact ⟨rfl, rfl⟩

theorem TableRow.holdSet : TableRow.Statement (.holdSet) := by
  intro n h
  cases h
  exact ⟨rfl, rfl⟩

theorem TableRow.holdClear : TableRow.Statement (.holdClear) := by
  intro n h
  cases h
  exact ⟨rfl, rfl⟩

theorem TableRow.holdRelease : TableRow.Statement (.holdRelease) := by
  intro n h
  cases h
  exact ⟨rfl, rfl⟩

theorem TableRow.noticeChoose : TableRow.Statement (.noticeChoose) := fun _ h => nomatch h

theorem TableRow.jobActivation (job : Nat) : TableRow.Statement (.jobActivation job) := fun _ h => nomatch h

theorem TableRow.channelBind : TableRow.Statement (.channelBind) := fun _ h => nomatch h

theorem TableRow.bufferTake : TableRow.Statement (.bufferTake) := fun _ h => nomatch h

theorem TableRow.drainComplete (port : Port) (id : Nat) : TableRow.Statement (.drainComplete port id) :=
  fun _ h => nomatch h

theorem TableRow.resumeTimerExpiry : TableRow.Statement (.resumeTimerExpiry) := fun _ h => nomatch h

theorem TableRow.rasterTaken (stream : StreamId) : TableRow.Statement (.rasterTaken stream) := fun _ h => nomatch h

theorem TableRow.pacingTick (stream : StreamId) : TableRow.Statement (.pacingTick stream) := fun _ h => nomatch h

theorem TableRow.stallTimerExpiry (stream : StreamId) : TableRow.Statement (.stallTimerExpiry stream) :=
  fun _ h => nomatch h

theorem TableRow.regradeEnd (stream : StreamId) : TableRow.Statement (.regradeEnd stream) := fun _ h => nomatch h

theorem TableRow.railLevelChange (millivolts : Nat) : TableRow.Statement (.railLevelChange millivolts) :=
  fun _ h => nomatch h

theorem TableRow.warnEntryFilter : TableRow.Statement (.warnEntryFilter) := fun _ h => nomatch h

theorem TableRow.warnClearFilter : TableRow.Statement (.warnClearFilter) := fun _ h => nomatch h

theorem TableRow.supplyResumeTimer : TableRow.Statement (.supplyResumeTimer) := fun _ h => nomatch h

theorem TableRow.critFilter : TableRow.Statement (.critFilter) := fun _ h => nomatch h

theorem TableRow.brownoutRestart (block : Option (List Byte)) : TableRow.Statement (.brownoutRestart block) :=
  fun _ h => nomatch h

theorem TableRow.powerOnRestart (block : Option (List Byte)) : TableRow.Statement (.powerOnRestart block) :=
  fun _ h => nomatch h

end Sys2Proof.Laws
end

