-- ==== Sys2Proof/Tests/Slice0.lean ====
section
/-!
SUPPORT. The model's own tests: that each check of WellFormed refuses an ill-formed command, examples of the manual worked
by the model, one small step for most commands, and, for every statement with hypotheses, a state and operands that meet
them (theorems witness_<Name>). Expected values come from the manual's worked examples or from its rules by hand.
-/

open Sys2Proof
open Sys2Proof.Machine

namespace Sys2Proof.Tests

set_option Elab.async false

/-! ### Helpers -/

/-- The bytes of a list of numbers. -/
def bytes (l : List Nat) : List Byte := l.map byteOf

/-- The state exec leaves; the state before where it answers no next state. -/
def after (c : Instr) (s : State) : State :=
  match exec c s with
  | .next t => t
  | _ => s

/-- The state in which the request waits at the head of port L0's queue, alone, on a running part. -/
def asking (s : State) (r : Request) : State :=
  { s with
    control := { s.control with queues := (Vector.replicate 4 []).set 0 [r], lastServed := 3, softRestart := .none }
    supply := { s.supply with power := .running } }

/-- The control unit takes that request next, from port L0. -/
theorem asking_taking (s : State) (r : Request) : (asking s r).Taking 0 r :=
  ⟨rfl, by simp [State.nextRequest, asking, portsAfter, State.oldestRequest]⟩

/-- The state with every port UP and eight credits of each class, granted and held. -/
def up (s : State) : State :=
  { s with link := { s.link with ports := s.link.ports.map fun (x : PortState) =>
      { x with link := .up, receive := Vector.replicate 4 ⟨8, 0⟩, send := Vector.replicate 4 ⟨8, 0⟩ } } }

/-- The part with every port UP. -/
def live : State := up State.reset

/-- The payload of the last packet in port L0's control queue. -/
def answer (s : State) : List Byte := (((s.port 0).queueOf .control).getLast?.map (·.payload)).getD []

/-- What a request is answered: its outcome code and its result fields. -/
def reply (c : Instr) (s : State) (number : Nat) (args : List Nat) : List Nat :=
  let a := (answer (after c (asking s ⟨number, 5, bytes args⟩))).map (·.toNat)
  (a.drop 1).take 1 ++ a.drop 5

/-- Card 1 of port L1, and the destinations 1 of L2 and 2 of L2. -/
def card : EpName := ⟨1, 1⟩
def diskA : EpName := ⟨2, 1⟩
def diskB : EpName := ⟨2, 2⟩

/-- The endpoints of the tests: the card, the two destinations in the given states, and a decoder and a display on L3. -/
def endpoints (a b : EndpointState) : List Endpoint :=
  [⟨card, .source, 2000, .online⟩, ⟨diskA, .dest, 2000, a⟩, ⟨diskB, .dest, 2000, b⟩, ⟨⟨3, 1⟩, .decoder, 2000, .online⟩,
    ⟨⟨3, 2⟩, .display, 2000, .online⟩]

/-- A destination record. -/
def record (e : EpName) (state : DestState) (verified attempts : Nat) : DestRecord := ⟨e, state, verified, attempts, none⟩

/-- A ten-byte clip of a job. -/
def clipOf (job : Nat) (state : CopyState) (dests : List DestRecord) : ClipRecord :=
  { job := job, cameraTag := 3, fileId := 77, name := [90], size := 10, expectedFrames := none, look := none
    copyState := state, hashed := 0, register := 0xFFFFFFFFFFFFFFFF#64, fileCrc := none, dests := dests, qc := .unchecked
    framesSeen := 0, highestFrame := none, copyFaults := 0, pictureFaults := 0, timingFaults := 0
    currentStreams := #v[false, false] }

/-- A job of the card with the given destinations and clips. -/
def jobOf (state : JobState) (dests : List EpName) (clips : List Nat) : JobRecord :=
  { source := card, dests := dests.map fun e => ⟨e, [65]⟩, clips := clips, limit := 2, reseed := false, state := state
    suspend := none, medium := none, standing := none }

/-- Job 0 in a state, with clip 0, in the admission list, over the endpoints. -/
def copying (j : JobRecord) (c : ClipRecord) : State :=
  let s := (live.setEndpoints (endpoints .online .online)).setJob 0 (some j)
  { s.setClip 0 (some c) with table := { (s.setClip 0 (some c)).table with admission := [0] } }

/-- A QUEUED job 0 with one WAITING clip and two PENDING records. -/
def queued : State := copying (jobOf .queued [diskA, diskB] [0]) (clipOf 0 .waiting [record diskA .pending 0 0, record diskB .pending 0 0])

/-- The job of `queued` ACTIVE and CONFIRMED. -/
def active : State := queued.setJob 0 (some { jobOf .active [diskA, diskB] [0] with standing := some .confirmed })

/-- A binding of clip 0 of job 0 to its card, with the given held extents and lanes. -/
def binding (held : List HeldExtent) (lanes : List Lane) : Binding :=
  { job := 0, clip := 0, source := .card card, handle := some 7, openAttempts := 1, opening := false, readPos := 0
    readAttempts := 0, reading := false, held := held, lanes := lanes, peerRegister := 0xFFFFFFFFFFFFFFFF#64, peerNext := 0
    notes := [] }

/-- A lane with its file open. -/
def laneOf (dest : Nat) : Lane := ⟨dest, some 11, 0, none, none, none, none, false, false⟩

/-- Clip 0 COPYING on channel 0 with both records IN_PROGRESS. -/
def bound (b : Binding) : State :=
  (active.setClip 0 (some (clipOf 0 .copying [record diskA .inProgress 0 0, record diskB .inProgress 0 0]))).setChannel 0
    (.bound b)

/-- Ask `a` AWAITING in entry `n` of a port, generation 1, its answer timer ending at `time`. -/
def asked (s : State) (p : Port) (n : EntryId) (a : Ask) (time : Word64) : State :=
  s.modPort p fun x => { x with asks := x.asks.set n.val ⟨1, some ⟨a, .awaiting time, []⟩⟩ n.isLt }

/-- A log entry: a stall of stream 0. -/
def stallEntry : FaultEntry := ⟨.stall, 5, none, none, none, none, some 0, 500, false⟩

/-- A state whose log holds `n` entries. -/
def logged (n : Nat) : State := { live with spotter := { live.spotter with log := List.replicate n stallEntry } }

/-- Stream 0 with parts changed. -/
def stream (f : Stream → Stream) : State := (live.setEndpoints (endpoints .online .online)).modStream 0 f

/-- Parameters of a stream 16 by 16 from decoder 1 to display 2 of L3, at 24,000/1,001. -/
def params (m : Mode) : StreamParams :=
  { decoder := ⟨3, 1⟩, output := ⟨3, 2⟩, width := 16, height := 16, encoding := .full10, mode := m, rateNum := 24000
    rateDen := 1001, stallMs := 500, clearWhileHeld := false }

/-- Stream 0 RUNNING with those parameters. -/
def running (m : Mode) (f : Stream → Stream) : State :=
  stream fun _ => f { Stream.closed (params m) with state := .running }

/-- Stream 0 RUNNING with frame 9 of clip 0 in progress at line 4, and packets waiting. -/
def filling (mode : Mode) (queue : List RasterPacket) (f : FrameInProgress → FrameInProgress) : State :=
  (copying (jobOf .active [diskA] [0]) (clipOf 0 .complete [record diskA .verified 1 0])).modStream 0 fun _ =>
    { Stream.closed (params mode) with
      state := .running, currentClip := some 0, lastFrame := some 9, queue := queue
      back := some ⟨0, 9, false, List.replicate 4 []⟩, frame := some (f ⟨0, 9, false, 4, false, false, false, false⟩) }

/-- A packet of one black line of clip 0. -/
def packetOf (frame : Word32) (first width : Nat) (start : Bool) : RasterPacket :=
  ⟨3, 0, frame, first, width, start, false, false, [List.replicate 16 ⟨0, 0, 0⟩], false⟩

/-- Clip 0 copied whole to destination 2 from the peer on destination 1. -/
def seeded (crc : Option Word64) : State :=
  ((bound { binding [] [laneOf 1] with source := .peer diskA 0, readPos := 1, peerNext := 1, peerRegister := 5 }).modClip 0 fun c =>
    { c with fileCrc := crc, dests := [record diskA .verified 1 0, record diskB .inProgress 1 0] })

/-! ### WellFormed refuses each ill-formed command -/

theorem test_wf_empty_frame : (Instr.packetFrameReceived 0 []).wf = false := by decide +kernel
theorem test_wf_credit_as_packet : (Instr.packetFrameReceived 0 (creditFrameBytes 1 2 3 4)).wf = false := by decide +kernel
theorem test_wf_cut_packet : (Instr.packetFrameReceived 0 ((packetFrameBytes 1 0 0 9 [1, 2]).take 16)).wf = false := by
  decide +kernel
theorem test_wf_short_credit : (Instr.creditFrameReceived 0 ((creditFrameBytes 1 2 3 4).take 12)).wf = false := by
  decide +kernel
theorem test_wf_packet_as_credit : (Instr.creditFrameReceived 0 (List.replicate 13 1)).wf = false := by decide +kernel
theorem test_wf_job_number : (Instr.jobActivation 16).wf = false := by decide
theorem test_wf_drain_low : (Instr.drainComplete 0 0).wf = false := by decide
theorem test_wf_drain_high : (Instr.drainComplete 0 16).wf = false := by decide
theorem test_wf_brownout_block : (Instr.brownoutRestart (some [1])).wf = false := by decide
theorem test_wf_power_block : (Instr.powerOnRestart (some (List.replicate 10 0))).wf = false := by decide
theorem test_wf_good_packet : (Instr.packetFrameReceived 0 (packetFrameBytes 1 0 0 9 [1, 2])).wf = true := by decide +kernel
theorem test_wf_good_credit : (Instr.creditFrameReceived 0 (creditFrameBytes 1 2 3 4)).wf = true := by decide +kernel

/-- No word spells a command: the table gives its rows no bits. -/
theorem test_decode_none : decodeTableWord 16 0x1234 = none := rfl

/-- A word that spells no command leaves the state as it is. -/
theorem test_fetch_none : State.reset.withFetchWord 16 0x1234 = State.reset := rfl

/-! ### Checksums and worked examples of the manual -/

/-- The check value of the CRC with R76's polynomial, start, order and final exclusive-OR, for the nine bytes
"123456789", as published (CRC-64/WE). -/
theorem test_crc64 : crc64 (bytes [49, 50, 51, 52, 53, 54, 55, 56, 57]) = 0x62EC59E3F1A4F00A#64 := by decide +kernel

/-- The check value of the CRC with section 1.7's CRC-32 parameters, for the nine bytes "123456789", as published
(CRC-32/BZIP2). -/
theorem test_crc32 : crc32 (bytes [49, 50, 51, 52, 53, 54, 55, 56, 57]) = 0xFC891918#32 := by decide +kernel

/-- The check value of the CRC with section 1.7's CRC-8 parameters, for the nine bytes "123456789", as published
(CRC-8/SMBUS). -/
theorem test_crc8 : crc8 (bytes [49, 50, 51, 52, 53, 54, 55, 56, 57]) = 0xF4#8 := by decide +kernel

/-- The bank of the worked pixel (section 8.11). -/
def workedBank : Bank where
  size := some 17
  tables := #v[[(128, 40000)], [(64, 20000), (65, 20300)], [(187, 50000), (188, 50400)],
    [4915, -614, -205, -205, 4506, -205, -205, -614, 4915, 0, 0, -1000].zipIdx.map fun xi => (xi.2, xi.1),
    [(11505, 40960), (11506, 20480), (11507, 49152), (11508, 44032), (11509, 20992), (11510, 49664), (11559, 44544),
      (11560, 22016), (11561, 50176), (12426, 45056), (12427, 22528), (12428, 51200)]]

/-- The worked pixel (section 8.11) in its three encodings. -/
theorem test_worked_pixel :
    gradePixel (some workedBank) .full10 ⟨2048, 1030, 3000⟩ = ⟨661, 329, 776⟩ ∧
      gradePixel (some workedBank) .narrow10 ⟨2048, 1030, 3000⟩ = ⟨630, 346, 729⟩ ∧
      gradePixel (some workedBank) .full12 ⟨2048, 1030, 3000⟩ = ⟨2647, 1318, 3108⟩ := by decide +kernel

/-- The worked pixel's lumas at the taps, and its red code in bypass (section 8.11). -/
theorem test_worked_luma : luma ⟨2048, 1030, 3000⟩ = 1389 ∧ luma ⟨661, 329, 776⟩ = 432 ∧ bypassValue 2048 = 32776 ∧
    Encoding.full10.encode 32776 = 512 := by decide +kernel

/-- The worked concealment (section 8.11). -/
theorem test_worked_concealment :
    (concealLine [(7, 1), (7, 2)] 7 [⟨100, 0, 0⟩, ⟨4000, 0, 0⟩, ⟨120, 0, 0⟩, ⟨140, 0, 0⟩]).map (·.r) = [100, 110, 2070, 140] ∧
      (concealLine [(7, 0), (7, 1), (7, 2)] 7 [⟨100, 0, 0⟩, ⟨4000, 0, 0⟩, ⟨120, 0, 0⟩, ⟨140, 0, 0⟩]).map (·.r) =
        [4000, 110, 2070, 140] := by decide +kernel

/-- The worked ticks of a stream at 24,000/1,001 (section 9.9). -/
theorem test_worked_ticks : (List.range 4).map (fun k => (tickInstant (params .paced) 0 k).toNat) = [0, 41708, 83416, 125125] := by
  decide +kernel

/-- The worked clipping frames (section 10.9): 9,000 and 10,368 red codes of 2,073,600 against 5 per mille. -/
theorem test_worked_clipping : clippingCondition QcConfig.default 9000 2073600 = false ∧
    clippingCondition QcConfig.default 10368 2073600 = true ∧
    (clippingFiling 1 30 105 0 20736 2073600).detail = 2560 := by decide +kernel

/-- The worked hot sites (section 10.8): a red and a green code above both neighbours by 256 or more. -/
theorem test_worked_hot : hotMask 256 ⟨300, 0, 0⟩ ⟨900, 0, 0⟩ ⟨400, 0, 0⟩ = 1 ∧
    hotMask 256 ⟨0, 1200, 0⟩ ⟨0, 3000, 0⟩ ⟨0, 1300, 0⟩ = 2 ∧ hotMask 256 ⟨300, 0, 0⟩ ⟨555, 0, 0⟩ ⟨299, 0, 0⟩ = 0 := by
  decide +kernel

/-- The extents of the worked copy (section 5.8). -/
theorem test_worked_extents : extentCount 10485760 = 3 ∧ extentLength 10485760 1 = 4194304 ∧
    extentLength 10485760 2 = 2097152 ∧ extentCount 0 = 0 := by decide +kernel

/-! ### Small steps: the link unit -/

theorem test_partner_detected : ((after (.partnerDetected 2) State.reset).port 2).link = .training := by decide +kernel

/-- Entering UP grants 4 control and 64 bulk credits, and a credit frame is due (R3). -/
theorem test_link_up :
    let t := after (.linkUp 1) (after (.partnerDetected 1) State.reset)
    (t.port 1).link = .up ∧ (t.port 1).receive = #v[⟨4, 0⟩, ⟨64, 0⟩, ⟨0, 0⟩, ⟨0, 0⟩] ∧ (t.port 1).creditDue = true := by
  decide +kernel

/-- Leaving UP files LINK_DOWN and takes the port's endpoints OFFLINE (R2, R12). -/
theorem test_link_down :
    let t := after (.linkDown 2) queued
    t.spotter.log.map (·.kind) = [.linkDown] ∧ t.link.endpoints.map (·.state) = [.online, .offline, .offline, .online, .online] := by
  decide +kernel

/-- A CONTROL packet's request joins the queue (R20). -/
theorem test_control_packet :
    ((after (.packetFrameReceived 0 (packetFrameBytes 1 0 0 9 (bytes [1, 0, 0, 0]))) live).control.queues[0]) = [⟨1, 9, []⟩] := by
  decide +kernel

/-- An ANSWER OK to a WRITE moves the lane's write position on, and the read-back of the extent is asked (R78, R79). -/
theorem test_answer_write :
    let ask : Ask := ⟨diskA, .write 0 0 0, .write 11 0 [1, 2]⟩
    let lanes : List Lane := [{ laneOf 0 with write := some 0 }, { laneOf 1 with write := some 0 }]
    let s := asked (bound { binding [⟨0, 10, .read 5 (bytes [1, 2, 3, 4, 5, 6, 7, 8, 9, 10])⟩] lanes with readPos := 1 }) 2 0 ask 100
    let t := after (.packetFrameReceived 2 (packetFrameBytes 5 1 0 64 (bytes [0, 0, 0, 0, 0]))) s
    (((t.binding? 0).elim [] (·.lanes)).map fun l => (l.writePos, l.write, l.verify)) = [(1, none, some 0), (0, some 0, none)] := by
  decide +kernel

/-- An ANSWER of status ERROR gives its asker the endpoint's error code, one of NO_MEDIUM that alone (R18). -/
theorem test_answer_error : parseAnswer .identify 0 (bytes [1, 0, 0, 1, 2]) = some (.error 258) ∧
    parseAnswer .identify 0 (bytes [2, 0, 0, 0, 0]) = some .noMedium := by decide +kernel

/-- A credit frame replaces the partner's totals (R8). -/
theorem test_credit_frame :
    ((after (.creditFrameReceived 3 (creditFrameBytes 10 20 30 40)) live).port 3).send =
      #v[⟨10, 0⟩, ⟨20, 0⟩, ⟨30, 0⟩, ⟨40, 0⟩] := by decide +kernel

/-- A damaged credit frame is ignored (R8). -/
theorem test_credit_damaged :
    ((after (.creditFrameReceived 3 (2 :: 1 :: (creditFrameBytes 10 20 30 40).drop 2)) live).port 3).send = (live.port 3).send := by
  decide +kernel

theorem test_credit_timer :
    ((after (.creditFrameTimer 0) (live.modPort 0 fun x => { x with creditTimer := some 1000 })).port 0).creditDue = true := by
  decide +kernel

/-- A packet waiting in the control queue starts, with its frame on the wire (R9, section 1.7). -/
theorem test_transmit_start :
    let s := live.modPort 0 fun x => x.enqueue .control ⟨.reply, 0, 0, 9, [1, 0, 0, 0, 0], .reply⟩
    ((after (.frameTransmitStart 0) s).port 0).wire = packetFrameBytes 2 0 0 9 [1, 0, 0, 0, 0] := by decide +kernel

/-- The end of a NOTICE marks its entry noticed (R29). -/
theorem test_transmit_end :
    let s := (logged 2).modPort 0 fun x => { x with transmitting := some (.packet ⟨.notice, 0, 0, 0, [], .notice⟩) }
    let t := after (.frameTransmitEnd 0) { s with control := { s.control with notice := .carrying 1 } }
    t.spotter.log.map (·.noticed) = [false, true] ∧ t.control.notice = .none := by decide +kernel

/-- An expired WRITE is counted against its record; the third failure makes it FAILED and files DEST_TIMEOUT (R82). -/
theorem test_ask_expiry :
    let lanes : List Lane := [{ laneOf 0 with write := some 0 }, laneOf 1]
    let b := { binding [⟨0, 10, .read 5 (bytes [1, 2, 3, 4, 5, 6, 7, 8, 9, 10])⟩] lanes with readPos := 1 }
    let t (n : Nat) := after (.askExpiry 2 0) (asked ((bound b).modDest 0 0 fun r => { r with attempts := n }) 2 0
      ⟨diskA, .write 0 0 0, .write 11 0 [1]⟩ 100)
    ((t 0).dest? 0 0).map (fun r => (r.state, r.attempts)) = some (.inProgress, 1) ∧ (t 0).spotter.log = [] ∧
      ((t 2).dest? 0 0).map (·.state) = some .failed ∧ (t 2).spotter.log.map (·.kind) = [.destTimeout] := by decide +kernel

/-- A waiting ask takes the lowest free entry with the next generation; its tag is generation times 64 plus number (R16). -/
theorem test_ask_grant :
    let t := after (.askEntryGrant 2) (live.modPort 2 fun x => { x with waiting := [⟨diskA, .closeSource 0, .close 11⟩] })
    ((t.port 2).queueOf .control).map (·.tag) = [64] ∧ (t.port 2).waiting = [] := by decide +kernel

/-! ### Small steps: requests of the control and link units -/

theorem test_unknown_request : reply .unknownRequest live 0x09 [] = [3] := by decide +kernel

/-- After a power-on restart: cause 1, NORMAL, defaulted, RUNNING, and all else 0 (R26). -/
theorem test_status_read : reply .statusRead live 1 [] = [0, 1, 0, 1, 0, 0, 0, 0, 0, 0, 0, 0, 0, 0, 0, 0, 0, 0, 0, 0, 0, 0, 0] := by
  decide +kernel

theorem test_soft_restart :
    (after .softRestart (asking live ⟨2, 5, []⟩)).control.softRestart = .replyPending := by decide +kernel

/-- A soft restart adds SOFT to the causes and sets the ports TRAINING (R174). -/
theorem test_soft_restart_execute :
    let t := after .softRestartExecute { live with control := { live.control with softRestart := .ready } }
    t.supply.resetCause = ⟨true, false, true⟩ ∧ (t.port 2).link = .training := by decide +kernel

/-- The default option block: 3.15 V is 3150, 2.95 V is 2950; action QUIESCE, delays LONG and SHORT (R170). -/
theorem test_options_default : Options.default.warnMv = 3150 ∧ Options.default.critMv = 2950 ∧
    Options.default.quiesce = true ∧ Options.default.restartLong = true ∧ Options.default.resumeLong = false := by decide

theorem test_roles_last_control :
    let s := { live with link := { live.link with ports := live.link.ports.map fun (x : PortState) => { x with roles := 0x1E#5 } } }
    reply .portRolesSet (s.modPort 2 fun x => { x with roles := 1 }) 4 [2, 2] = [2] := by decide +kernel

theorem test_endpoint_add :
    reply .endpointAdd queued 5 [2, 1, 1, 0, 0] = [4] ∧ reply .endpointAdd queued 5 [2, 3, 1, 0, 0] = [0] := by decide +kernel

/-- An endpoint that an unfinished job names is IN_USE (R14). -/
theorem test_endpoint_remove : reply .endpointRemove queued 6 [2, 1] = [11] ∧ reply .endpointRemove queued 6 [2, 3] = [5] := by
  decide +kernel

theorem test_endpoint_list : (reply .endpointList queued 7 []).take 9 = [0, 5, 1, 1, 0, 7, 208, 0, 0] := by decide +kernel

theorem test_notice_port_set : reply .noticePortSet live 8 [3] = [0, 3] ∧ reply .noticePortSet live 8 [4] = [4] := by
  decide +kernel

/-- LINK_DOWN, SERIOUS, is chosen before an older STALL, WARNING (R28, R160). -/
theorem test_notice_choose :
    let s := logged 1
    let s := { s with spotter := { s.spotter with log := s.spotter.log ++ [{ stallEntry with kind := .linkDown }] } }
    (after .noticeChoose s).control.notice = .carrying 1 := by
  decide +kernel

/-! ### Small steps: jobs and clips -/

/-- Two clips take the lowest free records, and the job joins the admission list (section 3.8). -/
theorem test_job_add :
    let s := queued.setClip 0 (some (clipOf 1 .complete []))
    reply .jobAdd s 0x10 ([1, 1, 0, 1, 2, 1, 1, 65, 2] ++ [5] ++ [0, 0, 0, 1, 0, 0, 0, 0, 9, 0, 0, 0, 0, 0, 255, 1, 66] ++
      [5] ++ [0, 0, 0, 2, 0, 0, 0, 0, 9, 0, 0, 0, 0, 0, 255, 1, 67]) = [0, 1, 2, 0, 1, 0, 2] := by decide +kernel

theorem test_job_cancel :
    let t := after .jobCancel (asking (bound (binding [] [laneOf 0, laneOf 1])) ⟨0x11, 5, [0]⟩)
    t.channel 0 = .free ∧ (t.clip? 0).map (·.copyState) = some .cancelled ∧ (t.job? 0).map (·.state) = some .cancelled := by
  decide +kernel

theorem test_job_resume : reply .jobResume queued 0x12 [0] = [7] ∧
    ((after .jobResume (asking (queued.setJob 0 (some { jobOf .suspended [diskA] [0] with suspend := some .restart })) ⟨0x12, 5, [0]⟩)).job? 0).map
      (fun j => (j.state, j.suspend)) = some (.queued, none) := by decide +kernel

theorem test_job_remove :
    let s := queued.setJob 0 (some (jobOf .done [diskA, diskB] [0]))
    reply .jobRemove queued 0x13 [0] = [7] ∧ reply .jobRemove s 0x13 [0] = [0, 1] := by decide +kernel

theorem test_job_read : reply .jobRead queued 0x14 [16] = [4] ∧ reply .jobRead queued 0x14 [1] = [5] := by decide +kernel

/-- A clip record is 62 bytes, 9 for each destination record, and the name (section 3.9). -/
theorem test_clip_read : (reply .clipRead queued 0x15 [0, 0]).length = 1 + 62 + 9 * 2 + 1 := by decide +kernel

theorem test_channel_limit : reply .channelLimitSet queued 0x16 [0, 9] = [4] ∧
    ((after .channelLimitSet (asking queued ⟨0x16, 5, [0, 8]⟩)).job? 0).map (·.limit) = some 8 := by decide +kernel

/-- With no ask outstanding a pause leaves the engine QUIESCED, reason OPERATOR; CONTINUE makes it RESUMING (R62, R64, R65). -/
theorem test_offload_pause : reply .offloadPause live 0x17 [255] = [0, 2, 2] ∧
    reply .offloadContinue (after .offloadPause (asking live ⟨0x17, 5, [255]⟩)) 0x18 [] = [0, 3, 0] := by decide +kernel

/-- A drain with nothing outstanding defers the pending record; its return re-queues the settled job (R91, R94, R95). -/
theorem test_release_reclaim :
    let t := after .destRelease (asking queued ⟨0x19, 5, bytes [2, 2]⟩)
    (t.clip? 0).map (·.dests.map (·.state)) = some [.pending, .deferred] ∧
      reply .destReclaim (t.setJob 0 (some (jobOf .doneIncomplete [diskA, diskB] [0]))) 0x1A [2, 2] = [0, 0, 1, 1] := by
  decide +kernel

/-- The drain of a DRAINING endpoint completes once nothing is asked of it (R91). -/
theorem test_drain_complete :
    ((after (.drainComplete 2 2) (queued.setEndpointState diskB .draining)).endpoint? diskB).map (·.state) = some .released := by
  decide +kernel

theorem test_job_activation : ((after (.jobActivation 0) queued).job? 0).map (·.state) = some .identifying := by decide +kernel

/-- The worked sharing of the channels (section 4.7): after last served 15, job 1 is chosen and its clip 0 bound. -/
theorem test_channel_bind :
    let j (n : Nat) : JobRecord := { jobOf .active [diskA] [n] with standing := some .confirmed }
    let s := (((queued.setJob 0 none).setJob 1 (some (j 0))).setJob 3 (some (j 10))).setClip 0 (some (clipOf 1 .waiting [record diskA .pending 0 0]))
    let t := after .channelBind (s.setClip 10 (some (clipOf 3 .waiting [record diskA .pending 0 0])))
    (t.binding? 0).map (fun b => (b.job, b.clip)) = some (1, 0) ∧ t.offload.lastJob = 1 := by decide +kernel

/-- The READ of extent 0 follows the buffer (R72, R74). -/
theorem test_buffer_take :
    let s := bound (binding [] [laneOf 0, laneOf 1])
    let t := after .bufferTake { s with offload := { s.offload with bufferWaiting := [0] } }
    ((t.binding? 0).elim [] (·.held)) = [⟨0, 10, .reading⟩] ∧ t.buffersHeld = 1 := by decide +kernel

/-- A failed READ of a peer's extent counts towards its check read, when the read position has passed it (R77, R97, R98). -/
theorem test_peer_attempts :
    let b := { binding [] [laneOf 1] with source := .peer diskA 0, readAttempts := 1 }
    ((((bound b).modClip 0 fun c => { c with dests := [record diskA .verified 1 0, record diskB .inProgress 1 0] }).raiseReadPos 0).binding? 0).map
      (fun x => (x.readPos, x.readAttempts)) = some (1, 1) := by decide +kernel

/-- The whole-file check is made while the lane's endpoint is DRAINING too: the mismatching record is FAILED, not later
DEFERRED by the drain (R90, R98). -/
theorem test_whole_file_draining :
    let s := (seeded none).setEndpointState diskB .draining
    let t := s.engineSettle
    (t.dest? 0 1).map (fun r => (r.state, r.reason)) = some (.failed, some .peerMismatch) ∧
      t.spotter.log.map (fun e => (e.kind, e.detail)) = [(.peerMismatch, 513)] := by decide +kernel

theorem test_resume_timer :
    let s := { live with offload := { live.offload with state := .resuming, resumeTimer := some 1000 } }
    (after .resumeTimerExpiry s).offload.state = .running ∧ (after .resumeTimerExpiry s).supply.timeBase = 1000 := by
  decide +kernel

/-! ### Small steps: looks -/

/-- The worked loading (section 7.9): N 33 totals 108,594 entries, N 17 15,522; slot 0 has shadow A. -/
theorem test_look_begin : reply .lookBegin live 0x20 [3, 33] = [0, 0, 0, 1, 168, 50] ∧
    reply .lookBegin live 0x20 [3, 17] = [0, 0, 0, 0, 60, 162] ∧ reply .lookBegin live 0x20 [3, 18] = [4] := by decide +kernel

/-- A coefficient sent as 40,000 is stored as 32,767 and counted clamped (section 7.9). -/
theorem test_look_data :
    let s := after .lookBegin (asking live ⟨0x20, 5, bytes [3, 17]⟩)
    let args := [3, 3, 0, 0, 0, 0, 0, 0, 0, 1, 0, 0, 156, 64]
    reply .lookData s 0x21 args = [0, 1, 0, 0, 0, 1, 0, 0, 0, 1] ∧
      ((after .lookData (asking s ⟨0x21, 5, bytes args⟩)).slot 3).shadowBank.tables[3] = [(0, 32767)] := by decide +kernel

theorem test_look_commit : reply .lookCommit live 0x22 [3] = [9, 0, 0, 0, 0, 0] ∧
    reply .lookCommit (live.modSlot 3 fun x => { x with shadow := .complete, bankA := workedBank }) 0x22 [3] = [0, 0] := by
  decide +kernel

/-- A latched shadow may not be discarded (R106). -/
theorem test_look_discard : reply .lookDiscard live 0x23 [3] = [0] ∧
    reply .lookDiscard (live.modStream 0 fun x => { x with latch := some (3, .a) }) 0x23 [3] = [8] := by decide +kernel

theorem test_directory_set : reply .directorySet live 0x24 [12, 3] = [0, 255] ∧
    (after .directorySet (asking live ⟨0x24, 5, bytes [12, 3]⟩)).directoryAt 12 = some 3 := by decide +kernel

theorem test_clip_set_look : reply .clipSetLook queued 0x25 [0, 0, 12] = [0, 255] ∧
    ((after .clipSetLook (asking queued ⟨0x25, 5, bytes [0, 0, 12]⟩)).clip? 0).map (·.look) = some (some 12) := by decide +kernel

theorem test_look_status : reply .lookStatus live 0x26 [3] = [0, 255, 0, 0, 0, 0, 0, 0, 0, 0, 0, 0, 0, 0, 0, 0, 0] := by decide +kernel

/-! ### Small steps: review streams -/

/-- A 16 by 16 STREAMING stream with stall timeout 0 is WAITING and stalls after 500 ms (R128). -/
theorem test_review_open :
    let args := [0, 3, 1, 3, 2, 0, 16, 0, 16, 0, 0, 0, 0, 0, 0, 0, 0, 0, 0, 0]
    let t := after .reviewOpen (asking (stream id) ⟨0x30, 5, bytes args⟩)
    (t.stream 0).state = .waiting ∧ (t.stream 0).stallTimer = some 500000 ∧ ((t.port 3).receive[2]).total = 16 := by decide +kernel

theorem test_review_close : reply .reviewClose live 0x31 [0] = [7] ∧
    ((after .reviewClose (asking (running .paced id) ⟨0x31, 5, [0]⟩)).stream 0).state = .closed := by decide +kernel

theorem test_review_read : (reply .reviewRead live 0x32 [0]).length = (reply .reviewRead (running .paced id) 0x32 [0]).length := by
  decide +kernel

/-- A packet that starts no frame while none is in progress is stray, and its buffer is freed (R130). -/
theorem test_raster_stray :
    let s := running .paced fun x => { x with queue := [⟨3, 0, 500, 8, 16, false, false, false, [[]], false⟩] }
    ((after (.rasterTaken 0) s).stream 0).stray = 1 ∧ ((after (.rasterTaken 0) s).stream 0).queue = [] := by decide +kernel

/-- A frame of a clip without a verified copy is refused: NOT_SECURED once, one gated frame (R131). -/
theorem test_raster_gated :
    let s := (queued.modStream 0 fun _ => { Stream.closed (params .paced) with
      state := .waiting, queue := [⟨3, 0, 500, 0, 16, true, false, false, [[]], false⟩] })
    ((after (.rasterTaken 0) s).stream 0).gated = 1 ∧ (after (.rasterTaken 0) s).spotter.log.map (·.kind) = [.notSecured] := by
  decide +kernel

/-- The front frame is presented again and counted a repeat, at the worked instant 41,708 (section 9.9). -/
theorem test_pacing_repeat :
    let f : GradedFrame := ⟨0, 500, false, List.replicate 16 (List.replicate 16 ⟨0, 0, 0⟩)⟩
    let t := after (.pacingTick 0) (running .paced fun x => { x with origin := some 0, front := some f })
    (t.stream 0).run = ⟨1, 0, 500⟩ ∧ t.supply.timeBase = 41708 := by decide +kernel

theorem test_stall : (after (.stallTimerExpiry 0) (running .paced fun x => { x with stallTimer := some 500000 })).spotter.log.map
    (fun e => (e.kind, e.detail)) = [(.stall, 500)] := by decide +kernel

theorem test_regrade_end :
    ((after (.regradeEnd 0) (running .paced fun x => { x with state := .held, regrading := true, latch := some (3, .b) })).stream 0).latch =
      none := by decide +kernel

/-! ### Small steps: the fault spotter -/

/-- L_clip above 4095 is refused (R144). -/
theorem test_qc_config : reply .qcConfig live 0x38 [0, 0, 16, 0, 0, 5, 3, 1, 0, 16, 12, 1, 0, 8] = [4] ∧
    reply .qcConfig live 0x38 [0, 0, 15, 255, 0, 5, 3, 1, 0, 16, 12, 1, 0, 8] = [0] := by decide +kernel

theorem test_defect_add : reply .defectAdd live 0x39 [2, 1, 244, 2, 188] = [0, 0, 0, 1] ∧
    reply .defectAdd live 0x39 [2, 9, 0, 0, 0] = [4] := by decide +kernel

theorem test_defect_remove :
    let s := after .defectAdd (asking live ⟨0x39, 5, bytes [2, 1, 244, 2, 188]⟩)
    reply .defectRemove s 0x3A [2, 1, 244, 2, 188] = [0, 0, 0] ∧ reply .defectList s 0x3C [255] = [0, 0, 1, 2, 1, 244, 2, 188] := by
  decide +kernel

/-- The worked promotion (section 10.8): tag 2 and one map entry. -/
theorem test_defect_promote :
    let s := (queued.setClip 0 (some { clipOf 0 .complete [] with cameraTag := 2 })).modStream 0 fun x => { x with currentClip := some 0 }
    let s := s.modSpot 0 fun x => { x with candidates := [⟨500, 700, 3, 202, true, false⟩] }
    reply .defectPromote s 0x3B [0, 1, 244, 2, 188] = [0, 2, 0, 1] ∧
      reply .candidatesRead s 0x3D [0] = [0, 1, 2, 1, 1, 244, 2, 188, 3, 0, 0, 0, 202, 1] := by decide +kernel

theorem test_fault_take : (reply .faultTake (logged 3) 0x3E [2, 0]).take 7 = [0, 2, 1, 0, 0, 0, 0] ∧
    (after .faultTake (asking (logged 3) ⟨0x3E, 5, bytes [2, 0]⟩)).spotter.log.length = 1 := by decide +kernel

theorem test_fault_peek : (reply .faultPeek (logged 3) 0x3F [1, 128]).length = 1 + 6 + 2 * 28 := by decide +kernel

theorem test_clip_clear :
    let s := queued.setClip 0 (some { clipOf 0 .complete [] with copyFaults := 258, qc := .flagged })
    reply .clipClearFaults s 0x40 [0, 0] = [0, 1, 2, 0, 0, 0, 0, 2] := by decide +kernel

/-- Hold points: FRAME (clip 7, frame 640), one-shot, on point 0 of stream 0 (section 11.5). -/
theorem test_hold_set :
    let t := after .holdSet (asking live ⟨0x48, 5, bytes [0, 0, 0, 0, 7, 0, 0, 2, 128, 0, 1]⟩)
    t.spotter.holds[0] = some ⟨0, .frame 7 640, true, true⟩ ∧ reply .holdClear t 0x49 [0] = [0] ∧
      reply .holdClear t 0x49 [1] = [5] := by decide +kernel

theorem test_hold_release : reply .holdRelease (running .paced fun x => { x with holdPending := true }) 0x4A [0] = [0, 1] ∧
    reply .holdRelease (running .paced fun x => { x with state := .held }) 0x4A [0] = [0, 0] ∧
    reply .holdRelease live 0x4A [0] = [7] := by decide +kernel

/-- The OUTPUT_REPEAT filed on entry to HELD leaves a one-shot point for it armed (R165, R166). -/
theorem test_hold_entry_run :
    let s := (filling .paced [] id).modStream 0 fun x => { x with holdPending := true, origin := some 5, run := ⟨2, 0, 8⟩ }
    let s := { s with spotter := { s.spotter with holds := s.spotter.holds.set 0 (some ⟨0, .fault .outputRepeat, true, true⟩) } }
    let t := s.endFrame 0
    t.spotter.log.map (·.kind) = [.lineGap, .outputRepeat] ∧ (t.spotter.holds[0]).map (·.armed) = some true ∧
      (t.stream 0).state = .held ∧ (t.stream 0).holdPending = false := by decide +kernel

/-- A packet that waited at the release restarts the stall timer when it is taken, whenever that is (R168). -/
theorem test_waiting_restarts :
    let s := running .streaming fun x =>
      { x with queue := [{ packetOf 9 0 16 false with waitedRelease := true }], stallTimer := some 7 }
    ((after (.rasterTaken 0) s).stream 0).stallTimer = some 500000 := by decide +kernel

/-! ### Small steps: supply and restart -/

/-- The worked WARN entry (section 12.4): 20 us after the rail fell, SUPPLY_WARN with 3150. -/
theorem test_warn_entry :
    let t := after .warnEntryFilter (after (.railLevelChange 3149) live)
    t.supply.state = .warn ∧ t.supply.timeBase = 20 ∧ t.spotter.log.map (fun e => (e.kind, e.detail)) = [(.supplyWarn, 3150)] ∧
      t.offload.state = .quiesced := by decide +kernel

/-- At the WARN level itself the WARN entry filter does not run (R172). -/
theorem test_rail_level : (after (.railLevelChange 3150) live).supply.warnEntry = none := by decide +kernel

theorem test_warn_clear :
    let s := { live with supply := { live.supply with state := .warn, warnClear := some 0 } }
    let t := after .warnClearFilter s
    t.supply.state = .recovering ∧ t.supply.timeBase = 2000 ∧ t.supply.resumeTimer = some 3000 ∧
      (after .supplyResumeTimer t).supply.state = .normal := by decide +kernel

/-- The worked brownout (section 12.4): the copy goes back to WAITING and PENDING, attempts 0. -/
theorem test_brownout :
    let s := (bound (binding [] [laneOf 0, laneOf 1])).modDest 0 0 fun r => { r with verified := 3, attempts := 1 }
    let t := after (.brownoutRestart none) { s with supply := { s.supply with power := .held .warn (some 0) } }
    (t.clip? 0).map (fun c => (c.copyState, c.dests)) =
        some (.waiting, [record diskA .pending 3 0, record diskB .pending 0 0]) ∧
      (t.job? 0).map (fun j => (j.state, j.suspend)) = some (.suspended, some .restart) := by decide +kernel

/-- The CRIT filter holds the part 5 us after the rail fell below 2.95 V (R172, R173). -/
theorem test_crit :
    let t := after .critFilter (after (.railLevelChange 2949) live)
    t.supply.power = .held .normal none ∧ t.supply.timeBase = 5 := by decide +kernel

theorem test_power_on :
    let t := after (.powerOnRestart none) (queued.setClip 3 (some (clipOf 0 .complete [])))
    t.clip? 3 = none ∧ t.job? 0 = none ∧ t.link.endpoints = [] ∧ (t.port 0).link = .down := by decide +kernel

/-- The idle step counts a microsecond (log entry 8). -/
theorem test_idle : step live = .next { live with supply := { live.supply with timeBase := 1 } } := rfl

/-! ### States and operands that meet the hypotheses of the statements

One theorem for each statement of Certificates/Slice0/Obligations.lean that has hypotheses, with a witness for each of its
clauses, at the ends of a range where the clause has one. Requests whose clauses are told apart by their arguments alone
need no more than `asking_taking`. -/

theorem witness_StepRunsFront : (live.withPending [.statusRead, .linkUp 0]).pending = .statusRead :: [.linkUp 0] := rfl

/-- The part held by a brownout, the restart delay timed or not. -/
def heldPart (since : Option Word64) : State := { live with supply := { live.supply with power := .held .warn since } }

theorem witness_SupplyMonitor_held : (heldPart none).running = false ∧ (∀ mv, Instr.statusRead ≠ .railLevelChange mv) ∧
    (∀ b, Instr.statusRead ≠ .brownoutRestart b) ∧ (∀ b, Instr.statusRead ≠ .powerOnRestart b) :=
  ⟨rfl, nofun, nofun, nofun⟩

theorem witness_RequestsTakenAndAnswered_rows :
    (asking live ⟨0, 5, []⟩).Taking 0 ⟨0, 5, []⟩ ∧ (asking live ⟨0x4B, 5, []⟩).Taking 0 ⟨0x4B, 5, []⟩ ∧
      (asking live ⟨8, 5, []⟩).Taking 0 ⟨8, 5, []⟩ ∧ Instr.jobAdd.request = some 0x10 ∧ (8 : Nat) ≠ 0x10 :=
  ⟨asking_taking _ _, asking_taking _ _, asking_taking _ _, rfl, by decide⟩

theorem witness_RequestsTakenAndAnswered : (asking live ⟨1, 5, []⟩).control.softRestart = .none ∧
    (asking live ⟨1, 5, []⟩).nextRequest = some (0, ⟨1, 5, []⟩) := ⟨rfl, (asking_taking _ _).2⟩

theorem witness_RequestsTakenAndAnswered_reply : live.isUp 0 = true ∧ State.reset.isUp 0 = false ∧ PacketClass.raster 1 ≠ .control := by
  decide +kernel

theorem witness_FilingRecorded : (logged 127).spotter.log.length < 128 ∧ 128 ≤ (logged 128).spotter.log.length ∧
    ({ kind := .shortRead, clip := some 0 } : Filing).clip = some 0 ∧
    queued.clip? 0 = some (clipOf 0 .waiting [record diskA .pending 0 0, record diskB .pending 0 0]) := by decide +kernel

/-- A one-shot FAULT point of stream 0 for LINE_GAP, armed, over frame 9 of clip 0 in progress. -/
def gapPoint (x : StreamState) : State :=
  let s := (filling .paced [] id).modStream 0 fun y => { y with state := x }
  { s with spotter := { s.spotter with holds := #v[none, some ⟨0, .fault .lineGap, true, true⟩, none, none] } }

theorem witness_FilingRecorded_points :
    let f := frameFiling 0 .lineGap 0 9 4
    let h : HoldPoint := ⟨0, .fault .lineGap, true, true⟩
    f.stream = some 0 ∧ f.clip ≠ some 1 ∧ ({ kind := .linkDown } : Filing).stream = none ∧
    ((gapPoint .running).stream 0).state = .running ∧ ((gapPoint .held).stream 0).state = .held ∧
    (gapPoint .running).spotter.holds[1] = some h ∧ h.armed = true ∧ h.stream = 0 ∧ h.condition = .fault f.kind ∧
    ((gapPoint .running).stream 0).frame.map (fun y => (y.refused, y.clip, y.number)) = some (false, 0, 9) := by decide +kernel

/-- The fault of a RUNNING stream meets the point, once; that of a HELD stream does not (R165). -/
theorem test_fault_point :
    let t := (gapPoint .running).file (frameFiling 0 .lineGap 0 9 4)
    let u := (gapPoint .held).file (frameFiling 0 .lineGap 0 9 4)
    (t.stream 0).holdPending = true ∧ t.spotter.holds[1] = some ⟨0, .fault .lineGap, true, false⟩ ∧
      (t.stream 0).frame.map (·.damaged) = some true ∧ (u.stream 0).holdPending = false ∧
      u.spotter.holds[1] = some ⟨0, .fault .lineGap, true, true⟩ := by decide +kernel

theorem witness_StepKeepsLogLimit : (logged 128).logFits ∧ step (logged 128) = .next (logged 128).idle :=
  ⟨by decide +kernel, rfl⟩

/-- A map with the least and the greatest site. -/
def mapped : State := { live with spotter := { live.spotter with defectMap := [⟨0, 0, 0⟩, ⟨15, 2303, 4095⟩] } }

theorem witness_StepKeepsDefectMap : mapped.mapSound ∧ step mapped = .next mapped.idle := ⟨by decide +kernel, rfl⟩

/-- Four requests wait on each port. -/
def waitingFour : State :=
  { live with control := { live.control with queues := Vector.replicate 4 (List.replicate 4 ⟨1, 5, []⟩) } }

theorem witness_StepKeepsRequestQueues : waitingFour.queuesFit ∧ step waitingFour = .next waitingFour.idle :=
  ⟨by decide +kernel, rfl⟩

theorem witness_StepKeepsEndpointTable : queued.endpointsSound ∧ step queued = .next queued.idle := ⟨by decide +kernel, rfl⟩

theorem witness_StepKeepsDownPorts : State.reset.downIdle ∧ step State.reset = .next State.reset.idle :=
  ⟨by decide +kernel, rfl⟩

theorem witness_PacketFrameRoundTrip : (255 : Nat) < 256 ∧ (65535 : Nat) < 65536 ∧
    (List.replicate 262144 (0 : Byte)).length ≤ 262144 ∧ (bytes [0, 0, 0, 0]).length = 4 ∧
    (bytes [0, 0, 0]).length ≠ ([] : List Byte).length + 4 ∧ ([2] : List Byte).length ≠ 13 :=
  ⟨by decide, by decide, (List.length_replicate ..).le, by decide, by decide, by decide⟩

/-! #### Links -/

/-- Port L0 in a link state. -/
def linked (x : LinkState) : State := State.reset.modPort 0 fun y => { y with link := x }

theorem witness_LinkEvents : State.reset.running = true ∧ ((linked .training).port 0).link = .training ∧
    ((linked .up).port 0).link ≠ .training ∧ ((linked .down).port 0).link = .down := by decide +kernel

theorem reset_clip (n : Nat) : State.reset.clip? n = none := by
  simp only [State.clip?, State.reset, ClipTable.reset, Vector.getElem?_replicate]
  split <;> rfl

theorem witness_LinkEvents_up : (linked .training).running = true ∧ ((linked .training).port 0).link = .training ∧
    (linked .training).engineStill ∧
    ∀ n c, (linked .training).clip? n = some c → ∀ d ∈ c.dests, d.endpoint.port = 0 → d.state ≠ .deferred := by
  refine ⟨by decide +kernel, by decide +kernel, by decide +kernel, fun n c h => ?_⟩
  exact absurd ((reset_clip n).symm.trans h) nofun

/-- A DEST endpoint that is ONLINE once its port is UP, named by a DEFERRED record. -/
theorem witness_LinkEvents_return :
    let s := (copying (jobOf .doneIncomplete [diskA] [0]) (clipOf 0 .failed [record diskA .deferred 0 0])).modPort 2 fun x =>
      { x with link := .training }
    s.running = true ∧ (s.port 2).link = .training ∧ s.endpoint? diskA = some ⟨diskA, .dest, 2000, .online⟩ ∧
    s.returning diskA = [0] := by decide +kernel

theorem witness_PortLeavesUp : queued.running = true ∧ queued.downIdle ∧ (queued.port 2).link = .up ∧
    queued.spotter.log.length < 128 := by decide +kernel

/-- Frames with a header error: no type byte of a frame, a wrong header check, and a payload stated one byte too long. -/
theorem witness_PortLeavesUp_header :
    (let long := bytes [1, 5, 1, 0, 0, 9] ++ beBytes 4 262145
     ([] : List Byte).head? ≠ some 1 ∧ ([3] : List Byte).head? ≠ some 2 ∧ long.length = 10 ∧ long.head? = some 1 ∧
       crc8 long ≠ crc8 long + 1 ∧ 262144 < beNat (long.drop 6)) := by decide +kernel

/-- Three or four requests wait on L0. -/
def waitingOn (n : Nat) : State :=
  { live with control := { live.control with queues := live.control.queues.set 0 (List.replicate n ⟨1, 5, []⟩) } }

theorem witness_ControlAndCreditFrames : (waitingOn 3).running = true ∧ (waitingOn 3).isUp 0 = true ∧ (65535 : Nat) < 65536 ∧
    (List.replicate 262140 (0 : Byte)).length + 4 ≤ 262144 ∧
    (((waitingOn 3).port 0).receive[0]).total ≠ (((waitingOn 3).port 0).receive[0]).count ∧
    ((waitingOn 3).control.queues[0]).length < 4 ∧ (waitingOn 4).isUp 0 = true ∧
    ¬ ((waitingOn 4).control.queues[0]).length < 4 ∧
    hasRole ((live.modPort 0 fun x => { x with roles := 0x1E }).port 0).roles .control = false := by
  refine ⟨by decide +kernel, by decide +kernel, by decide, ?_, ?_⟩
  · rw [List.length_replicate]
  decide +kernel

/-- Payloads of a CONTROL packet that have not its form: none, too short, an argument length one too great or too small; and
one that has. -/
theorem witness_ControlAndCreditFrames_forms :
    let formed (payload : List Byte) : Bool := 4 ≤ payload.length && beNat ((payload.drop 1).take 3) + 4 == payload.length
    let bare := live.modPort 0 fun x => { x with roles := 0x1E }
    formed [] = false ∧ formed (bytes [1, 0, 0]) = false ∧ formed (bytes [1, 0, 0, 1]) = false ∧
    formed (bytes [1, 0, 0, 0, 9]) = false ∧ formed (bytes [1, 0, 0, 1, 9]) = true ∧ bare.isUp 0 = true ∧ bare.running = true ∧
    ((bare.port 0).receive[0]).total ≠ ((bare.port 0).receive[0]).count ∧ (255 : Nat) < 256 ∧ (1 : Nat) ≠ 0 := by
  decide +kernel

/-- The header of a frame read, and whether its CRC-32 is right. -/
def headerOf (frame : List Byte) : Option (Nat × Nat × Bool) :=
  (parsePacket frame).map fun x => (x.header.kind, x.header.stream, x.crcGood)

/-- A packet frame whose payload was damaged. -/
def damaged : List Byte := (packetFrameBytes 5 1 0 9 [1, 2]).set 11 0

/-- A RASTER frame whose payload was damaged. -/
def damagedRaster : List Byte := (packetFrameBytes 7 1 0 9 [1, 2]).set 11 0

theorem witness_BadFrames : live.running = true ∧ State.reset.isUp 0 = false ∧ live.isUp 0 = true ∧
    frameType (2 :: 1 :: (creditFrameBytes 10 20 30 40).drop 2) = 2 ∧
    parseCredit (2 :: 1 :: (creditFrameBytes 10 20 30 40).drop 2) = none ∧
    headerOf (packetFrameBytes 0 1 0 9 []) = some (0, 0, true) ∧ headerOf (packetFrameBytes 8 1 0 9 []) = some (8, 0, true) ∧
    headerOf (packetFrameBytes 7 1 2 9 []) = some (7, 2, true) ∧ headerOf (packetFrameBytes 1 0 0 9 []) = some (1, 0, true) ∧
    headerOf (packetFrameBytes 5 1 0 9 []) = some (5, 0, true) ∧ headerOf damaged = some (5, 0, false) ∧
    frameType damaged = 1 ∧
    (State.reset.port 0).receive[0].total = (State.reset.port 0).receive[0].count ∧ (linked .up).isUp 0 = true ∧
    (live.port 0).receive[0].total ≠ (live.port 0).receive[0].count := by decide +kernel

/-- The bulk class and a stream's raster class, without credit left and with, and a RASTER whose payload was damaged. -/
theorem witness_BadFrames_classes :
    (∀ k : Fin 4, ((linked .up).port 0).receive[k].total = ((linked .up).port 0).receive[k].count) ∧
    headerOf (packetFrameBytes 6 1 0 9 []) = some (6, 0, true) ∧
    headerOf (packetFrameBytes 7 1 1 9 []) = some (7, 1, true) ∧ headerOf damagedRaster = some (7, 0, false) ∧
    ((running .paced id).stream 0).state ≠ .closed ∧ ((running .paced id).stream 0).params.decoder.port = 3 ∧
    (∀ k : Fin 4, (live.port 0).receive[k].total ≠ (live.port 0).receive[k].count) := by decide +kernel

/-- L2's ask entries with one ask to destination 1 in entry 0, generation 1. -/
def answering (body : AskBody) (received : List Byte) : State :=
  queued.modPort 2 fun x => { x with asks := x.asks.set 0 ⟨1, some ⟨⟨diskA, .write 0 0 0, body⟩, .awaiting 9, received⟩⟩ }

/-- Tag 64 names that ask, tag 128 no live one. A READ of four bytes of which two have come takes two more, not three; its
ANSWER may state four bytes, not five. The other answers fit at their lengths. -/
theorem witness_AnswersAndBlocks :
    let s := answering (.read 7 0 4) [1, 2]
    s.running = true ∧ s.isUp 2 = true ∧ hasRole (s.port 2).roles .dest = true ∧
    hasRole ((s.modPort 2 fun x => { x with roles := 0x19 }).port 2).roles .source = false ∧
    hasRole ((s.modPort 2 fun x => { x with roles := 0x19 }).port 2).roles .dest = false ∧
    (∀ k : Fin 4, (s.port 2).receive[k].total ≠ (s.port 2).receive[k].count) ∧
    (s.port 2).asks[64 % 64]? = some ⟨64 / 64, some ⟨⟨diskA, .write 0 0 0, .read 7 0 4⟩, .awaiting 9, [1, 2]⟩⟩ ∧
    (s.port 2).asks[128 % 64]? ≠ some ⟨128 / 64, none⟩ ∧ ((s.port 2).asks[128 % 64]?).map (·.generation) ≠ some (128 / 64) ∧
    beNat ((bytes [0, 0, 0, 0, 0, 0, 0, 0, 4]).drop 5) = 4 ∧ beNat ((bytes [0, 0, 0, 0, 0, 0, 0, 0, 5]).drop 5) = 5 ∧
    (bytes [1, 0, 0, 0, 9]).length = 5 ∧ (bytes [2, 0, 0, 0, 0]).length = 5 ∧
    [(1 : Byte), 2].length + [(3 : Byte), 4].length ≤ 4 ∧ ¬ [(1 : Byte), 2].length + [(3 : Byte), 4, 5].length ≤ 4 ∧
    diskA.id = 1 ∧ diskA.id ≠ 2 := by decide +kernel

/-- Stream 0 is open from decoder 1 of L3, stream 1 CLOSED; a payload of one line of no pixel, and one of eight lines of
one pixel at the greatest code. -/
theorem witness_RasterPackets :
    let s := running .paced id
    let flags : RasterFlags := ⟨true, true, true, true⟩
    let lines : List (List Rgb) := List.replicate 8 [⟨65535, 4096, 4095⟩]
    s.running = true ∧ s.isUp 3 = true ∧ (s.port 3).receive[(2 : Fin 4)].total ≠ (s.port 3).receive[(2 : Fin 4)].count ∧
    hasRole (s.port 3).roles .decode = true ∧
    hasRole ((s.modPort 3 fun x => { x with roles := 0x17 }).port 3).roles .decode = false ∧
    (s.stream 0).state ≠ .closed ∧ (s.stream 0).params.decoder = ⟨3, 1⟩ ∧ (s.stream 1).state = .closed ∧
    (rasterPayload 65535 9 65535 0 flags [[]]).length = 12 + 6 * 1 * 0 ∧
    (rasterPayload 65535 9 65535 1 flags lines).length = 12 + 6 * 8 * 1 ∧ (∀ l ∈ lines, l.length = 1) ∧
    (∀ l ∈ lines, ∀ c ∈ l, c.r < 65536 ∧ c.g < 65536 ∧ c.b < 65536) ∧ lines.length ≤ 8 ∧
    beNat (((rasterPayload 1 9 0 1 flags (List.replicate 9 [⟨1, 1, 1⟩])).drop 8).take 1) = 9 := by decide +kernel

theorem witness_ControlAndCreditFrames_credit : live.running = true ∧ live.isUp 0 = true ∧ (live.port 0).creditTimer = none ∧
    ((live.modPort 0 fun x => { x with creditTimer := some 1000 }).port 0).creditTimer = some 1000 := by decide +kernel

/-- A reply waits on L0, whose control credit is as given. -/
def sending (credit : Credit) : State :=
  live.modPort 0 fun x =>
    { x with
      queues := x.queues.set 0 [⟨.reply, 0, 0, 9, [1, 0, 0, 0, 0], .reply⟩]
      send := x.send.set 0 credit
      lastServed := 3 }

theorem witness_TransmitStart :
    (live.port 0).link = .up ∧ (live.port 0).transmitting = none ∧ (live.port 0).creditDue = false ∧
    (State.reset.port 0).link ≠ .up ∧ ((live.modPort 0 fun x => { x with creditDue := true }).port 0).creditDue = true ∧
    (∀ k : Fin 4, ¬ ((live.port 0).queues[k] ≠ [])) ∧
    ¬ (((sending ⟨32768, 0⟩).port 0).send[0].total - ((sending ⟨32768, 0⟩).port 0).send[0].count).toNat ≤ 32767 ∧
    ((sending ⟨32767, 0⟩).port 0).queues[((sending ⟨32767, 0⟩).port 0).lastServed + 1 + 0] =
      [⟨.reply, 0, 0, 9, [1, 0, 0, 0, 0], .reply⟩] ∧
    ((sending ⟨32767, 0⟩).port 0).send[0].total ≠ ((sending ⟨32767, 0⟩).port 0).send[0].count ∧
    (((sending ⟨32767, 0⟩).port 0).send[0].total - ((sending ⟨32767, 0⟩).port 0).send[0].count).toNat ≤ 32767 ∧
    ∀ st, Owner.reply ≠ .raster st := by decide +kernel

/-- One outgoing packet of stream 0 waits on L3, the next of its frame not yet handed over, its lines still in a buffer. -/
def sendingRaster : State :=
  let pk := outgoingRaster 0 (params .streaming) 0 9 0 ⟨true, false, false, false⟩ []
  (running .streaming fun x => { x with inHand := some ⟨3, false⟩, presenting := [pk] }).modPort 3 fun x =>
    { x with queues := x.queues.set 2 [pk], lastServed := 1 }

theorem witness_TransmitStart_raster :
    let pk := outgoingRaster 0 (params .streaming) 0 9 0 ⟨true, false, false, false⟩ []
    sendingRaster.running = true ∧ (sendingRaster.port 3).link = .up ∧ (sendingRaster.port 3).transmitting = none ∧
    (sendingRaster.port 3).creditDue = false ∧ (sendingRaster.port 3).lastServed + 1 + 0 = (2 : Fin 4) ∧
    (sendingRaster.port 3).queues[(2 : Fin 4)] = pk :: [] ∧
    (sendingRaster.port 3).send[(2 : Fin 4)].total ≠ (sendingRaster.port 3).send[(2 : Fin 4)].count ∧
    pk.owner = .raster 0 ∧ (sendingRaster.stream 0).params.output.port = 3 ∧ (sendingRaster.stream 0).inHand = some ⟨3, false⟩ ∧
    (sendingRaster.stream 0).state ≠ .held ∧ (sendingRaster.stream 0).presenting = pk :: [] := by decide +kernel

/-- A packet of an owner in transmission on L0. -/
def ending (owner : Owner) (s : State) : State :=
  s.modPort 0 fun x => { x with transmitting := some (.packet ⟨.ask, 1, 0, 64, [], owner⟩) }

/-- L0's ask entry 0, generation 1, SENDING. -/
def askSending : State :=
  live.modPort 0 fun x => { x with asks := x.asks.set 0 ⟨1, some ⟨⟨diskA, .closeSource 0, .close 7⟩, .sending, []⟩⟩ }

theorem witness_TransmitEnd :
    live.running = true ∧ (live.port 0).transmitting = none ∧
    ((live.modPort 0 fun x => { x with transmitting := some (.credit 1 2 3 4) }).port 0).transmitting = some (.credit 1 2 3 4) ∧
    ((ending .reply live).port 0).transmitting = some (.packet ⟨.ask, 1, 0, 64, [], .reply⟩) ∧
    ((ending .softRestartReply live).port 0).transmitting = some (.packet ⟨.ask, 1, 0, 64, [], .softRestartReply⟩) ∧
    ({ logged 1 with control := { live.control with notice := .carrying 0 } } : State).control.notice = .carrying 0 ∧
    (logged 1).spotter.log[0]? = some stallEntry ∧
    ((ending .notice { live with control := { live.control with notice := .orphan } }).port 0).transmitting =
      some (.packet ⟨.ask, 1, 0, 64, [], .notice⟩) ∧
    (ending .notice { live with control := { live.control with notice := .orphan } }).control.notice = .orphan ∧
    ((ending (.ask 64) askSending).port 0).asks[64 % 64] = ⟨64 / 64, some ⟨⟨diskA, .closeSource 0, .close 7⟩, .sending, []⟩⟩ ∧
    (∀ k : Fin 4, ∀ q ∈ ((ending (.ask 64) askSending).port 0).queues[k], q.owner ≠ .ask 64) ∧
    (∃ q ∈ ((askSending.modPort 0 fun x => x.enqueue .bulk ⟨.block, 1, 0, 64, [], .ask 64⟩).port 0).queues[1], q.owner = .ask 64) := by
  decide +kernel

theorem witness_AskTableEvents :
    live.running = true ∧
    ((asked live 2 63 ⟨diskA, .closeSource 0, .close 7⟩ 9).port 2).asks[63] =
      ⟨1, some ⟨⟨diskA, .closeSource 0, .close 7⟩, .awaiting 9, []⟩⟩ ∧
    (live.port 2).asks[63].live = none ∧ (askSending.port 0).asks[0].live = some ⟨⟨diskA, .closeSource 0, .close 7⟩, .sending, []⟩ ∧
    (live.port 2).link = .up ∧
    ((live.modPort 2 fun x => { x with waiting := [⟨diskA, .closeSource 0, .close 11⟩] }).port 2).waiting =
      ⟨diskA, .closeSource 0, .close 11⟩ :: [] ∧
    (∀ m : EntryId, m < 0 → (live.port 2).asks[m].live ≠ none) ∧ (live.port 2).waiting = [] := by decide +kernel

/-- Endpoints that can be asked and that cannot, with an entry free, none free, an ask waiting, and the port not UP. -/
theorem witness_AskTableEvents_made :
    let full := queued.modPort 2 fun x => { x with asks := x.asks.map fun _ => ⟨1, some ⟨⟨diskA, .closeSource 0, .close 7⟩, .sending, []⟩⟩ }
    queued.endpoint? ⟨2, 3⟩ = none ∧ queued.endpoint? diskA = some ⟨diskA, .dest, 2000, .online⟩ ∧
    hasRole (queued.port 2).roles EndpointKind.dest.role = true ∧ (queued.port 2).waiting = [] ∧ (queued.port 2).asks[0].live = none ∧
    (∀ m : EntryId, m < 0 → (queued.port 2).asks[m].live ≠ none) ∧ (queued.port 2).link = .up ∧
    (∀ n : EntryId, (full.port 2).asks[n].live ≠ none) ∧
    ((queued.modPort 2 fun x => { x with link := .down }).port 2).link ≠ .up := by decide +kernel

/-- An IDENTIFYING job; a data source to open; a check read and a READ to make; a CLOSING channel. -/
theorem witness_EngineAsks :
    let i := queued.setJob 0 (some (jobOf .identifying [diskA, diskB] [0]))
    let o := { binding [] [laneOf 0] with handle := none }
    let k := { binding [] [laneOf 0] with source := .peer diskA 0, readPos := 1 }
    let r := binding [⟨0, 10, .reading⟩] [laneOf 0]
    let x := clipOf 0 .copying [record diskA .inProgress 0 0, record diskB .inProgress 0 0]
    i.offload.state = .running ∧ i.job? 0 = some (jobOf .identifying [diskA, diskB] [0]) ∧ (i.identifyOf 0).asked = false ∧
    i.endpoint? card = some ⟨card, .source, 2000, .online⟩ ∧ (bound o).channel 0 = .bound o ∧ (bound o).clip? o.clip = some x ∧
    (bound o).job? o.job = some { jobOf .active [diskA, diskB] [0] with standing := some .confirmed } ∧
    (bound o).offload.state = .running ∧ (bound o).endpoint? card = some ⟨card, .source, 2000, .online⟩ ∧
    (bound k).channel 0 = .bound k ∧ k.handle = some 7 ∧ k.reading = false ∧ k.lanes ≠ [] ∧ k.peerNext < k.readPos ∧
    (bound k).endpoint? diskA = some ⟨diskA, .dest, 2000, .online⟩ ∧ (bound r).channel 0 = .bound r ∧
    (∃ z ∈ r.held, z.extent = r.readPos ∧ z.phase = .reading) ∧
    (live.setChannel 0 (.closing ⟨none, card, 7, false⟩)).channel 0 = .closing ⟨none, card, 7, false⟩ ∧
    live.endpoint? card = none := by decide +kernel

/-- Lanes with a CREATE, a verify READ, a WRITE and a CLOSE to ask. -/
theorem witness_EngineAsks_lanes :
    let h : HeldExtent := ⟨0, 10, .read (crc64 (bytes [1, 2])) (bytes [1, 2])⟩
    let create := bound (binding [] [{ laneOf 0 with handle := none }])
    let verify := bound (binding [h] [{ laneOf 0 with writePos := 1 }])
    let write := bound (binding [h] [laneOf 0])
    let close := seeded (some 0)
    ((create.laneView? 0 0).any fun v => v.bind.handle = some 7 ∧ v.lane.handle = none ∧ v.lane.creating = false ∧
      v.record.endpoint = diskA) = true ∧
    (create.job? 0).map (·.dests[0]?) = some (some ⟨diskA, [65]⟩) ∧ create.draining diskA = false ∧
    ((verify.laneView? 0 0).any fun v => v.record.verified < v.clip.extents ∧ v.record.verified < v.lane.writePos ∧
      v.lane.rewrite = none ∧ v.lane.verify = none ∧ v.lane.heldFailure = none ∧ v.lane.handle = some 11) = true ∧
    ((write.laneView? 0 0).any fun v => v.lane.rewrite = none ∧ v.lane.heldFailure = none ∧ v.lane.writePos < v.clip.extents ∧
      v.bind.held = [] ++ h :: [] ∧ h.extent = v.lane.writePos ∧ v.lane.write = none ∧ v.lane.handle = some 11) = true ∧
    ((close.laneView? 0 1).any fun v => v.record.verified = v.clip.extents ∧ v.bind.peerNext = v.clip.extents ∧
      v.lane.write = none ∧ v.lane.closing = false ∧ v.lane.handle = some 11) = true := by decide +kernel

/-- A lane whose record is not IN_PROGRESS: a verify READ that is lost only takes its mark back. -/
theorem witness_EngineAsks_settled :
    let h : HeldExtent := ⟨0, 10, .read (crc64 (bytes [1, 2])) (bytes [1, 2])⟩
    let s := (bound (binding [h] [{ laneOf 0 with writePos := 1 }])).modDest 0 0 fun x => { x with state := .failed }
    let t := { s with link := { s.link with endpoints := [] } }
    ((t.laneView? 0 0).any fun v => v.record.state ≠ .inProgress ∧ v.lane.verify = none ∧ v.lane.handle = some 11) = true ∧
    ((t.pumpVerify 0 0).laneView? 0 0).map (·.lane.verify) = some none ∧ (t.makeAsk ⟨diskA, .verify 0 0 0, .close 11⟩).2 = true := by
  decide +kernel

/-! #### Requests told apart by their number and arguments -/

theorem witness_DeviceRequests : (asking live ⟨1, 5, []⟩).Taking 0 ⟨1, 5, []⟩ ∧
    (asking live ⟨3, 5, [0]⟩).Taking 0 ⟨3, 5, [0]⟩ := ⟨asking_taking _ _, asking_taking _ _⟩

theorem witness_DeviceRequests_restart : (asking live ⟨2, 5, []⟩).Taking 0 ⟨2, 5, []⟩ ∧ live.control.softRestart ≠ .ready :=
  ⟨asking_taking _ _, by decide +kernel⟩

theorem witness_PortRequests : (asking live ⟨4, 5, bytes [3, 31]⟩).Taking 0 ⟨4, 5, bytes [3, 31]⟩ := asking_taking _ _

theorem witness_EndpointAddRemove : (asking live ⟨5, 5, bytes [3, 15, 3, 39, 16]⟩).Taking 0 ⟨5, 5, bytes [3, 15, 3, 39, 16]⟩ :=
  asking_taking _ _

theorem witness_EndpointAddRemove_remove : (asking queued ⟨6, 5, bytes [2, 1]⟩).Taking 0 ⟨6, 5, bytes [2, 1]⟩ := asking_taking _ _

theorem witness_PortRequests_notice : (asking live ⟨8, 5, bytes [3]⟩).Taking 0 ⟨8, 5, bytes [3]⟩ ∧ (logged 1).running = true ∧
    (logged 1).control.notice = .none ∧ ((logged 1).port (logged 1).control.noticePort).link = .up ∧
    hasRole ((logged 1).port (logged 1).control.noticePort).roles .control = true ∧
    (logged 1).spotter.log[0]? = some stallEntry ∧ stallEntry.noticed = false ∧
    (∀ (m : Nat) (x : FaultEntry), (logged 1).spotter.log[m]? = some x → x.noticed = false →
      x.kind.severity < stallEntry.kind.severity ∨ x.kind.severity = stallEntry.kind.severity ∧ 0 ≤ m) ∧
    ∀ e ∈ live.spotter.log, e.noticed = true := by
  refine ⟨asking_taking _ _, by decide +kernel, by decide +kernel, by decide +kernel, by decide +kernel, rfl, rfl,
    fun m x h _ => ?_, by decide +kernel⟩
  have : x = stallEntry := List.eq_of_mem_replicate (List.mem_of_getElem? h)
  subst this
  exact .inr ⟨rfl, Nat.zero_le _⟩

theorem witness_TableAndUnitReads : (asking queued ⟨7, 5, []⟩).Taking 0 ⟨7, 5, []⟩ ∧
    (asking queued ⟨0x14, 5, bytes [15]⟩).Taking 0 ⟨0x14, 5, bytes [15]⟩ ∧
    (asking queued ⟨0x15, 5, bytes [1, 255]⟩).Taking 0 ⟨0x15, 5, bytes [1, 255]⟩ :=
  ⟨asking_taking _ _, asking_taking _ _, asking_taking _ _⟩

/-! #### Jobs -/

/-- JOB ADD's arguments: a card, a root on a destination of L2, and one clip. -/
def addArgs (limit root id : Nat) : List Byte :=
  bytes [1, 1, limit, 1, 2, id, 1, root, 1, 5, 0, 0, 0, 1, 0, 0, 0, 0, 9, 0, 0, 0, 0, 0, 255, 1, 66]

/-- What those arguments are read as. -/
def addRead (limit root id : Nat) : JobArgs :=
  { port := 1, id := 1, limit := limit, dests := [⟨2, id, [byteOf root]⟩]
    clips := [{ tag := 5, fileId := 1, size := 9, flag := 0, frames := 0, look := 255, name := [66] }] }

/-- The endpoints, with nothing else. -/
def plain : State := live.setEndpoints (endpoints .online .online)

theorem witness_JobAdd :
    (asking plain ⟨0x10, 5, addArgs 8 65 1⟩).Taking 0 ⟨0x10, 5, addArgs 8 65 1⟩ ∧ parseJob [] = none ∧
    parseJob (addArgs 8 65 1) = some (addRead 8 65 1) ∧ parseJob (addArgs 9 65 1) = some (addRead 9 65 1) ∧
    ¬ (addRead 9 65 1).limit ≤ 8 ∧
    ((∀ e ∈ [(1, 1), (2, 1)], e.1 < 4 ∧ 1 ≤ e.2 ∧ e.2 ≤ 15) ∧ (addRead 8 65 1).limit ≤ 8 ∧
      (∀ d ∈ (addRead 8 65 1).dests, d.root ≠ []) ∧
      (∀ c ∈ (addRead 8 65 1).clips, c.tag ≤ 15 ∧ c.flag ≤ 1 ∧ (c.look ≤ 63 ∨ c.look = 255) ∧ c.name ≠ [])) ∧
    [card, diskA].map (fun e => (e.port.val, e.id)) = [(1, 1), (2, 1)] ∧
    live.endpoint? card = none ∧ plain.endpoint? card = some ⟨card, .source, 2000, .online⟩ ∧
    plain.endpoint? diskA = some ⟨diskA, .dest, 2000, .online⟩ ∧
    plain.endpoint? ⟨3, 1⟩ = some ⟨⟨3, 1⟩, .decoder, 2000, .online⟩ ∧
    (live.setEndpoints (endpoints .draining .released)).endpoint? diskA = some ⟨diskA, .dest, 2000, .draining⟩ ∧
    plain.job? 0 = none ∧ (∀ n < 0, plain.job? n ≠ none) ∧ (plain.clip? 0).isNone = true := by
  refine ⟨asking_taking _ _, ?_⟩
  decide +kernel

theorem witness_JobCancelAndPause : (asking active ⟨0x11, 5, [0]⟩).Taking 0 ⟨0x11, 5, [0]⟩ ∧
    active.job? 0 = some { jobOf .active [diskA, diskB] [0] with standing := some .confirmed } ∧ active.job? 15 = none ∧
    (queued.setJob 0 (some (jobOf .done [diskA] [0]))).job? 0 = some (jobOf .done [diskA] [0]) ∧
    active.clip? 0 = some (clipOf 0 .waiting [record diskA .pending 0 0, record diskB .pending 0 0]) ∧
    0 ∈ (jobOf .active [diskA, diskB] [0]).clips := by
  refine ⟨asking_taking _ _, ?_⟩
  decide +kernel

theorem witness_JobRequests : (asking queued ⟨0x12, 5, [15]⟩).Taking 0 ⟨0x12, 5, [15]⟩ ∧
    (asking queued ⟨0x16, 5, bytes [15, 8]⟩).Taking 0 ⟨0x16, 5, bytes [15, 8]⟩ := ⟨asking_taking _ _, asking_taking _ _⟩

theorem witness_JobRequests_remove : (asking queued ⟨0x13, 5, [0]⟩).Taking 0 ⟨0x13, 5, [0]⟩ := asking_taking _ _

theorem witness_JobCancelAndPause_pause : (asking queued ⟨0x17, 5, bytes [255]⟩).Taking 0 ⟨0x17, 5, bytes [255]⟩ ∧
    (asking queued ⟨0x18, 5, []⟩).Taking 0 ⟨0x18, 5, []⟩ ∧
    queued.job? 0 = some (jobOf .queued [diskA, diskB] [0]) ∧
    ((bound (binding [] [])).channel 0).job? = some 0 := by
  refine ⟨asking_taking _ _, asking_taking _ _, ?_⟩
  decide +kernel

theorem witness_EngineStateAndBuffers :
    let s := { live with offload := { live.offload with state := .resuming, pauseSupply := true } }
    s.offload.pauseSupply = true ∧ s.offload.state = .resuming ∧ s.running = true ∧ s.offload.state ≠ .running := by
  decide +kernel

theorem witness_DestRelease : (asking queued ⟨0x19, 5, bytes [2, 15]⟩).Taking 0 ⟨0x19, 5, bytes [2, 15]⟩ ∧
    queued.running = true ∧
    (queued.setEndpointState diskB .draining).endpoint? diskB = some ⟨diskB, .dest, 2000, .draining⟩ ∧
    (∀ y ∈ ((queued.setEndpointState diskB .draining).port 2).allAsks, y.endpoint ≠ diskB) ∧
    (∃ y ∈ ((asked queued 2 0 ⟨diskB, .closeSource 0, .close 7⟩ 9).port 2).allAsks, y.endpoint = diskB) ∧
    queued.endpoint? ⟨2, 3⟩ = none := by
  refine ⟨asking_taking _ _, ?_⟩
  decide +kernel

theorem witness_DrainDefers :
    let s := { queued with control := { queued.control with deferred := [⟨0, 7, 0x19, diskB⟩] } }
    (∀ c : ChannelId, s.channel c = .free) ∧ s.job? 0 = some (jobOf .queued [diskA, diskB] [0]) ∧
    0 ∈ (jobOf .queued [diskA, diskB] [0]).clips ∧
    s.clip? 0 = some (clipOf 0 .waiting [record diskA .pending 0 0, record diskB .pending 0 0]) ∧
    s.control.deferred.find? (fun y => y.endpoint == diskB) = some ⟨0, 7, 0x19, diskB⟩ := by decide +kernel

/-- A clip no job lists: the premise of the clips that a drain leaves alone. -/
theorem witness_DrainDefers_others :
    let s := live.setClip 511 (some (clipOf 0 .cancelled []))
    s.clip? 511 = some (clipOf 0 .cancelled []) ∧ ∀ n j, s.job? n = some j → 511 ∈ j.clips → j.state = .cancelled := by
  refine ⟨by decide +kernel, fun n j h => ?_⟩
  have hn : State.job? State.reset n = none := by
    simp only [State.job?, State.reset, ClipTable.reset, Vector.getElem?_replicate]
    split <;> rfl
  exact absurd (hn.symm.trans h) nofun

/-- A lane of a bound clip that a drain reaches; a WAITING clip of an ACTIVE job with its last PENDING record there. -/
theorem witness_DrainDefers_settles :
    let c := clipOf 0 .waiting [record diskA .verified 1 0, record diskB .pending 0 0]
    let s := copying { jobOf .active [diskA, diskB] [0] with standing := some .peerOnly } c
    let z : Reached := ⟨0, 1, record diskB .inProgress 0 0⟩
    let d := clipOf 0 .waiting [record diskA .verified 1 0, record diskB .deferred 0 0]
    (∀ a : ChannelId, s.channel a = .free) ∧ s.clip? 0 = some c ∧ c.copyState = .waiting ∧
    (∃ r ∈ c.dests, r.state = .pending) ∧ (∀ r ∈ c.dests, r.state = .pending → (r.endpoint == diskB) = true) ∧
    (s.job? 0).map (·.state) = some .active ∧ c.job ∈ s.activeJobs ∧ (∀ r ∈ d.dests, r.state ≠ .pending) ∧
    s.spotter.log.length + 1 ≤ 128 ∧ z ∈ (bound (binding [] [laneOf 0, laneOf 1])).reached (· == diskB) ∧
    z.record.state = .inProgress ∧ (bound (binding [] [laneOf 0, laneOf 1])).channel 0 = .bound (binding [] [laneOf 0, laneOf 1]) ∧
    (binding [] [laneOf 0, laneOf 1]).clip = z.clip := by decide +kernel

/-- The ports that can be lost, drains that are answered, and a job that loses its source. -/
theorem witness_LossSpreads :
    let b := binding [] [laneOf 0, laneOf 1]
    let s := { queued with control := { queued.control with deferred := [⟨0, 7, 0x19, diskB⟩, ⟨0, 8, 0x19, diskA⟩] } }
    queued.running = true ∧ (queued.port 2).link = .up ∧ s.control.deferred = [⟨0, 7, 0x19, diskB⟩] ++ ⟨0, 8, 0x19, diskA⟩ :: [] ∧
    (∀ y ∈ [(⟨0, 7, 0x19, diskB⟩ : Deferred)], y.endpoint ≠ diskA) ∧ (∀ y ∈ queued.control.deferred, y.endpoint ≠ diskA) ∧
    (bound b).job? 0 = some { jobOf .active [diskA, diskB] [0] with standing := some .confirmed } ∧
    (bound b).spotter.log.length ≤ 120 ∧ (bound b).channel 0 = .bound b ∧ b.job = 0 ∧ b.notes = [] ∧
    (bound b).clip? b.clip = some (clipOf 0 .copying [record diskA .inProgress 0 0, record diskB .inProgress 0 0]) ∧
    (∀ a : ChannelId, a ≠ 0 → (bound b).channel a = .free) := by decide +kernel

theorem witness_ReturnTaken :
    let c := clipOf 0 .partialCopy [record diskA .verified 1 0, record diskB .deferred 0 2]
    let f := clipOf 0 .failed [record diskA .failed 0 3, record diskB .deferred 0 2]
    let s (x : JobState) (c : ClipRecord) := copying (jobOf x [diskA, diskB] [0]) c
    (s .done c).clip? 0 = some c ∧ c.dests[1]? = some (record diskB .deferred 0 2) ∧
    ((s .cancelled c).job? 0).map (·.state) = some .cancelled ∧ ((s .queued c).job? 0).map (·.state) = some .queued ∧
    ((s .doneIncomplete c).job? 0).map (·.state) = some .doneIncomplete ∧
    (f.copyState = .failed ∧ f.fileCrc = none ∧ ∀ y ∈ f.dests, y.reason ≠ some .sourceReadFailed ∧
      y.reason ≠ some .sizeMismatch ∧ y.reason ≠ some .noSource) := by decide +kernel

theorem witness_ReturnTaken_first (i : Nat) (y : DestRecord) (h : i < 1)
    (hy : (clipOf 0 .partialCopy [record diskA .verified 1 0, record diskB .deferred 0 2]).dests[i]? = some y) :
    ¬ (y.state = .deferred ∧ y.endpoint = diskB) := by
  obtain rfl : i = 0 := by omega
  obtain rfl : record diskA .verified 1 0 = y := by simpa [clipOf] using hy
  decide

theorem witness_ReturnTaken_request : (asking queued ⟨0x1A, 5, bytes [2, 2]⟩).Taking 0 ⟨0x1A, 5, bytes [2, 2]⟩ :=
  asking_taking _ _

/-- Clip 0 bound to channel 0 with its second record DEFERRED. -/
theorem witness_ReturnTaken_bound :
    let c := clipOf 0 .copying [record diskA .inProgress 0 0, record diskB .deferred 0 0]
    let b := binding [] [laneOf 0]
    let s := (active.setClip 0 (some c)).setChannel 0 (.bound b)
    s.channel 0 = .bound b ∧ b.clip = 0 ∧ s.clip? 0 = some c ∧ (∃ d ∈ c.dests, d.state = .deferred ∧ d.endpoint = diskB) ∧
      diskB ∉ b.notes ∧ (∀ a : ChannelId, active.channel a = .free) ∧ (active.job? 0).map (·.state) = some .active := by
  decide +kernel

theorem witness_JobActivation :
    queued.running = true ∧ queued.job? 15 = none ∧ queued.job? 0 = some (jobOf .queued [diskA, diskB] [0]) ∧
    queued.table.admission = [] ++ 0 :: [] ∧ (∀ m < 16, ∀ x ∈ queued.job? m, x.state ≠ .identifying ∧ x.state ≠ .active) ∧
    queued.offload.state = .running ∧ queued.endpoint? card = some ⟨card, .source, 2000, .online⟩ ∧
    (clipOf 0 .waiting [record diskA .pending 0 0, record diskB .pending 0 0]).fresh = true ∧
    (clipOf 0 .waiting [record diskA .pending 0 0, record diskB .pending 0 0]).orphaned = false ∧
    (clipOf 0 .waiting [record diskA .pending 0 0, record diskB .pending 0 0]).idle = false ∧
    (let c := clipOf 0 .partialCopy [record diskA .verified 1 0, record diskB .deferred 0 0]
     let s := copying (jobOf .queued [diskA, diskB] [0]) c
     s.clip? 0 = some c ∧ s.isBound 0 = false ∧ c.fresh = false ∧ c.reseedWork = false ∧ c.orphaned = false ∧ c.idle = false) := by
  decide +kernel

/-- A clip with an orphaned record, and an idle one. -/
theorem witness_JobActivation_tidied :
    let c := clipOf 0 .failed [record diskA .failed 0 3, record diskB .pending 0 0]
    let d := clipOf 0 .waiting [record diskA .verified 1 0, record diskB .deferred 0 0]
    let s := copying (jobOf .queued [diskA, diskB] [0])
    (s c).clip? 0 = some c ∧ c.copyState = .failed ∧ c.fileCrc = none ∧ (∃ r ∈ c.dests, r.state = .pending) ∧
    (s c).spotter.log.length + 1 ≤ 128 ∧ (s d).clip? 0 = some d ∧ d.copyState = .waiting ∧ ∀ r ∈ d.dests, r.state ≠ .pending := by
  decide +kernel

theorem witness_ChannelBind :
    active.running = true ∧ (∀ n < 16, ∀ j ∈ plain.job? n, j.state ≠ .active) ∧ active.offload.state = .running ∧
    active.channel 0 = .free ∧ (∀ b : ChannelId, b < 0 → active.channel b ≠ .free) ∧ (active.offload.lastJob + 1 + 0) % 16 = 0 ∧
    active.job? 0 = some { jobOf .active [diskA, diskB] [0] with standing := some .confirmed } ∧
    (active.channelsOf 0).length < 2 ∧ active.eligible 0 = true ∧
    active.clip? 0 = some (clipOf 0 .waiting [record diskA .pending 0 0, record diskB .pending 0 0]) := by decide +kernel

/-- A PEER_ONLY job: with the file CRC and a VERIFIED record on L2 its peer is destination 1; without the CRC there is
none. -/
theorem witness_ChannelBind_peer :
    let c (crc : Option Word64) := { clipOf 0 .partialCopy [record diskA .verified 1 0, record diskB .pending 0 0] with
      copyState := .waiting, fileCrc := crc }
    let s (crc : Option Word64) := copying { jobOf .active [diskA, diskB] [0] with standing := some .peerOnly } (c crc)
    (s (some 5)).eligible 0 = true ∧ (s none).eligible 0 = true ∧ (s (some 5)).clip? 0 = some (c (some 5)) ∧
    (s (some 5)).endpoint? diskA = some ⟨diskA, .dest, 2000, .online⟩ ∧
    hasRole ((s (some 5)).port 2).roles .dest = true ∧ (c (some 5)).dests[0]? = some (record diskA .verified 1 0) ∧
    ((c none).dests.filter fun d => d.state == .pending || d.state == .inProgress) = [record diskB .pending 0 0] ∧
    (s none).spotter.log.length + 1 ≤ 128 := by decide +kernel

theorem witness_EngineStateAndBuffers_buffers :
    let s := bound (binding [] [laneOf 0, laneOf 1])
    let s := { s with offload := { s.offload with bufferWaiting := [0] } }
    let r := { live with offload := { live.offload with state := .resuming, resumeTimer := some 1000 } }
    s.running = true ∧ (∀ c ∈ live.offload.bufferWaiting, live.needsBuffer c = false) ∧ s.offload.state = .running ∧
    s.buffersHeld < 40 ∧ s.offload.bufferWaiting = [] ++ 0 :: [] ∧ s.needsBuffer 0 = true ∧
    s.channel 0 = .bound (binding [] [laneOf 0, laneOf 1]) ∧
    s.clip? 0 = some (clipOf 0 .copying [record diskA .inProgress 0 0, record diskB .inProgress 0 0]) ∧
    live.offload.resumeTimer = none ∧ r.offload.resumeTimer = some 1000 := by decide +kernel

theorem witness_FoldedFileCrc :
    let c := clipOf 0 .copying []
    c.hashed = 0 ∧ c.register = 0xFFFFFFFFFFFFFFFF#64 ∧ c.fileCrc = none ∧ c.extents = [bytes [1, 2]].length ∧
      [bytes [1, 2]] ≠ [] := by decide +kernel

/-- A binding whose lane 0 reads back extent 0, which is held with its extent CRC. -/
def readingBack (attempts : Nat) : State :=
  let b := binding [⟨0, 10, .read (crc64 (bytes [1, 2])) (bytes [1, 2])⟩] [{ laneOf 0 with writePos := 1, verify := some 0 }, laneOf 1]
  (bound { b with readPos := 1 }).modDest 0 0 fun r => { r with attempts := attempts }

theorem witness_VerifyJudged :
    ∃ v, (readingBack 1).laneView? 0 0 = some v ∧ v.bind.notes = [] ∧ v.lane.heldFailure = none ∧
      v.bind.crcOf 0 = some (crc64 (bytes [1, 2])) ∧ v.bind.crcOf 0 ≠ some (crc64 (bytes [1, 3])) ∧ v.record.attempts < 2 ∧
      (readingBack 1).spotter.log.length < 128 := by
  refine ⟨((readingBack 1).laneView? 0 0).get (by decide +kernel), (Option.some_get _).symm, ?_⟩
  decide +kernel

/-- The third failure, and a held failure that names the next extent. -/
theorem witness_VerifyJudged_third :
    let s := (readingBack 2).modLane 0 0 fun l => { l with heldFailure := some (1, .destTimeout) }
    ∃ v, s.laneView? 0 0 = some v ∧ v.bind.notes = [] ∧ 2 ≤ v.record.attempts ∧
      v.lane.heldFailure = some (v.record.verified + 1, .destTimeout) ∧ v.bind.crcOf 0 = some (crc64 (bytes [1, 2])) := by
  refine ⟨(State.laneView? ((readingBack 2).modLane 0 0 fun l => { l with heldFailure := some (1, .destTimeout) }) 0 0).get
    (by decide +kernel), (Option.some_get _).symm, ?_⟩
  decide +kernel

/-- A bound clip with a record left and with none; a job without work; a channel that is not bound. -/
theorem witness_ClipSettles :
    let b := binding [⟨0, 10, .reading⟩] [laneOf 0, laneOf 1]
    let x := clipOf 0 .copying [record diskA .inProgress 0 0, record diskB .inProgress 0 0]
    let y := clipOf 0 .copying [record diskA .verified 1 0, record diskB .deferred 0 0]
    let s := (bound b).setClip 0 (some y)
    let i := copying (jobOf .active [diskA, diskB] [0]) { y with copyState := .partialCopy }
    (bound b).channel 0 = .bound b ∧ (bound b).clip? b.clip = some x ∧ (∃ r ∈ x.dests, r.state = .pending ∨ r.state = .inProgress) ∧
    s.channel 0 = .bound b ∧ s.clip? b.clip = some y ∧ (¬ ∃ r ∈ y.dests, r.state = .pending ∨ r.state = .inProgress) ∧
    queued.channel 0 = .free ∧ i.job? 0 = some (jobOf .active [diskA, diskB] [0]) ∧ i.isBound 0 = false ∧
    i.clip? 0 = some { y with copyState := .partialCopy } ∧ ({ y with copyState := .partialCopy } : ClipRecord).fresh = false ∧
    ({ y with copyState := .partialCopy } : ClipRecord).reseedWork = false := by decide +kernel

/-- A job whose IDENTIFY has been asked as often as given. -/
def identifying (attempts : Nat) (medium : Option Word64) : State :=
  (queued.setJob 0 (some { jobOf .identifying [diskA, diskB] [0] with medium := medium })).setIdentify 0 ⟨attempts, true⟩

theorem witness_IdentifyAndOpenEnds :
    let c := clipOf 0 .waiting [record diskA .pending 0 0, record diskB .pending 0 0]
    (identifying 3 none).job? 0 = some (jobOf .identifying [diskA, diskB] [0]) ∧
    (identifying 2 (some 5)).job? 0 = some { jobOf .identifying [diskA, diskB] [0] with medium := some 5 } ∧
    ((identifying 2 none).identifyOf 0).attempts < 3 ∧ 3 ≤ ((identifying 3 none).identifyOf 0).attempts ∧
    (identifying 3 none).clip? 0 = some c ∧ c.fresh = true ∧ { c with copyState := .failed }.fresh = false := by decide +kernel

/-- A binding without handle whose opening ask has been made as often as given. -/
theorem witness_IdentifyAndOpenEnds_open :
    let b (n : Nat) := { binding [] [laneOf 0, laneOf 1] with handle := none, openAttempts := n, opening := true }
    let c := clipOf 0 .copying [record diskA .inProgress 0 0, record diskB .inProgress 0 0]
    (bound (b 3)).channel 0 = .bound (b 3) ∧ (bound (b 3)).clip? (b 3).clip = some c ∧ (b 3).source = .card card ∧
    (b 2).openAttempts < 3 ∧ 3 ≤ (b 3).openAttempts ∧ (b 3).notes = [] ∧ (∀ d ∈ c.dests, d.state ≠ .pending) ∧ 11 ≠ c.size := by
  decide +kernel

/-- A READ of extent 0 outstanding, twice failed; the same from a peer; and a read position below the verified prefixes. -/
theorem witness_SourceReadEnds :
    let b := { binding [⟨0, 10, .reading⟩] [laneOf 0, laneOf 1] with reading := true, readAttempts := 2 }
    let e := { b with source := .peer diskA 0, readAttempts := 1 }
    let c := clipOf 0 .copying [record diskA .inProgress 0 0, record diskB .inProgress 0 0]
    let t := ((bound { b with reading := false }).modDest 0 0 fun r => { r with verified := 1 }).modDest 0 1 fun r =>
      { r with verified := 2 }
    (bound b).channel 0 = .bound b ∧ (bound b).clip? b.clip = some c ∧ b.source = .card card ∧ 2 ≤ b.readAttempts ∧ b.notes = [] ∧
    (∀ d ∈ c.dests, d.state ≠ .pending) ∧ extentLength c.size b.readPos = 10 ∧ (bound e).channel 0 = .bound e ∧
    e.source = .peer diskA 0 ∧ e.readAttempts < 2 ∧ (bound b).spotter.log.length ≤ 120 ∧
    (bound b).job? b.job = some { jobOf .active [diskA, diskB] [0] with standing := some .confirmed } ∧
    ((t.clip? 0).map fun x => ((x.dests.filter fun d => d.state == .inProgress).map (·.verified)).min?) = some (some 1) ∧
    b.handle ≠ none ∧ b.readPos < 1 := by decide +kernel

/-- In the binding of `readingBack` every other channel is free. -/
theorem witness_SourceReadEnds_others (b : Binding) (h : b.notes = []) (d : ChannelId) (y : Binding)
    (hy : (bound b).channel d = .bound y) : y.notes = [] := by
  by_cases hd : d = 0
  · subst hd
    have : y = b := by simpa [bound, State.channel, State.setChannel] using hy.symm
    rwa [this]
  · have hn : ∀ c : ChannelId, c ≠ 0 → (bound b).channel c = .free := by
      intro c hc
      have : active.channel c = .free := (by decide +kernel : ∀ c : ChannelId, active.channel c = .free) c
      have hv : (0 : Nat) ≠ c.val := fun e => hc (Fin.ext e.symm)
      simpa [bound, State.channel, State.setChannel, Vector.getElem_set_ne _ _ hv, State.setClip] using this
    rw [hn d hd] at hy
    exact nomatch hy

/-- A lane on its first and its third failure; and one of a binding from a peer, copied whole, with and without the file
CRC the peer register stands for. -/
theorem witness_LaneEnds :
    ∃ v w, (readingBack 1).laneView? 0 0 = some v ∧ v.bind.notes = [] ∧ v.record.attempts < 2 ∧ v.record.state = .inProgress ∧
      v.record.verified ≠ 1 ∧ (readingBack 2).laneView? 0 0 = some w ∧ w.bind.notes = [] ∧ 2 ≤ w.record.attempts ∧
      (readingBack 2).spotter.log.length < 128 := by
  refine ⟨((readingBack 1).laneView? 0 0).get (by decide +kernel), ((readingBack 2).laneView? 0 0).get (by decide +kernel),
    (Option.some_get _).symm, ?_, ?_, ?_, ?_, (Option.some_get _).symm, ?_⟩ <;> decide +kernel

theorem witness_LaneEnds_peer :
    ∃ v w, (seeded (some (~~~5))).laneView? 0 1 = some v ∧ v.clip.fileCrc = some (~~~ v.bind.peerRegister) ∧
      (seeded none).laneView? 0 1 = some w ∧ w.bind.source = .peer diskA 0 ∧ w.record.verified = w.clip.extents ∧
      w.bind.peerNext = w.clip.extents ∧ w.clip.fileCrc ≠ some (~~~ w.bind.peerRegister) := by
  refine ⟨((seeded (some (~~~5))).laneView? 0 1).get (by decide +kernel), ((seeded none).laneView? 0 1).get (by decide +kernel),
    (Option.some_get _).symm, ?_, (Option.some_get _).symm, ?_⟩ <;> decide +kernel

/-! #### Looks, review streams, the fault spotter -/

theorem witness_LookLoading : (asking live ⟨0x20, 5, bytes [15, 17]⟩).Taking 0 ⟨0x20, 5, bytes [15, 17]⟩ ∧
    (asking live ⟨0x21, 5, bytes [15, 4, 0, 0, 0, 0, 0, 0, 0, 1, 0, 0, 0, 0]⟩).Taking 0
      ⟨0x21, 5, bytes [15, 4, 0, 0, 0, 0, 0, 0, 0, 1, 0, 0, 0, 0]⟩ ∧
    (asking live ⟨0x22, 5, [15]⟩).Taking 0 ⟨0x22, 5, [15]⟩ ∧ (asking live ⟨0x23, 5, [15]⟩).Taking 0 ⟨0x23, 5, [15]⟩ :=
  ⟨asking_taking _ _, asking_taking _ _, asking_taking _ _, asking_taking _ _⟩

theorem witness_LookBindings : (asking live ⟨0x24, 5, bytes [63, 255]⟩).Taking 0 ⟨0x24, 5, bytes [63, 255]⟩ ∧
    (asking queued ⟨0x25, 5, bytes [0, 0, 63]⟩).Taking 0 ⟨0x25, 5, bytes [0, 0, 63]⟩ ∧
    (∀ st : StreamId, (live.stream st).state ≠ .held) := by
  refine ⟨asking_taking _ _, asking_taking _ _, ?_⟩
  decide +kernel

/-- Stream 0 HELD on frame 9 of clip 0, whose look 63 maps to slot 15, which has an active bank; graded in bypass before. -/
def holding (mode : Mode) (regrading : Bool) : State :=
  let s := (queued.setClip 0 (some { clipOf 0 .complete [] with look := some 63 })).modSlot 15 fun x => { x with active := some .b }
  let s := { s with look := { s.look with directory := s.look.directory.set 63 (some 15) } }
  s.modStream 0 fun _ =>
    { Stream.closed (params mode) with
      state := .held, currentClip := some 0, heldFrame := some ⟨0, 9, false⟩, regrading := regrading }

theorem witness_LookBindings_held :
    let s := holding .streaming false
    (∀ y : StreamId, y ≠ 0 → (s.stream y).state ≠ .held) ∧ (s.stream 0).state = .held ∧ (s.stream 0).currentClip = some 0 ∧
    (s.chain 0).resolution ≠ (s.stream 0).graded ∧ s.lookOf 0 = some 63 ∧ s.directoryAt 63 = some 15 ∧
    (s.stream 0).regrading = false ∧ ((holding .paced true).stream 0).regrading = true ∧
    (s.stream 0).heldFrame = some ⟨0, 9, false⟩ ∧ s.isUp (s.stream 0).params.output.port = true ∧
    (s.port (s.stream 0).params.output.port).queueOf (.raster 0) = [] ∧ s.spotter.log.length < 128 := by decide +kernel

/-- Both streams HELD on clip 0, which would resolve otherwise now: a change of its look reaches both. -/
theorem witness_LookBindings_both :
    let s := (holding .streaming false).modStream 1 fun _ => (holding .paced true).stream 0
    (∀ st : StreamId, (s.stream st).state = .held ∧ (s.stream st).currentClip = some 0 ∧
      (s.chain 0).resolution ≠ (s.stream st).graded) ∧ s.lookOf 0 = some 63 ∧ s.directoryAt 63 = some 15 ∧
    (s.stream 1).regrading = true := by decide +kernel

theorem witness_TableAndUnitReads_records : ((live.stream 0).state = .closed) ∧ ((gapPoint .held).stream 0).state ≠ .closed := by
  decide +kernel

theorem witness_TableAndUnitReads_units : (asking live ⟨0x26, 5, [15]⟩).Taking 0 ⟨0x26, 5, [15]⟩ ∧
    (asking live ⟨0x32, 5, [1]⟩).Taking 0 ⟨0x32, 5, [1]⟩ ∧ (asking live ⟨0x3C, 5, [15]⟩).Taking 0 ⟨0x3C, 5, [15]⟩ ∧
    (asking live ⟨0x3D, 5, [1]⟩).Taking 0 ⟨0x3D, 5, [1]⟩ ∧
    (asking live ⟨0x3F, 5, bytes [127, 128]⟩).Taking 0 ⟨0x3F, 5, bytes [127, 128]⟩ :=
  ⟨asking_taking _ _, asking_taking _ _, asking_taking _ _, asking_taking _ _, asking_taking _ _⟩

theorem witness_LookComputation : (0 : Int) ≤ 65536 ∧ (65536 : Int) ≤ 65536 ∧ (4095 : Nat) ≤ 4095 := by decide

/-- A table of zeros whose entries 0 to `n - 1` are written. -/
def zeros (n : Nat) : List (Nat × Int) := (List.range' 0 n).map fun k => (k, 0)

theorem lookup_zero (n : Nat) : ∀ a i : Nat, a ≤ i → i < a + n →
    ((List.range' a n).map fun k => (k, (0 : Int))).lookup i = some 0 := by
  induction n with
  | zero => intro a i h h'; omega
  | succ n ih =>
    intro a i h h'
    rw [List.range'_succ, List.map_cons, List.lookup_cons]
    split
    · rfl
    · rename_i e
      have : i ≠ a := by simpa using e
      exact ih (a + 1) i (by omega) (by omega)

/-- A bank of lattice size 17, every entry written, 0. -/
def zeroBank : Bank := ⟨some 17, #v[zeros 257, zeros 257, zeros 257, zeros 12, zeros 14739]⟩

theorem witness_LookComputation_bank : zeroBank.size = some 17 ∧
    ∀ (t : Fin 5) (i : Nat), i < (if t < 3 then 257 else if t = 3 then 12 else 3 * 17 ^ 3) →
      (zeroBank.tables[t]).lookup i = some 0 := by
  refine ⟨rfl, fun t i h => ?_⟩
  have written (n : Nat) (h : i < n) : (zeros n).lookup i = some 0 := lookup_zero n 0 i (Nat.zero_le i) (by omega)
  match t with
  | 0 | 1 | 2 => exact written 257 (by simpa using h)
  | 3 => exact written 12 (by simpa using h)
  | 4 => exact written 14739 (by simpa using h)

/-- The ends of a line and its middle. -/
theorem witness_LookComputation_line :
    let codes : List Rgb := [⟨100, 0, 0⟩, ⟨4000, 0, 0⟩, ⟨120, 0, 0⟩]
    codes[1]? = some ⟨4000, 0, 0⟩ ∧ 2 + 1 = codes.length ∧ codes[2 - 1]? = some ⟨4000, 0, 0⟩ ∧
    codes[1 - 1]? = some ⟨100, 0, 0⟩ ∧ codes[1 + 1]? = some ⟨120, 0, 0⟩ ∧ (5, 1) ∈ [(5, 0), (5, 1), (5, 2)] ∧
    (4, 1) ∉ [(5, 0), (5, 1), (5, 2)] := by decide

theorem witness_ReviewOpen : (asking plain ⟨0x30, 5, bytes [1]⟩).Taking 0 ⟨0x30, 5, bytes [1]⟩ ∧ parseOpen (bytes [1]) = none ∧
    (parseOpen (bytes [0, 3, 1, 3, 2, 0, 16, 0, 16, 0, 1, 0, 0, 0, 120, 0, 1, 0, 10, 1])).map (fun a => (a.num, a.stall)) =
      some (120, 10) := by
  refine ⟨asking_taking _ _, ?_⟩
  decide +kernel

theorem witness_ReviewClose : (asking (running .paced id) ⟨0x31, 5, [byteOf 0]⟩).Taking 0 ⟨0x31, 5, [byteOf 0]⟩ ∧
    ((running .paced id).stream 0).state ≠ .closed ∧ (live.stream 0).state = .closed ∧
    ((running .paced fun x => { x with currentClip := some 0 }).stream 0).currentClip ≠ none ∧
    (∀ a : Byte, bytes [2] = [a] → 1 < a.toNat) := by
  refine ⟨asking_taking _ _, by decide +kernel, by decide +kernel, by decide +kernel, fun a h => ?_⟩
  obtain rfl : byteOf 2 = a := by simpa [bytes] using h
  decide

/-- An open stream with a repeat run of frame 9, whose current clip expects one frame and has seen none. -/
theorem witness_ReviewClose_clip :
    let c := { clipOf 0 .complete [] with expectedFrames := some 1, currentStreams := #v[true, false] }
    let s := (queued.setClip 0 (some c)).modStream 0 fun _ =>
      { Stream.closed (params .paced) with state := .running, currentClip := some 0, run := ⟨2, 1, 9⟩ }
    (asking s ⟨0x31, 5, [byteOf 0]⟩).Taking 0 ⟨0x31, 5, [byteOf 0]⟩ ∧ (s.stream 0).state ≠ .closed ∧
    s.spotter.log.length ≤ 126 ∧ (s.stream 0).run.length ≠ 0 ∧ (s.stream 0).run.clip ≠ 0 ∧
    (s.stream 0).currentClip = some 0 ∧ s.clip? 0 = some c ∧ c.expectedFrames.any (fun n => n.toNat != c.framesSeen) = true := by
  refine ⟨asking_taking _ _, ?_⟩
  decide +kernel

/-- Stream 0 RUNNING with one packet waiting, over a clip 0 whose record is VERIFIED or not. -/
def arriving (start : Bool) (x : DestState) : State :=
  (copying (jobOf .active [diskA] [0]) (clipOf 0 .complete [record diskA x 1 0])).modStream 0 fun _ =>
    { Stream.closed (params .paced) with
      state := .waiting, queue := [⟨3, 0, 500, 0, 16, start, false, false, [[]], false⟩] }

theorem witness_RasterTaken : live.running = true ∧ (live.stream 0).queue = [] ∧
    ((arriving false .verified).stream 0).state = .waiting ∧ ((arriving false .verified).stream 0).params.mode = .paced ∧
    ((arriving false .verified).stream 0).frame = none ∧
    ((arriving false .verified).stream 0).queue = ⟨3, 0, 500, 0, 16, false, false, false, [[]], false⟩ :: [] ∧
    ((arriving true .pending).stream 0).queue = ⟨3, 0, 500, 0, 16, true, false, false, [[]], false⟩ :: [] ∧
    (arriving true .pending).clip? 0 = some (clipOf 0 .complete [record diskA .pending 1 0]) ∧
    (arriving true .verified).clip? 0 = some (clipOf 0 .complete [record diskA .verified 1 0]) := by decide +kernel

/-- A secured frame to start, with another clip current, a FRAME point armed for it, or no point at all. -/
theorem witness_RasterStart :
    let s := arriving true .verified
    let a := s.modStream 0 fun x => { x with currentClip := some 1, lastFrame := some 9, backState := .ready }
    let h : HoldPoint := ⟨0, .frame 0 500, false, true⟩
    let p := { s with spotter := { s.spotter with holds := #v[some h, none, none, none] } }
    s.running = true ∧ (s.stream 0).state = .waiting ∧ (s.stream 0).params.mode = .paced ∧ (s.stream 0).frame = none ∧
    (s.stream 0).queue = ⟨3, 0, 500, 0, 16, true, false, false, [[]], false⟩ :: [] ∧
    s.clip? 0 = some (clipOf 0 .complete [record diskA .verified 1 0]) ∧ s.spotter.log.length ≤ 125 ∧
    (a.stream 0).currentClip = some 1 ∧ (a.stream 0).backState = .ready ∧ some h ∈ p.spotter.holds.toList ∧ h.stream = 0 ∧
    h.armed = true ∧ h.condition = .frame 0 500 ∧ s.spotter.holds.toList = [none, none, none, none] := by decide +kernel

/-- The secured frame starts: RUNNING, with the clip current and one more frame processed. -/
theorem test_frame_starts :
    let t := after (.rasterTaken 0) (arriving true .verified)
    (t.stream 0).state = .running ∧ (t.stream 0).currentClip = some 0 ∧ (t.stream 0).processed = 1 ∧
      (t.stream 0).frame.map (·.number) = some 500 := by decide +kernel

/-- A stray, a frame refused, lines repeated, too wide and beyond the height, the last line, and a gap. -/
theorem witness_RasterLines :
    let s (q : RasterPacket) := filling .streaming [q] id
    (s (packetOf 9 4 16 false)).running = true ∧ ((s (packetOf 9 4 16 false)).stream 0).state = .running ∧
    ((s (packetOf 9 4 16 false)).stream 0).presenting = [] ∧ ((s (packetOf 9 4 16 false)).port 3).queueOf (.raster 0) = [] ∧
    ((s (packetOf 8 4 16 false)).stream 0).queue = packetOf 8 4 16 false :: [] ∧
    ((s (packetOf 9 4 16 false)).stream 0).frame = some ⟨0, 9, false, 4, false, false, false, false⟩ ∧
    ((filling .paced [] fun f => { f with refused := true }).stream 0).frame.map (·.refused) = some true ∧
    (packetOf 8 4 16 false).frame ≠ 9 ∧ (packetOf 9 3 16 false).firstLine < 4 ∧
    (packetOf 9 4 17 false).width ≠ (params .streaming).width ∧
    (params .streaming).height < (packetOf 9 16 16 false).firstLine + (packetOf 9 16 16 false).lines.length ∧
    (packetOf 9 15 16 false).firstLine + (packetOf 9 15 16 false).lines.length ≤ (params .streaming).height ∧
    4 < (packetOf 9 15 16 false).firstLine ∧ (s (packetOf 9 4 16 false)).isUp 3 = true ∧
    (s (packetOf 9 4 16 false)).spotter.log.length < 128 ∧ ((filling .paced [] id).stream 0).back.isSome = true := by
  decide +kernel

/-- No hold point is set while stream 0 fills a frame. -/
theorem unarmed (h : HoldPoint) (hm : some h ∈ (filling .paced [] id).spotter.holds.toList) : h.stream = 0 → h.armed = false := by
  have : (filling .paced [] id).spotter.holds.toList = List.replicate 4 none := by decide +kernel
  simp [this] at hm

/-- A frame with lines missing, on a stream without origin; one with the hold pending; and a stream without hold points. -/
theorem witness_FrameEnds :
    let s := filling .paced [] id
    let p := s.modStream 0 fun x => { x with holdPending := true, origin := some 5 }
    (∀ h : HoldPoint, some h ∈ s.spotter.holds.toList → h.stream = 0 → h.armed = false) ∧
    (s.stream 0).frame = some ⟨0, 9, false, 4, false, false, false, false⟩ ∧ 4 < (s.stream 0).params.height ∧
    (s.stream 0).params.mode = .paced ∧ (s.stream 0).back = some ⟨0, 9, false, List.replicate 4 []⟩ ∧ (s.stream 0).origin = none ∧
    (s.stream 0).presenting = [] ∧ (s.port 3).queueOf (.raster 0) = [] ∧ s.isUp 3 = true ∧ s.spotter.log.length < 128 ∧
    (s.stream 0).holdPending = false ∧ (s.stream 0).state ≠ .held ∧ (p.stream 0).holdPending = true ∧
    (p.stream 0).origin = some 5 := ⟨unarmed, by decide +kernel⟩

/-- A FRAME_START while that frame is in progress. -/
theorem witness_FrameEnds_start :
    let s := filling .paced [packetOf 10 0 16 true] id
    s.running = true ∧ (s.stream 0).state = .running ∧ (s.stream 0).params.mode ≠ .streaming ∧
    (s.stream 0).queue = packetOf 10 0 16 true :: [] ∧
    (s.stream 0).frame = some ⟨0, 9, false, 4, false, false, false, false⟩ ∧ (packetOf 10 0 16 true).frameStart = true := by
  decide +kernel

/-- A table of 64 candidates on line 0. -/
def fullTable : List Candidate := (List.range 64).map fun i => ⟨0, 4095 - 63 + i, 1, 8, false, false⟩

/-- The spotter's stream 0 after some detections, with a table. -/
def spotting (detections : Nat) (cs : List Candidate) : State :=
  (filling .paced [] id).modSpot 0 fun x => { x with measures := { x.measures with detections := detections }, candidates := cs }

/-- Detections 256, 257 and 258 of a frame; a table that is full, at the greatest column; a known and an unknown site. -/
theorem witness_SpotterLines :
    let x := (spotting 255 fullTable).spot 0
    x.measures.detections < 256 ∧ ((spotting 256 []).spot 0).measures.detections = 256 ∧
    256 < ((spotting 257 []).spot 0).measures.detections ∧ x.candidates.Pairwise (fun a b => a.key < b.key) ∧
    (∀ c ∈ x.candidates, c.column < 4096) ∧ x.candidates.length = 64 ∧ (spotting 255 fullTable).spotter.log.length < 128 ∧
    (∀ c ∈ x.candidates, c.line = 0 ∧ c.column = 4095 →
      (⟨0, 4095, 2, 9, false, true⟩ : Candidate) = { c with
        count := if c.lastFrame = (9 : Word32) - 1 then min (c.count + 1) 255 else 1, lastFrame := 9, seen := true }) ∧
    (∀ c ∈ x.candidates, ¬ (c.line = 1 ∧ c.column = 0)) ∧
    ((spotting 255 fullTable).stream 0).frame = some ⟨0, 9, false, 4, false, false, false, false⟩ := by decide +kernel

/-- Spotter marks clear, and each of the three that leave a frame unjudged. -/
theorem witness_SpotterFrameEnd :
    let f : FrameInProgress := ⟨0, 9, false, 16, false, false, false, false⟩
    f.gap = false ∧ f.geometry = false ∧ ((spotting 0 []).spot 0).measures.unjudged = false ∧ { f with gap := true }.gap = true ∧
    { f with geometry := true }.geometry = true ∧ (spotting 0 []).spotter.log.length ≤ 124 ∧
    (((spotting 0 []).modSpot 0 fun x => { x with measures := { x.measures with unjudged := true } }).spot 0).measures.unjudged =
      true := by decide +kernel

theorem witness_PacingNeverDrifts :
    let x := (running .paced fun y => { y with origin := some 0 }).stream 0
    x.origin = some 0 ∧ x.tick = 0 ∧ 0 < x.params.rateNum := by decide +kernel

theorem witness_StreamTimers :
    let f : GradedFrame := ⟨0, 500, false, []⟩
    let x := running .paced fun y => { y with origin := some 0, front := some f, stallTimer := some 9 }
    let r := running .streaming fun y => { y with regrading := true, presenting := [] }
    let b := x.modStream 0 fun y => { y with presenting := [⟨.raster, 2, 0, 0, [], .raster 0⟩] }
    x.running = true ∧ (live.stream 0).origin = none ∧ ((x.stream 0).nextTick).origin = some 0 ∧ (x.stream 0).presenting = [] ∧
    (x.port 3).queueOf (.raster 0) = [] ∧ (x.stream 0).backState ≠ .ready ∧ (x.stream 0).front = some f ∧
    (b.stream 0).presenting ≠ [] ∧ ((x.modStream 0 fun y => { y with backState := .ready }).stream 0).backState = .ready ∧
    (live.stream 0).regrading = false ∧ (r.stream 0).regrading = true ∧ (r.stream 0).presenting = [] := by decide +kernel

theorem witness_QcConfig :
    (asking live ⟨0x38, 5, bytes [1, 1, 15, 255, 3, 232, 255, 1, 15, 255, 255, 15, 255, 255]⟩).Taking 0
      ⟨0x38, 5, bytes [1, 1, 15, 255, 3, 232, 255, 1, 15, 255, 255, 15, 255, 255]⟩ := asking_taking _ _

theorem witness_HoldRequests :
    (asking live ⟨0x48, 5, bytes [3, 1, 0, 1, 255, 0, 0, 0, 0, 0, 1]⟩).Taking 0
      ⟨0x48, 5, bytes [3, 1, 0, 1, 255, 0, 0, 0, 0, 0, 1]⟩ ∧
    (asking live ⟨0x49, 5, [3]⟩).Taking 0 ⟨0x49, 5, [3]⟩ ∧ (asking live ⟨0x4A, 5, [1]⟩).Taking 0 ⟨0x4A, 5, [1]⟩ :=
  ⟨asking_taking _ _, asking_taking _ _, asking_taking _ _⟩

/-- HELD streams of both modes, one in a regrade, one with a finalisation waiting, one with its back buffer READY. -/
theorem witness_HoldRequests_release :
    let s := holding .paced false
    let r := s.modStream 0 fun x => { x with backState := .ready, back := some ⟨0, 9, false, []⟩, finaliseWaiting := true }
    (s.stream 0).state = .held ∧ ((holding .streaming true).stream 0).regrading = true ∧ (r.stream 0).backState = .ready ∧
    (r.stream 0).regrading = false ∧ (r.stream 0).finaliseWaiting = true ∧ (r.stream 0).currentClip = some 0 ∧
    (r.stream 0).presenting = [] ∧ (r.port 3).queueOf (.raster 0) = [] ∧ r.isUp 3 = true ∧ r.running = true ∧
    (sendingRaster.stream 0).presenting ≠ [] := by decide +kernel

/-- Stream 0 HELD in STREAMING mode with a packet of a regrade in the send queue of L3 and the raster buffer of the last
taken packet still occupied; `gone` tells whether that packet's own outgoing packet has gone. -/
def heldInHand (gone : Bool) : State :=
  ((holding .streaming true).modStream 0 fun x => { x with inHand := some ⟨3, gone⟩ }).modPort 3 fun x =>
    { x with queues := x.queues.set 2 [outgoingRaster 0 (params .streaming) 0 9 0 ⟨true, true, false, false⟩ []] }

theorem witness_HoldRequests_buffers :
    ((heldInHand true).stream 0).state = .held ∧ ((heldInHand true).stream 0).params.mode = .streaming ∧
    ((heldInHand true).port 3).queueOf (.raster 0) ≠ [] ∧ ((heldInHand true).stream 0).inHand = some ⟨3, true⟩ ∧
    ((heldInHand true).stream 0).params.decoder.port = 3 ∧ ((heldInHand true).port 3).link = .up ∧
    ((heldInHand false).stream 0).inHand = some ⟨3, false⟩ ∧ ((holding .streaming true).stream 0).inHand = none := by
  decide +kernel

/-- A release frees the buffer of a packet that has gone, with its credit, though a packet of a regrade waits (R132, R168);
a packet that has not gone keeps its buffer. -/
theorem test_release_in_hand :
    (((heldInHand true).releaseHold 0).port 3).receive[2].total = ((heldInHand true).port 3).receive[2].total + 1 ∧
    (((heldInHand true).releaseHold 0).stream 0).inHand = none ∧
    (((heldInHand false).releaseHold 0).port 3).receive[2].total = ((heldInHand false).port 3).receive[2].total ∧
    (((heldInHand false).releaseHold 0).stream 0).inHand = some ⟨3, false⟩ := by decide +kernel

/-- A packet that goes while its stream is HELD is noted and frees nothing (R166). -/
theorem test_held_output_gone :
    let s := (heldInHand false).modPort 3 fun x => { x with queues := x.queues.set 2 [] }
    ((s.outputGone 0).stream 0).inHand = some ⟨3, true⟩ ∧ (s.outputGone 0).link = s.link := by decide +kernel

theorem witness_DefectMapRequests :
    (asking live ⟨0x39, 5, bytes [15, 8, 255, 15, 255]⟩).Taking 0 ⟨0x39, 5, bytes [15, 8, 255, 15, 255]⟩ ∧
    (asking live ⟨0x3A, 5, bytes [15, 8, 255, 15, 255]⟩).Taking 0 ⟨0x3A, 5, bytes [15, 8, 255, 15, 255]⟩ ∧
    (asking live ⟨0x3B, 5, bytes [1, 8, 255, 15, 255]⟩).Taking 0 ⟨0x3B, 5, bytes [1, 8, 255, 15, 255]⟩ :=
  ⟨asking_taking _ _, asking_taking _ _, asking_taking _ _⟩

theorem witness_FaultTakeAndClear : (asking (logged 128) ⟨0x3E, 5, bytes [128, 1]⟩).Taking 0 ⟨0x3E, 5, bytes [128, 1]⟩ ∧
    (asking queued ⟨0x40, 5, bytes [1, 255]⟩).Taking 0 ⟨0x40, 5, bytes [1, 255]⟩ := ⟨asking_taking _ _, asking_taking _ _⟩

/-! #### Supply and restarts -/

theorem witness_SupplyMonitor :
    let e := { live with supply := { live.supply with warnEntry := some 0, crit := some 0 } }
    let r := { live with supply := { live.supply with state := .recovering, resumeTimer := some 3000 } }
    live.running = true ∧ live.supply.warnEntry = none ∧ live.supply.warnClear = none ∧ live.supply.resumeTimer = none ∧
    e.running = true ∧ e.supply.warnEntry = some 0 ∧
    ({ live with supply := { live.supply with state := .warn, warnClear := some 0 } } : State).supply.warnClear = some 0 ∧
    r.supply.resumeTimer = some 3000 ∧ r.supply.state = .recovering := by decide +kernel

theorem witness_HoldAndPowerOn :
    let e := { live with supply := { live.supply with crit := some 0 } }
    live.running = true ∧ live.supply.crit = none ∧ e.running = true ∧ e.supply.crit = some 0 ∧
    (heldPart none).supply.power = .held .warn none ∧ (heldPart (some 5)).supply.power = .held .warn (some 5) ∧
    ({ live with supply := { live.supply with rail := 3000 } } : State).supply.rail ≤ 3000 := by decide +kernel

theorem witness_RestartKeeps :
    let c := clipOf 0 .copying [record diskA .pending 0 0, record diskB .inProgress 2 1, record card .verified 3 0]
    let s := (copying (jobOf .active [diskA, diskB] [0]) c).setEndpointState diskB .released
    let r := { s with control := { s.control with softRestart := .ready } }
    r.running = true ∧ r.control.softRestart = .ready ∧ r.clip? 0 = some c ∧
    c.dests[1]? = some (record diskB .inProgress 2 1) ∧ r.endpoint? diskB = some ⟨diskB, .dest, 2000, .released⟩ ∧
    r.endpoint? diskA = some ⟨diskA, .dest, 2000, .online⟩ ∧ (r.job? 0).map (·.state) = some .active ∧
    (heldPart (some 5)).supply.power = .held .warn (some 5) ∧ (heldPart (some 5)).spotter.log.length < 128 := by decide +kernel

theorem witness_HoldAndPowerOn_power : 3000 < ({ live with supply := { live.supply with rail := 3001 } } : State).supply.rail := by
  decide +kernel

end Sys2Proof.Tests
end

section
/-!
The requests of the fault spotter that set it up: QC CONFIG and the three requests that change the defect map (R144, R155
to R157). First what the shared operations do, then one equation for each request's rule, then the statements.
-/

namespace Sys2Proof.Machine

/-! ### Requests and their arguments -/

/-- A row that is served under the taken request's number answers what its rule gives (R21 to R23). -/
theorem exec_serve_taking {s : State} {p : Port} {r : Request} {n : Nat} {c : Instr} {rule : State → List Byte → Served}
    (hc : exec c s = .next (s.serve n rule)) (h : s.Taking p r) (hn : r.number = n) :
    exec c s = .next ((s.takeRequest p).answer p r (rule (s.takeRequest p) r.args)) := by
  rw [hc, ← hn, State.serve_taking h]

@[simp] theorem State.answer_refuse (s t : State) (p : Port) (r : Request) (code : ReplyCode) :
    s.answer p r (t.refuse code) = t.answered p r code [] := rfl

@[simp] theorem State.answer_done (s t : State) (p : Port) (r : Request) (result : List Byte) :
    s.answer p r (t.done result) = t.answered p r .done result := rfl

theorem State.answer_ite (s : State) (p : Port) (r : Request) (c : Prop) [Decidable c] (x y : Served) :
    s.answer p r (if c then x else y) = if c then s.answer p r x else s.answer p r y := apply_ite _ _ _ _

theorem be2_eq (a b : Byte) : be2 a b = a.toNat * 256 + b.toNat := by simp [be2, beNat]

theorem parseSite_bytes (a l1 l0 c1 c0 : Byte) :
    parseSite [a, l1, l0, c1, c0] = some (a.toNat, l1.toNat * 256 + l0.toNat, c1.toNat * 256 + c0.toNat) := by
  simp [parseSite, be2_eq]

/-- Only five bytes are site arguments (R155). -/
theorem parseSite_eq_none {args : List Byte} (h : ∀ a b c d e, args ≠ [a, b, c, d, e]) : parseSite args = none := by
  unfold parseSite
  split
  · exact absurd rfl (h _ _ _ _ _)
  · rfl

/-- Only fourteen bytes are arguments of QC CONFIG (R144). -/
theorem parseQc_eq_none {args : List Byte}
    (h : ∀ st ct l1 l0 p1 p0 kc bt t1 t0 kb h1 h0 kh, args ≠ [st, ct, l1, l0, p1, p0, kc, bt, t1, t0, kb, h1, h0, kh]) :
    parseQc args = none := by
  unfold parseQc
  split
  · exact absurd rfl (h _ _ _ _ _ _ _ _ _ _ _ _ _ _)
  · rfl

/-! ### QC CONFIG (R144) -/

/-- The ranges of the arguments of QC CONFIG, in their order (R144). -/
def QcArgs.InRange (a : QcArgs) : Prop :=
  a.stream < 2 ∧ a.clipTap ≤ 1 ∧ a.clipLevel ≤ 4095 ∧ (1 ≤ a.clipFraction ∧ a.clipFraction ≤ 1000) ∧ 1 ≤ a.clipFrames ∧
    a.blackTap ≤ 1 ∧ a.blackLevel ≤ 4095 ∧ 1 ≤ a.blackFrames ∧ a.hotThreshold ≤ 4095 ∧ 1 ≤ a.hotFrames

/-- The configuration that arguments in range spell (R143, R144). -/
def QcArgs.settings (a : QcArgs) : QcConfig where
  clipTap := if a.clipTap = 0 then .a else .b
  clipLevel := a.clipLevel
  clipFraction := a.clipFraction
  clipFrames := a.clipFrames
  blackTap := if a.blackTap = 0 then .a else .b
  blackLevel := a.blackLevel
  blackFrames := a.blackFrames
  hotThreshold := a.hotThreshold
  hotFrames := a.hotFrames

/-- The arguments that fourteen bytes spell (R144). -/
def QcArgs.ofBytes (st ct l1 l0 p1 p0 kc bt t1 t0 kb h1 h0 kh : Byte) : QcArgs where
  stream := st.toNat
  clipTap := ct.toNat
  clipLevel := l1.toNat * 256 + l0.toNat
  clipFraction := p1.toNat * 256 + p0.toNat
  clipFrames := kc.toNat
  blackTap := bt.toNat
  blackLevel := t1.toNat * 256 + t0.toNat
  blackFrames := kb.toNat
  hotThreshold := h1.toNat * 256 + h0.toNat
  hotFrames := kh.toNat

theorem parseQc_bytes (st ct l1 l0 p1 p0 kc bt t1 t0 kb h1 h0 kh : Byte) :
    parseQc [st, ct, l1, l0, p1, p0, kc, bt, t1, t0, kb, h1, h0, kh] =
      some (QcArgs.ofBytes st ct l1 l0 p1 p0 kc bt t1 t0 kb h1 h0 kh) := by
  simp [parseQc, QcArgs.ofBytes, be2_eq]

theorem QcArgs.settings_ofBytes (st ct l1 l0 p1 p0 kc bt t1 t0 kb h1 h0 kh : Byte) :
    (QcArgs.ofBytes st ct l1 l0 p1 p0 kc bt t1 t0 kb h1 h0 kh).settings =
      ⟨if ct = 0 then .a else .b, l1.toNat * 256 + l0.toNat, p1.toNat * 256 + p0.toNat, kc.toNat,
        if bt = 0 then .a else .b, t1.toNat * 256 + t0.toNat, kb.toNat, h1.toNat * 256 + h0.toNat, kh.toNat⟩ := by
  have htap (b : Byte) : (if b.toNat = 0 then Tap.a else .b) = if b = 0 then .a else .b :=
    if_congr (by simp [BitVec.toNat_eq]) rfl rfl
  rw [← htap ct, ← htap bt]
  rfl

theorem Tap.ofCode_of_le {n : Nat} (h : n ≤ 1) : Tap.ofCode n = some (if n = 0 then .a else .b) := by
  obtain rfl | rfl : n = 0 ∨ n = 1 := by omega
  · rfl
  · rfl

theorem Tap.ofCode_of_gt {n : Nat} (h : 1 < n) : Tap.ofCode n = none := by
  match n, h with
  | _ + 2, _ => rfl

theorem QcArgs.config_of_inRange {a : QcArgs} (h : a.InRange) : a.config = some (⟨a.stream, h.1⟩, a.settings) := by
  obtain ⟨hst, hct, hl, ⟨hp1, hp2⟩, hkc, hbt, ht, hkb, hh, hkh⟩ := h
  simp [QcArgs.config, QcArgs.settings, streamOf, Tap.ofCode_of_le, *]

theorem QcArgs.config_of_not_inRange {a : QcArgs} (h : ¬ a.InRange) : a.config = none := by
  by_cases hst : a.stream < 2
  case neg => simp [QcArgs.config, streamOf, hst]
  by_cases hct : a.clipTap ≤ 1
  case neg => simp [QcArgs.config, Tap.ofCode_of_gt (not_le.mp hct)]
  by_cases hbt : a.blackTap ≤ 1
  case neg => simp [QcArgs.config, Tap.ofCode_of_gt (not_le.mp hbt)]
  have hrest : ¬ (a.clipLevel ≤ 4095 ∧ 1 ≤ a.clipFraction ∧ a.clipFraction ≤ 1000 ∧ 1 ≤ a.clipFrames ∧
      a.blackLevel ≤ 4095 ∧ 1 ≤ a.blackFrames ∧ a.hotThreshold ≤ 4095 ∧ 1 ≤ a.hotFrames) := by
    intro ⟨hl, hp1, hp2, hkc, ht, hkb, hh, hkh⟩
    exact h ⟨hst, hct, hl, ⟨hp1, hp2⟩, hkc, hbt, ht, hkb, hh, hkh⟩
  simp only [QcArgs.config, streamOf, hst, Tap.ofCode_of_le, hct, hbt, dite_true]
  rw [if_neg (by simpa [and_assoc] using hrest)]

theorem Stream.measuring_eq (x : Stream) : x.measuring = x.frame.any fun f => !f.refused := by
  unfold Stream.measuring
  split <;> simp [*]

/-- What QC CONFIG leaves of a stream's spotter: measures but for the unjudged mark, and candidates, stay (R144). -/
theorem SpotterStream.configure_eq (x : SpotterStream) (c : QcConfig) (measuring : Bool) :
    x.configure c measuring =
      { x with
        config := c
        clipRed := ⟨0, false⟩
        clipGreen := ⟨0, false⟩
        clipBlue := ⟨0, false⟩
        black := ⟨0, false⟩
        measures := { x.measures with unjudged := x.measures.unjudged || measuring } } := by
  cases measuring <;> simp [SpotterStream.configure, SpotterStream.resetFilters, Filter.zero]

/-- QC CONFIG with every value in range (R144). -/
theorem State.qcConfig_of_inRange (s : State) {args : List Byte} {a : QcArgs} (ha : parseQc args = some a) (h : a.InRange) :
    s.qcConfig args =
      (s.modSpot ⟨a.stream, h.1⟩ fun x => x.configure a.settings (s.stream ⟨a.stream, h.1⟩).measuring).done [] := by
  simp [State.qcConfig, withArgs, ha, QcArgs.config_of_inRange h]

/-- QC CONFIG with a value out of range (R144). -/
theorem State.qcConfig_of_not_inRange (s : State) {args : List Byte} {a : QcArgs} (ha : parseQc args = some a)
    (h : ¬ a.InRange) : s.qcConfig args = s.refuse .badArgument := by
  simp [State.qcConfig, withArgs, ha, QcArgs.config_of_not_inRange h]

theorem State.qcConfig_of_unparsed (s : State) {args : List Byte} (h : parseQc args = none) : s.qcConfig args = none := by
  simp [State.qcConfig, withArgs, h]

/-! ### The defect map (R155 to R157) -/

theorem State.currentTag_eq (s : State) (st : StreamId) :
    s.currentTag st = ((s.stream st).currentClip.bind s.clip?).map (·.cameraTag) := by
  unfold State.currentTag
  split <;> simp [*]

@[simp] theorem State.currentTag_modSpot (s : State) (su st : StreamId) (f : SpotterStream → SpotterStream) :
    (s.modSpot su f).currentTag st = s.currentTag st := rfl

@[simp] theorem State.modSpot_self (s : State) (st : StreamId) : (s.modSpot st fun x => x) = s := by
  simp [State.modSpot, State.spot]

theorem State.spot_modSpot_ne (s : State) {st su : StreamId} (f : SpotterStream → SpotterStream) (h : st ≠ su) :
    (s.modSpot st f).spot su = s.spot su := by
  have : st.val ≠ su.val := fun e => h (Fin.ext e)
  simp [State.spot, State.modSpot, this]

/-- Changing what the spotter holds for stream 0, then for stream 1, changes both from what they were. -/
theorem State.modSpot_both (s : State) (f : StreamId → SpotterStream → SpotterStream) :
    (s.modSpot 0 (f 0)).modSpot 1 (f 1) =
      { s with spotter := { s.spotter with streams := Vector.ofFn fun st => f st (s.spot st) } } := by
  have hset : (s.spotter.streams.set 0 (f 0 (s.spot 0))).set 1 (f 1 (s.spot 1)) =
      Vector.ofFn fun st => f st (s.spot st) := by
    ext1 i hi
    obtain rfl | rfl : i = 0 ∨ i = 1 := by omega
    · simp
    · simp
  have hspot : (s.modSpot 0 (f 0)).spot 1 = s.spot 1 := s.spot_modSpot_ne _ (by decide)
  rw [State.modSpot, hspot, ← hset]
  rfl

/-- The candidates left of a stream of this current tag when a site goes into the map (R155). -/
def candidatesLeft (d : DefectSite) (tag : Option Nat) (cs : List Candidate) : List Candidate :=
  if tag = some d.tag then dropCandidate d.line d.column cs else cs

theorem State.dropCandidate_if_tagged (s : State) (d : DefectSite) (st : StreamId) :
    (if s.currentTag st = some d.tag then
      s.modSpot st fun x => { x with candidates := dropCandidate d.line d.column x.candidates }
    else s) = s.modSpot st fun x => { x with candidates := candidatesLeft d (s.currentTag st) x.candidates } := by
  unfold candidatesLeft
  split
  · rfl
  · simp

/-- A site that goes into the map changes the map and the candidate tables, and nothing else (R155). -/
theorem State.mapSite_eq (s : State) (d : DefectSite) :
    s.mapSite d =
      { s with spotter :=
        { s.spotter with
          defectMap := insertSite d s.spotter.defectMap
          streams := Vector.ofFn fun st : StreamId =>
            { s.spot st with candidates := candidatesLeft d (s.currentTag st) (s.spot st).candidates } } } := by
  simp only [State.mapSite, allStreams, List.foldl_cons, List.foldl_nil, State.dropCandidate_if_tagged,
    State.currentTag_modSpot]
  exact State.modSpot_both _ fun st x => { x with candidates := candidatesLeft d (s.currentTag st) x.candidates }

@[simp] theorem State.mapSite_mapCount (s : State) (d : DefectSite) :
    (s.mapSite d).mapCount = beBytes 2 (insertSite d s.spotter.defectMap).length := by
  rw [State.mapSite_eq]; rfl

/-- The ranges of a site's tag, line and column (R154). -/
theorem siteOf_eq (d : DefectSite) :
    siteOf d.tag d.line d.column = if 15 < d.tag ∨ 2303 < d.line ∨ 4095 < d.column then none else some d := by
  unfold siteOf
  split
  · rw [if_neg (by omega)]
  · rw [if_pos (by omega)]

/-- DEFECT ADD of a site: range, presence and room are checked in this order (R155). -/
theorem State.defectAdd_site (s : State) {args : List Byte} {d : DefectSite}
    (h : parseSite args = some (d.tag, d.line, d.column)) :
    s.defectAdd args =
      if 15 < d.tag ∨ 2303 < d.line ∨ 4095 < d.column then s.refuse .badArgument
      else if d ∈ s.spotter.defectMap then s.done (1 :: beBytes 2 s.spotter.defectMap.length)
      else if 1024 ≤ s.spotter.defectMap.length then s.refuse .full
      else (s.mapSite d).done (0 :: beBytes 2 (insertSite d s.spotter.defectMap).length) := by
  by_cases hr : 15 < d.tag ∨ 2303 < d.line ∨ 4095 < d.column
  · simp only [State.defectAdd, withArgs, h, Option.bind_some, siteOf_eq, hr, if_true]
  · simp only [State.defectAdd, withArgs, h, Option.bind_some, siteOf_eq, hr, if_false, State.mapSite_mapCount]
    rfl

/-- DEFECT REMOVE of a site: its range is checked before its presence (R156). -/
theorem State.defectRemove_site (s : State) {args : List Byte} {d : DefectSite}
    (h : parseSite args = some (d.tag, d.line, d.column)) :
    s.defectRemove args =
      if 15 < d.tag ∨ 2303 < d.line ∨ 4095 < d.column then s.refuse .badArgument
      else if d ∉ s.spotter.defectMap then s.refuse .notFound
      else (s.unmapSite d).done (beBytes 2 (removeSite d s.spotter.defectMap).length) := by
  by_cases hr : 15 < d.tag ∨ 2303 < d.line ∨ 4095 < d.column
  · simp only [State.defectRemove, withArgs, h, Option.bind_some, siteOf_eq, hr, if_true]
  · simp only [State.defectRemove, withArgs, h, Option.bind_some, siteOf_eq, hr, if_false, ite_not]
    rfl

theorem SpotterStream.not_hasCandidate_iff (x : SpotterStream) (line column : Nat) :
    (!x.hasCandidate line column) = true ↔ ∀ c ∈ x.candidates, ¬ (c.line = line ∧ c.column = column) := by
  simp [SpotterStream.hasCandidate]

/-- DEFECT PROMOTE of a coordinate in range: current clip, candidate and room are checked in this order (R157). -/
theorem State.defectPromote_site (s : State) {args : List Byte} {n line column : Nat}
    (h : parseSite args = some (n, line, column)) (hn : n < 2) (hl : line ≤ 2303) (hc : column ≤ 4095) :
    s.defectPromote args =
      match s.currentTag ⟨n, hn⟩ with
      | none => s.refuse .wrongState
      | some tag =>
        if ∀ c ∈ (s.spot ⟨n, hn⟩).candidates, ¬ (c.line = line ∧ c.column = column) then s.refuse .notFound
        else if 1024 ≤ s.spotter.defectMap.length then s.refuse .full
        else
          (s.mapSite ⟨tag, line, column⟩).done
            (byteOf tag :: beBytes 2 (insertSite ⟨tag, line, column⟩ s.spotter.defectMap).length) := by
  have hr : ¬ (2303 < line ∨ 4095 < column) := by omega
  simp only [State.defectPromote, withArgs, h, Option.bind_some, State.onStream, streamOf, hn, dite_true, hr, if_false,
    SpotterStream.not_hasCandidate_iff, State.mapSite_mapCount]
  rfl

/-- DEFECT PROMOTE with a value out of range (R157). -/
theorem State.defectPromote_of_not_inRange (s : State) {args : List Byte} {n line column : Nat}
    (h : parseSite args = some (n, line, column)) (hr : ¬ (n < 2 ∧ line ≤ 2303 ∧ column ≤ 4095)) :
    s.defectPromote args = s.refuse .badArgument := by
  simp only [State.defectPromote, withArgs, h, Option.bind_some, State.onStream, streamOf]
  by_cases hn : n < 2
  · have : 2303 < line ∨ 4095 < column := by omega
    simp [hn, this]
  · simp [hn]

theorem State.defectAdd_of_unparsed (s : State) {args : List Byte} (h : parseSite args = none) : s.defectAdd args = none := by
  simp [State.defectAdd, withArgs, h]

theorem State.defectRemove_of_unparsed (s : State) {args : List Byte} (h : parseSite args = none) :
    s.defectRemove args = none := by
  simp [State.defectRemove, withArgs, h]

theorem State.defectPromote_of_unparsed (s : State) {args : List Byte} (h : parseSite args = none) :
    s.defectPromote args = none := by
  simp [State.defectPromote, withArgs, h]

/-! ### The statements -/

/-- Settles O49: the arguments are in range or not, and `configure_eq` says what the configuration leaves. -/
theorem qcConfig : Obligations.QcConfig := by
  unfold Obligations.QcConfig
  intro s p r h hn u
  rw [exec_serve_taking (rule := State.qcConfig) rfl h hn]
  congr 1
  split
  case h_1 st ct l1 l0 p1 p0 kc bt t1 t0 kb h1 h0 kh hargs =>
    have ha : parseQc r.args = some (QcArgs.ofBytes st ct l1 l0 p1 p0 kc bt t1 t0 kb h1 h0 kh) :=
      hargs ▸ parseQc_bytes st ct l1 l0 p1 p0 kc bt t1 t0 kb h1 h0 kh
    dsimp only
    split
    case isTrue hr =>
      simp only [State.qcConfig_of_inRange _ ha hr, State.answer_done, SpotterStream.configure_eq, Stream.measuring_eq,
        QcArgs.settings_ofBytes]
      rfl
    case isFalse hr => rw [u.qcConfig_of_not_inRange ha hr, State.answer_refuse]
  case h_2 hargs => rw [u.qcConfig_of_unparsed (parseQc_eq_none hargs), State.answer_none]

/-- Settles O51: one equation for each of the three rules, and `mapSite_eq` for what an insertion changes. -/
theorem defectMapRequests : Obligations.DefectMapRequests := by
  unfold Obligations.DefectMapRequests
  intro s p r h u map key tagOf grown inserted
  have hinserted (d : DefectSite) : u.mapSite d = inserted d := by
    rw [State.mapSite_eq]
    simp only [State.currentTag_eq]
    rfl
  refine ⟨fun hn => ?_, fun hn => ?_, fun hn => ?_⟩
  · rw [exec_serve_taking (rule := State.defectAdd) rfl h hn]
    congr 1
    split
    case h_1 t l1 l0 c1 c0 hargs =>
      rw [u.defectAdd_site (d := ⟨_, _, _⟩) (hargs ▸ parseSite_bytes t l1 l0 c1 c0)]
      simp only [State.answer_ite, State.answer_refuse, State.answer_done, hinserted]
      rfl
    case h_2 hargs => rw [u.defectAdd_of_unparsed (parseSite_eq_none hargs), State.answer_none]
  · rw [exec_serve_taking (rule := State.defectRemove) rfl h hn]
    congr 1
    split
    case h_1 t l1 l0 c1 c0 hargs =>
      rw [u.defectRemove_site (d := ⟨_, _, _⟩) (hargs ▸ parseSite_bytes t l1 l0 c1 c0)]
      simp only [State.answer_ite, State.answer_refuse, State.answer_done]
      rfl
    case h_2 hargs => rw [u.defectRemove_of_unparsed (parseSite_eq_none hargs), State.answer_none]
  · rw [exec_serve_taking (rule := State.defectPromote) rfl h hn]
    congr 1
    split
    case h_1 a l1 l0 c1 c0 hargs =>
      have ha : parseSite r.args = some (a.toNat, l1.toNat * 256 + l0.toNat, c1.toNat * 256 + c0.toNat) :=
        hargs ▸ parseSite_bytes a l1 l0 c1 c0
      dsimp only
      split
      case isTrue hr =>
        obtain ⟨hst, hline, hcolumn⟩ := hr
        have htag : tagOf ⟨a.toNat, hst⟩ = u.currentTag ⟨a.toNat, hst⟩ := (u.currentTag_eq _).symm
        rw [u.defectPromote_site ha hst hline hcolumn, htag]
        cases u.currentTag ⟨a.toNat, hst⟩ with
        | none => rfl
        | some tag =>
          simp only [State.answer_ite, State.answer_refuse, State.answer_done, hinserted]
          rfl
      case isFalse hr => rw [u.defectPromote_of_not_inRange ha hr, State.answer_refuse]
    case h_2 hargs => rw [u.defectPromote_of_unparsed (parseSite_eq_none hargs), State.answer_none]

end Sys2Proof.Machine
end

section
/-!
What every step keeps of a port that is not UP (R1, R2). `State.quiet` says that such a port is idle. Every operation of
the engine, the review unit and the link unit has one lemma: it keeps `State.quiet`.
-/

namespace Sys2Proof.Machine

/-! ### Ports -/

/-- A port is idle unless it is UP (R1, R2). -/
def PortState.quiet (x : PortState) : Prop := x.link ≠ .up → x.idle

/-- Every port is idle unless it is UP. -/
def State.quiet (s : State) : Prop := ∀ p : Port, (s.port p).quiet

theorem State.isUp_iff (s : State) (p : Port) : s.isUp p = true ↔ (s.port p).link = .up := by simp [State.isUp]

/-- An UP port says nothing about idleness. -/
theorem PortState.quiet_of_up {x : PortState} (h : x.link = .up) : x.quiet := fun hn => absurd h hn

/-- A port whose queues, transmitter, asks and credits are those of a quiet port in the same link state is quiet. -/
theorem modPort_quiet {s : State} (p : Port) (f : PortState → PortState) (h : s.quiet)
    (hf : (s.port p).quiet → (f (s.port p)).quiet) : (s.modPort p f).quiet := by
  intro q
  by_cases hq : p = q
  · subst hq; rw [State.port_modPort]; exact hf (h p)
  · rw [State.port_modPort_ne _ _ hq]; exact h q

/-- Changing an UP port that stays UP keeps `quiet`. -/
theorem modPort_quiet_of_up {s : State} (p : Port) (f : PortState → PortState) (h : s.quiet) (hup : s.isUp p = true)
    (hf : (f (s.port p)).link = (s.port p).link) : (s.modPort p f).quiet :=
  modPort_quiet p f h fun _ => PortState.quiet_of_up (hf.trans ((s.isUp_iff p).mp hup))

theorem State.quiet.of_ports {s t : State} (h : s.quiet) (ht : t.link.ports = s.link.ports) : t.quiet := by
  intro p
  have : t.port p = s.port p := by simp only [State.port, ht]
  rw [this]; exact h p

/-- An ask that holds an entry of a port of a quiet state is on an UP port. -/
theorem State.quiet.isUp_of_live {s : State} (h : s.quiet) {p : Port} {n : EntryId} {l : LiveAsk}
    (hl : ((s.port p).asks[n]).live = some l) : s.isUp p = true := by
  by_contra hn
  obtain ⟨_, _, _, hlive, _⟩ := h p (by simpa [State.isUp] using hn)
  have := hlive n
  simp_all

theorem PortState.liveAsk_live {x : PortState} {tag : Nat} {l : LiveAsk} (h : x.liveAsk tag = some l) :
    (x.asks[(⟨tag % 64, Nat.mod_lt _ (by decide)⟩ : EntryId)]).live = some l := by
  have hlt : tag % 64 < 64 := Nat.mod_lt _ (by decide)
  simp only [PortState.liveAsk, Vector.getElem?_eq_getElem hlt] at h
  split at h
  · exact h
  · simp at h

theorem State.quiet.isUp_of_liveAsk {s : State} (h : s.quiet) {p : Port} {tag : Nat} {l : LiveAsk}
    (hl : (s.port p).liveAsk tag = some l) : s.isUp p = true :=
  h.isUp_of_live (PortState.liveAsk_live hl)

theorem State.quiet.isUp_of_waiting {s : State} (h : s.quiet) {p : Port} (hw : (s.port p).waiting ≠ []) :
    s.isUp p = true := by
  by_contra hn
  obtain ⟨_, _, _, _, hwait, _⟩ := h p (by simpa [State.isUp] using hn)
  exact hw hwait

/-! ### Asks of a port -/

theorem PortState.quiet_withdraw {x : PortState} (p : Ask → Bool) (h : x.quiet) : (x.withdraw p).quiet := by
  intro hl
  obtain ⟨hq, htx, hw, hasks, hwait, hcredit, hdue, htimer⟩ := h hl
  refine ⟨fun k => ?_, htx, hw, fun n => ?_, ?_, hcredit, hdue, htimer⟩
  · have := hq k
    simp only [Fin.getElem_fin] at this
    simp [PortState.withdraw, PortState.removePackets, this]
  · have := hasks n
    simp only [Fin.getElem_fin] at this
    simp [PortState.withdraw, AskEntry.withdraw, this]
  · simp [PortState.withdraw, hwait]

theorem PortState.quiet_setLive_none {x : PortState} (n : Nat) (h : x.quiet) : (x.setLive n none).quiet := by
  unfold PortState.setLive
  split
  · exact h
  · intro hl
    obtain ⟨hq, htx, hw, hasks, hrest⟩ := h hl
    refine ⟨hq, htx, hw, fun m => ?_, hrest⟩
    have := hasks m
    simp only [Fin.getElem_fin] at this
    simp only [Fin.getElem_fin, Vector.getElem_setIfInBounds]
    split
    · rfl
    · exact this

theorem PortState.quiet_dropBlocks {x : PortState} (tag : Nat) (h : x.quiet) : (x.dropBlocks tag).quiet := by
  intro hl
  obtain ⟨hq, hrest⟩ := h hl
  refine ⟨fun k => ?_, hrest⟩
  have := hq k
  simp only [Fin.getElem_fin] at this
  simp [PortState.dropBlocks, this]

theorem PortState.quiet_removePackets {x : PortState} (gone : Owner → Bool) (h : x.quiet) : (x.removePackets gone).quiet := by
  intro hl
  obtain ⟨hq, hrest⟩ := h hl
  refine ⟨fun k => ?_, hrest⟩
  have := hq k
  simp only [Fin.getElem_fin] at this
  simp [PortState.removePackets, this]

theorem PortState.link_setLive (x : PortState) (n : Nat) (l : Option LiveAsk) : (x.setLive n l).link = x.link := by
  unfold PortState.setLive; split <;> rfl

theorem PortState.link_place (x : PortState) (n : Nat) (a : Ask) : (x.place n a).link = x.link :=
  congrArg FixedPort.link (x.place_fixed n a)

theorem PortState.quiet_place {x : PortState} (n : Nat) (a : Ask) (h : x.quiet) : (x.place n a).quiet := by
  by_cases hup : x.link = .up
  · exact PortState.quiet_of_up ((x.link_place n a).trans hup)
  · unfold PortState.place
    split
    · exact h
    · simp only [hup, if_false]
      intro hl
      obtain ⟨hq, htx, hw, hasks, hrest⟩ := h hl
      refine ⟨hq, htx, hw, fun m => ?_, hrest⟩
      have := hasks m
      simp only [Fin.getElem_fin] at this
      simp only [Fin.getElem_fin, Vector.getElem_setIfInBounds]
      split
      · rfl
      · exact this

/-- A port without a live ask has its lowest entry free. -/
theorem PortState.freeEntry_isSome {x : PortState} (h : ∀ n : EntryId, x.asks[n].live = none) : x.freeEntry ≠ none := by
  have h0 := h 0
  simp only [Fin.getElem_fin] at h0
  intro hn
  simp only [PortState.freeEntry, List.findIdx?_eq_none_iff] at hn
  have := hn (x.asks[0]) (by simp)
  simp_all

/-! ### Operations that leave every port alone -/

section
variable {s : State}

@[simp] theorem setClip_quiet (n : Nat) (c : Option ClipRecord) : (s.setClip n c).quiet ↔ s.quiet := Iff.rfl
@[simp] theorem setJob_quiet (n : Nat) (c : Option JobRecord) : (s.setJob n c).quiet ↔ s.quiet := Iff.rfl
@[simp] theorem setChannel_quiet (c : ChannelId) (x : Channel) : (s.setChannel c x).quiet ↔ s.quiet := Iff.rfl
@[simp] theorem setIdentify_quiet (n : Nat) (x : Identify) : (s.setIdentify n x).quiet ↔ s.quiet := Iff.rfl
@[simp] theorem setEndpoints_quiet (es : List Endpoint) : (s.setEndpoints es).quiet ↔ s.quiet := Iff.rfl
@[simp] theorem setEndpointState_quiet (e : EpName) (x : EndpointState) : (s.setEndpointState e x).quiet ↔ s.quiet := Iff.rfl
@[simp] theorem modStream_quiet (st : StreamId) (f : Stream → Stream) : (s.modStream st f).quiet ↔ s.quiet := Iff.rfl
@[simp] theorem modFrame_quiet (st : StreamId) (f : FrameInProgress → FrameInProgress) : (s.modFrame st f).quiet ↔ s.quiet := Iff.rfl
@[simp] theorem restartStall_quiet (st : StreamId) : (s.restartStall st).quiet ↔ s.quiet := Iff.rfl
@[simp] theorem modSpot_quiet (st : StreamId) (f : SpotterStream → SpotterStream) : (s.modSpot st f).quiet ↔ s.quiet := Iff.rfl
@[simp] theorem modSlot_quiet (k : Fin 16) (f : Slot → Slot) : (s.modSlot k f).quiet ↔ s.quiet := Iff.rfl
@[simp] theorem setDirectory_quiet (n : Nat) (k : Option (Fin 16)) : (s.setDirectory n k).quiet ↔ s.quiet := Iff.rfl
@[simp] theorem modSupply_quiet (f : SupplyUnit → SupplyUnit) : (s.modSupply f).quiet ↔ s.quiet := Iff.rfl
@[simp] theorem takeRequest_quiet (p : Port) : (s.takeRequest p).quiet ↔ s.quiet := Iff.rfl
@[simp] theorem withPending_quiet (q : List Instr) : (s.withPending q).quiet ↔ s.quiet := Iff.rfl
@[simp] theorem setHold_quiet (k : Fin 4) (h : Option HoldPoint) : (s.setHold k h).quiet ↔ s.quiet := Iff.rfl
@[simp] theorem refreshPool_quiet : s.refreshPool.quiet ↔ s.quiet := Iff.rfl

@[simp] theorem modClip_quiet (n : Nat) (f : ClipRecord → ClipRecord) : (s.modClip n f).quiet ↔ s.quiet := by
  unfold State.modClip; split <;> rfl
@[simp] theorem modJob_quiet (n : Nat) (f : JobRecord → JobRecord) : (s.modJob n f).quiet ↔ s.quiet := by
  unfold State.modJob; split <;> rfl
@[simp] theorem modDest_quiet (n d : Nat) (f : DestRecord → DestRecord) : (s.modDest n d f).quiet ↔ s.quiet := modClip_quiet _ _
@[simp] theorem modBinding_quiet (c : ChannelId) (f : Binding → Binding) : (s.modBinding c f).quiet ↔ s.quiet := by
  unfold State.modBinding; split <;> rfl
@[simp] theorem modLane_quiet (c : ChannelId) (d : Nat) (f : Lane → Lane) : (s.modLane c d f).quiet ↔ s.quiet := modBinding_quiet _ _
@[simp] theorem advanceTo_quiet (t : Word64) : (s.advanceTo t).quiet ↔ s.quiet := by
  unfold State.advanceTo; split <;> rfl
@[simp] theorem refreshEngine_quiet : s.refreshEngine.quiet ↔ s.quiet := by
  unfold State.refreshEngine; simp only []; split <;> rfl
@[simp] theorem logFault_quiet (f : Filing) : (s.logFault f).quiet ↔ s.quiet := by
  unfold State.logFault; split <;> rfl
@[simp] theorem countFault_quiet (f : Filing) : (s.countFault f).quiet ↔ s.quiet := by
  unfold State.countFault; split <;> simp
@[simp] theorem matchHolds_quiet (st : StreamId) (p : HoldCondition → Bool) : (s.matchHolds st p).quiet ↔ s.quiet := by
  unfold State.matchHolds; split <;> rfl
/-- A filing leaves every port alone (R160). -/
@[simp] theorem file_quiet (f : Filing) : (s.file f).quiet ↔ s.quiet := by
  unfold State.file State.reportFault; split <;> simp
@[simp] theorem fileIf_quiet (b : Bool) (f : Filing) : (s.fileIf b f).quiet ↔ s.quiet := by
  unfold State.fileIf; split <;> simp
@[simp] theorem fileOpt_quiet (f : Option Filing) : (s.fileOpt f).quiet ↔ s.quiet := by
  unfold State.fileOpt; split <;> simp

end

/-! ### Folds and choices -/

/-- A fold of operations that keep a property keeps it. -/
theorem foldl_quiet {α : Type} (f : State → α → State) (hf : ∀ s x, s.quiet → (f s x).quiet) (l : List α) {s : State}
    (h : s.quiet) : (l.foldl f s).quiet := by
  induction l generalizing s with
  | nil => exact h
  | cons x xs ih => exact ih (hf s x h)

theorem repeat_quiet (f : State → State) (hf : ∀ s, s.quiet → (f s).quiet) (n : Nat) {s : State} (h : s.quiet) :
    (Nat.repeat f n s).quiet := by
  induction n with
  | zero => exact h
  | succ n ih => exact hf _ ih

/-! ### Asks and replies -/

@[simp] theorem withdrawAsks_quiet {s : State} (p : Purpose → Bool) (h : s.quiet) : (s.withdrawAsks p).quiet := by
  intro q
  have : (s.withdrawAsks p).port q = (s.port q).withdraw fun a => p a.purpose := by
    simp [State.port, State.withdrawAsks]
  rw [this]; exact PortState.quiet_withdraw _ (h q)

/-- Making an ask keeps `quiet`: on a port that is not UP an entry is free and no ask waits, so its packet is dropped (R9,
R16). -/
@[simp] theorem makeAsk_quiet {s : State} (a : Ask) (h : s.quiet) : (s.makeAsk a).1.quiet := by
  unfold State.makeAsk
  split
  · exact h
  · simp only []
    split
    · exact modPort_quiet _ _ h (PortState.quiet_place _ _)
    · rename_i hno
      by_cases hup : s.isUp a.endpoint.port = true
      · exact modPort_quiet_of_up _ _ h hup rfl
      · obtain ⟨_, _, _, hasks, hwait, _⟩ := h a.endpoint.port (by simpa [State.isUp] using hup)
        obtain ⟨n, hn⟩ := Option.ne_none_iff_exists'.mp (PortState.freeEntry_isSome hasks)
        exact absurd hn (hno n hwait)

@[simp] theorem reply_quiet {s : State} (p : Port) (tag n : Nat) (c : ReplyCode) (r : List Byte) (h : s.quiet) :
    (s.reply p tag n c r).quiet := by
  unfold State.reply
  split
  case isTrue hup => exact modPort_quiet_of_up _ _ h hup rfl
  case isFalse => exact h

/-! ### The offload engine -/

section
variable {s : State} (h : s.quiet)
include h

@[simp] theorem settleJob_quiet (n : Nat) : (s.settleJob n).quiet := by simp [State.settleJob, h]

@[simp] theorem trySettleJob_quiet (n : Nat) : (s.trySettleJob n).quiet := by
  unfold State.trySettleJob
  repeat' split
  all_goals simp [h]

@[simp] theorem settleRecord_quiet (n : Nat) : (s.settleRecord n).quiet := by simp [State.settleRecord, h]

@[simp] theorem returnToJob_quiet (n d : Nat) (e : EpName) : (s.returnToJob n d e).quiet := by
  unfold State.returnToJob
  repeat' split
  all_goals simp [h]

@[simp] theorem returnClip_quiet (n : Nat) (e : EpName) : (s.returnClip n e).quiet := by
  unfold State.returnClip
  repeat' split
  all_goals simp [h]

@[simp] theorem releaseExtents_quiet (c : ChannelId) : (s.releaseExtents c).quiet := by
  unfold State.releaseExtents
  split <;> simp [h]

@[simp] theorem takeNotes_quiet (n : Nat) (l : List EpName) : (s.takeNotes n l).quiet :=
  foldl_quiet _ (fun _ _ hs => returnClip_quiet hs _ _) _ h

@[simp] theorem settleClip_quiet (c : ChannelId) : (s.settleClip c).quiet := by
  unfold State.settleClip
  split
  · exact h
  · exact takeNotes_quiet (trySettleJob_quiet (settleRecord_quiet (by simp [h]) _) _) _ _

@[simp] theorem checkSettle_quiet (c : ChannelId) : (s.checkSettle c).quiet := by
  unfold State.checkSettle
  repeat' split
  all_goals simp [h]

@[simp] theorem unbind_quiet (c : ChannelId) : (s.unbind c).quiet := by
  unfold State.unbind
  simp only []
  repeat' split
  all_goals simp [h]

@[simp] theorem suspendRecord_quiet (n : Nat) (r : SuspendReason) :
    (s.suspendRecord n r).quiet := by simp [State.suspendRecord, h]

@[simp] theorem loseSource_quiet (n : Nat) : (s.loseSource n).quiet := by
  unfold State.loseSource
  split
  · exact h
  · refine foldl_quiet _ (fun s c hs => ?_) _ (suspendRecord_quiet h _ _)
    split <;> simp [hs]

@[simp] theorem loseDataSource_quiet (c : ChannelId) : (s.loseDataSource c).quiet := by
  unfold State.loseDataSource
  repeat' split
  all_goals simp [h]

@[simp] theorem endLane_quiet (c : ChannelId) (d : Nat) : (s.endLane c d).quiet :=
  checkSettle_quiet (releaseExtents_quiet (by simp [h]) c) c

@[simp] theorem closeLane_quiet (c : ChannelId) (d : Nat) (f : DestRecord → DestRecord) (x : Option Filing) :
    (s.closeLane c d f x).quiet := by
  unfold State.closeLane
  simp only []
  repeat' split
  all_goals simp [h]

@[simp] theorem countAttempt_quiet (c : ChannelId) (d : Nat) (k : FaultKind) (b : Bool) (f : Lane → Lane) :
    (s.countAttempt c d k b f).quiet := by
  unfold State.countAttempt
  simp only []
  repeat' split
  all_goals simp [h]

@[simp] theorem loseLane_quiet (c : ChannelId) (d : Nat) : (s.loseLane c d).quiet := by
  unfold State.loseLane
  repeat' split
  all_goals simp [h]

@[simp] theorem failBinding_quiet (c : ChannelId) (k : FaultKind) (n : Nat) : (s.failBinding c k n).quiet := by
  unfold State.failBinding
  simp only []
  repeat' split
  all_goals simp [h]

@[simp] theorem failSource_quiet (c : ChannelId) (n : Nat) : (s.failSource c n).quiet := by
  unfold State.failSource
  repeat' split
  all_goals simp [h]

@[simp] theorem identifyExhausted_quiet (n : Nat) : (s.identifyExhausted n).quiet := by
  unfold State.identifyExhausted
  simp only []
  repeat' split
  all_goals simp [h]

@[simp] theorem identifyFailed_quiet (n : Nat) : (s.identifyFailed n).quiet := by
  unfold State.identifyFailed
  simp only []
  repeat' split
  all_goals simp [h]

@[simp] theorem changeMedium_quiet (e : EpName) (n : Nat) : (s.changeMedium e n).quiet := by
  unfold State.changeMedium
  repeat' split
  all_goals simp [h]

@[simp] theorem identifyAnswered_quiet (n : Nat) (m : Word64) : (s.identifyAnswered n m).quiet := by
  have hfold (l : List Nat) (e : EpName) {t : State} (ht : t.quiet) :
      (l.foldl (fun s k => s.changeMedium e k) t).quiet := foldl_quiet _ (fun _ _ hs => changeMedium_quiet hs _ _) l ht
  unfold State.identifyAnswered
  simp only []
  repeat' split
  all_goals simp [h, hfold]

@[simp] theorem identifyEnd_quiet (n : Nat) (r : AskEnd) : (s.identifyEnd n r).quiet := by
  unfold State.identifyEnd
  repeat' split
  all_goals simp [h]

@[simp] theorem sourceOpened_quiet (c : ChannelId) (w : Word32) : (s.sourceOpened c w).quiet := by
  unfold State.sourceOpened
  simp only []
  repeat' split
  all_goals simp [h]

@[simp] theorem sizeMismatch_quiet (c : ChannelId) (w : Word32) (n : Nat) :
    (s.sizeMismatch c w n).quiet := by simp [State.sizeMismatch, h]

@[simp] theorem openFailed_quiet (c : ChannelId) : (s.openFailed c).quiet := by
  unfold State.openFailed
  simp only []
  repeat' split
  all_goals simp [h]

@[simp] theorem openEnd_quiet (c : ChannelId) (r : AskEnd) : (s.openEnd c r).quiet := by
  unfold State.openEnd
  repeat' split
  all_goals simp [h]

@[simp] theorem readFailed_quiet (c : ChannelId) (k : Nat) (n : Option Nat) : (s.readFailed c k n).quiet := by
  unfold State.readFailed
  simp only []
  repeat' split
  all_goals simp [h]

@[simp] theorem readSucceeded_quiet (c : ChannelId) (k : Nat) (d : List Byte) : (s.readSucceeded c k d).quiet := by
  unfold State.readSucceeded
  simp only []
  repeat' split
  all_goals simp [h]

@[simp] theorem readEnd_quiet (c : ChannelId) (d : List Byte) (r : AskEnd) : (s.readEnd c d r).quiet := by
  unfold State.readEnd
  repeat' split
  all_goals simp [h]

@[simp] theorem checkSucceeded_quiet (c : ChannelId) (d : List Byte) :
    (s.checkSucceeded c d).quiet := by simp [State.checkSucceeded, h]

@[simp] theorem checkEnd_quiet (c : ChannelId) (d : List Byte) (r : AskEnd) : (s.checkEnd c d r).quiet := by
  unfold State.checkEnd
  repeat' split
  all_goals simp [h]

@[simp] theorem channelClosed_quiet (c : ChannelId) : (s.channelClosed c).quiet := by
  unfold State.channelClosed
  split <;> simp [h]

@[simp] theorem createEnd_quiet (c : ChannelId) (d : Nat) (r : AskEnd) : (s.createEnd c d r).quiet := by
  unfold State.createEnd
  repeat' split
  all_goals simp [h]

@[simp] theorem writeEnd_quiet (c : ChannelId) (d k : Nat) (r : AskEnd) : (s.writeEnd c d k r).quiet := by
  unfold State.writeEnd
  simp only []
  repeat' split
  all_goals simp [h]

@[simp] theorem takeUpFailure_quiet (c : ChannelId) (d : Nat) : (s.takeUpFailure c d).quiet := by
  unfold State.takeUpFailure
  repeat' split
  all_goals simp [h]

@[simp] theorem verified_quiet (c : ChannelId) (d n : Nat) : (s.verified c d n).quiet := by simp [State.verified, h]

@[simp] theorem verifyEnd_quiet (c : ChannelId) (d k : Nat) (x : List Byte) (r : AskEnd) :
    (s.verifyEnd c d k x r).quiet := by
  unfold State.verifyEnd
  simp only []
  repeat' split
  all_goals simp [h]

@[simp] theorem laneCloseEnd_quiet (c : ChannelId) (d : Nat) (r : AskEnd) : (s.laneCloseEnd c d r).quiet := by
  unfold State.laneCloseEnd
  repeat' split
  all_goals simp [h]

@[simp] theorem askEnded_quiet (p : Purpose) (d : List Byte) (r : AskEnd) : (s.askEnded p d r).quiet := by
  unfold State.askEnded
  cases p <;> simp [h]

@[simp] theorem ask_quiet (a : Ask) : (s.ask a).quiet := by
  unfold State.ask
  simp only []
  split <;> simp [h]

@[simp] theorem pumpOpen_quiet (c : ChannelId) : (s.pumpOpen c).quiet := by
  unfold State.pumpOpen
  repeat' split
  all_goals simp [h]

@[simp] theorem raiseReadPos_quiet (c : ChannelId) : (s.raiseReadPos c).quiet := by
  unfold State.raiseReadPos
  repeat' split
  all_goals simp [h]

@[simp] theorem pumpRead_quiet (c : ChannelId) : (s.pumpRead c).quiet := by
  unfold State.pumpRead
  repeat' split
  all_goals simp [h]

@[simp] theorem pumpSource_quiet (c : ChannelId) : (s.pumpSource c).quiet :=
  pumpRead_quiet (raiseReadPos_quiet (pumpOpen_quiet h c) c) c

@[simp] theorem pumpCreate_quiet (c : ChannelId) (d : Nat) : (s.pumpCreate c d).quiet := by
  unfold State.pumpCreate
  repeat' split
  all_goals simp [h]

@[simp] theorem pumpVerify_quiet (c : ChannelId) (d : Nat) : (s.pumpVerify c d).quiet := by
  unfold State.pumpVerify
  repeat' split
  all_goals simp [h]

@[simp] theorem pumpWrite_quiet (c : ChannelId) (d : Nat) : (s.pumpWrite c d).quiet := by
  unfold State.pumpWrite
  repeat' split
  all_goals simp [h]

@[simp] theorem checkWholeFile_quiet (c : ChannelId) (d : Nat) : (s.checkWholeFile c d).quiet := by
  unfold State.checkWholeFile
  repeat' split
  all_goals simp [h]

@[simp] theorem pumpClose_quiet (c : ChannelId) (d : Nat) : (s.pumpClose c d).quiet := by
  unfold State.pumpClose
  repeat' split
  all_goals simp [h]

@[simp] theorem pumpLane_quiet (c : ChannelId) (d : Nat) : (s.pumpLane c d).quiet :=
  pumpClose_quiet (pumpWrite_quiet (pumpVerify_quiet (pumpCreate_quiet (checkWholeFile_quiet h c d) c d) c d) c d) c d

@[simp] theorem pumpClosing_quiet (c : ChannelId) : (s.pumpClosing c).quiet := by
  unfold State.pumpClosing
  repeat' split
  all_goals simp [h]

@[simp] theorem pumpChannel_quiet (c : ChannelId) : (s.pumpChannel c).quiet := by
  unfold State.pumpChannel
  exact pumpClosing_quiet (pumpSource_quiet (foldl_quiet _ (fun _ _ hs => pumpLane_quiet hs _ _) _ (pumpSource_quiet h _)) _) _

@[simp] theorem pumpIdentifyOnce_quiet (n : Nat) : (State.pumpIdentifyOnce n s).quiet := by
  unfold State.pumpIdentifyOnce
  simp only []
  repeat' split
  all_goals simp [h]

@[simp] theorem pumpIdentify_quiet (n : Nat) : (s.pumpIdentify n).quiet :=
  repeat_quiet _ (fun _ hs => pumpIdentifyOnce_quiet hs _) _ h

@[simp] theorem tidyOrphans_quiet (n : Nat) : (s.tidyOrphans n).quiet := by
  unfold State.tidyOrphans
  repeat' split
  case _ => exact h
  case _ =>
    refine foldl_quiet _ (fun s d hs => ?_) _ h
    split <;> simp [hs]
  case _ => exact h

@[simp] theorem tidyIdle_quiet (n : Nat) : (s.tidyIdle n).quiet := by
  unfold State.tidyIdle
  repeat' split
  all_goals simp [h]

@[simp] theorem activate_quiet (n : Nat) (j : JobRecord) : (s.activate n j).quiet := by
  have horphans (l : List Nat) {t : State} (ht : t.quiet) : (l.foldl (fun s k => s.tidyOrphans k) t).quiet :=
    foldl_quiet _ (fun _ _ hs => tidyOrphans_quiet hs _) l ht
  have hidle (l : List Nat) {t : State} (ht : t.quiet) : (l.foldl (fun s k => s.tidyIdle k) t).quiet :=
    foldl_quiet _ (fun _ _ hs => tidyIdle_quiet hs _) l ht
  have htidy := hidle j.clips (horphans j.clips h)
  unfold State.activate
  simp only []
  split <;> simp [htidy]

@[simp] theorem failNoSource_quiet (c : ChannelId) (n : Nat) (r : ClipRecord) : (s.failNoSource c n r).quiet := by
  unfold State.failNoSource
  refine checkSettle_quiet (foldl_quiet _ (fun s d hs => ?_) _ h) _
  split <;> simp [hs]

@[simp] theorem deferLane_quiet (k : Option FaultKind) (x : Reached) : (s.deferLane k x).quiet := by
  unfold State.deferLane
  simp only []
  repeat' split
  all_goals simp [h]

@[simp] theorem settleUnbound_quiet (l : List Nat) (n : Nat) : (s.settleUnbound l n).quiet := by
  unfold State.settleUnbound
  repeat' split
  all_goals simp [h]

@[simp] theorem deferRecords_quiet (p : EpName → Bool) (k : Option FaultKind) : (s.deferRecords p k).quiet := by
  unfold State.deferRecords
  refine foldl_quiet _ (fun s x hs => ?_) _ (foldl_quiet _ (fun s x hs => deferLane_quiet hs _ _) _
    (foldl_quiet _ (fun s x hs => by simp [hs]) _ h))
  split <;> simp [hs]

@[simp] theorem answerDrain_quiet (e : EpName) (r : DrainResult) (n : Nat) : (s.answerDrain e r n).quiet := by
  unfold State.answerDrain
  split
  · exact h
  · exact reply_quiet _ _ _ _ _ (h.of_ports rfl)

@[simp] theorem returnTo_quiet (e : EpName) (n : Nat) : (s.returnTo e n).quiet := by
  unfold State.returnTo
  repeat' split
  all_goals simp [h]

@[simp] theorem takeReturn_quiet (e : EpName) : (s.takeReturn e).quiet :=
  foldl_quiet _ (fun _ _ hs => returnTo_quiet hs _ _) _ h

@[simp] theorem suspendJob_quiet (n : Nat) : (s.suspendJob n).quiet :=
  foldl_quiet _ (fun _ _ hs => unbind_quiet hs _) _ (suspendRecord_quiet h _ _)

@[simp] theorem dropChannel_quiet (c : ChannelId) : (s.dropChannel c).quiet := by simp [State.dropChannel, h]

@[simp] theorem cancelJob_quiet (n : Nat) (j : JobRecord) : (s.cancelJob n j).quiet := by
  unfold State.cancelJob
  refine foldl_quiet _ (fun _ _ hs => by simp [hs]) _ (foldl_quiet _ (fun _ _ hs => dropChannel_quiet hs _) _ ?_)
  simp [h]

/-- The drain of an endpoint leaves a quiet state quiet (R91). -/
@[simp] theorem completeDrain_quiet (e : EpName) : (s.completeDrain e).quiet := by
  have hdefer : ((s.setEndpointState e .released).deferRecords (· == e) none).quiet := deferRecords_quiet (by simpa using h) _ _
  exact answerDrain_quiet (foldl_quiet _ (fun _ _ hs => unbind_quiet hs _) _ hdefer) _ _ _

@[simp] theorem bindClip_quiet (c : ChannelId) (n k : Nat) : (s.bindClip c n k).quiet := by
  unfold State.bindClip
  split
  case h_2 => exact h
  case h_1 j c0 _ _ =>
    have hbase : ({ s.setClip k (some c0.bind) with offload := { s.offload with lastJob := n } } : State).quiet := h.of_ports rfl
    simp only []
    split
    · exact (setChannel_quiet _ _).mpr hbase
    · exact failNoSource_quiet ((setChannel_quiet _ _).mpr hbase) _ _ _

/-- The engine's asks keep `quiet` (R16). -/
@[simp] theorem engineSettle_quiet : s.engineSettle.quiet := by
  have hidentify (l : List Nat) {t : State} (ht : t.quiet) : (l.foldl (fun s n => s.pumpIdentify n) t).quiet :=
    foldl_quiet _ (fun _ _ hs => pumpIdentify_quiet hs _) l ht
  have hchannels (l : List ChannelId) {t : State} (ht : t.quiet) : (l.foldl (fun s c => s.pumpChannel c) t).quiet :=
    foldl_quiet _ (fun _ _ hs => pumpChannel_quiet hs _) l ht
  have hstart : s.refreshEngine.quiet := refreshEngine_quiet.mpr h
  simp only [State.engineSettle, refreshPool_quiet, refreshEngine_quiet]
  exact hchannels _ (hidentify _ hstart)

end

/-! ### Pictures

The picture operations change no port that is not UP. -/

/-- The ports that are not UP, whole. -/
def State.downPorts (s : State) : Vector (Option PortState) 4 :=
  s.link.ports.map fun x => if x.link = .up then none else some x

theorem State.downPorts_getElem (s : State) (p : Port) :
    s.downPorts[p] = if (s.port p).link = .up then none else some (s.port p) :=
  Vector.getElem_map _ p.isLt

/-- An operation that leaves the ports that are not UP as they are keeps `quiet`. -/
theorem State.quiet.of_downPorts {s t : State} (h : s.quiet) (ht : t.downPorts = s.downPorts) : t.quiet := by
  intro p hp
  have hst : t.downPorts[p] = s.downPorts[p] := by rw [ht]
  rw [State.downPorts_getElem, State.downPorts_getElem, if_neg hp] at hst
  split at hst
  · simp at hst
  · next hs =>
    have : t.port p = s.port p := Option.some.inj hst
    rw [this]; exact h p hs

/-- A fold of operations that keep the ports that are not UP keeps them. -/
theorem foldl_downPorts {α : Type} (f : State → α → State) (h : ∀ s x, (f s x).downPorts = s.downPorts) (l : List α)
    (s : State) : (l.foldl f s).downPorts = s.downPorts := foldl_keeps State.downPorts f h l s

/-- Changing an UP port that stays UP changes no other port. -/
theorem modPort_downPorts {s : State} (p : Port) (f : PortState → PortState) (hup : s.isUp p = true)
    (hf : (f (s.port p)).link = (s.port p).link) : (s.modPort p f).downPorts = s.downPorts := by
  have hlink := (s.isUp_iff p).mp hup
  ext1 i hi
  by_cases hp : p.val = i
  · subst hp
    have : s.link.ports[p.val].link = .up := hlink
    simp [State.downPorts, State.modPort, hf, hlink, this]
  · simp [State.downPorts, State.modPort, Vector.getElem_set_ne, hp]

section
variable (s : State)

@[simp] theorem modStream_downPorts (st : StreamId) (f : Stream → Stream) : (s.modStream st f).downPorts = s.downPorts := rfl
@[simp] theorem modSpot_downPorts (st : StreamId) (f : SpotterStream → SpotterStream) : (s.modSpot st f).downPorts = s.downPorts := rfl
@[simp] theorem modClip_downPorts (n : Nat) (f : ClipRecord → ClipRecord) : (s.modClip n f).downPorts = s.downPorts := by
  unfold State.modClip; split <;> rfl
@[simp] theorem advanceTo_downPorts (t : Word64) : (s.advanceTo t).downPorts = s.downPorts := by
  unfold State.advanceTo; split <;> rfl
@[simp] theorem logFault_downPorts (f : Filing) : (s.logFault f).downPorts = s.downPorts := by
  unfold State.logFault; split <;> rfl
@[simp] theorem countFault_downPorts (f : Filing) : (s.countFault f).downPorts = s.downPorts := by
  unfold State.countFault; split <;> simp
@[simp] theorem matchHolds_downPorts (st : StreamId) (p : HoldCondition → Bool) : (s.matchHolds st p).downPorts = s.downPorts := by
  unfold State.matchHolds; split <;> rfl
@[simp] theorem file_downPorts (f : Filing) : (s.file f).downPorts = s.downPorts := by
  unfold State.file State.reportFault; split <;> simp
@[simp] theorem fileIf_downPorts (b : Bool) (f : Filing) : (s.fileIf b f).downPorts = s.downPorts := by
  unfold State.fileIf; split <;> simp
@[simp] theorem fileOpt_downPorts (f : Option Filing) : (s.fileOpt f).downPorts = s.downPorts := by
  unfold State.fileOpt; split <;> simp

@[simp] theorem takeDetection_downPorts (st : StreamId) (clip : Nat) (frame : Word32) (l c m : Nat) : (s.takeDetection st clip frame l c m).downPorts = s.downPorts := by
  unfold State.takeDetection
  simp only []
  repeat' split
  all_goals first | rfl | simp

@[simp] theorem spotLine_downPorts (st : StreamId) (clip : Nat) (frame : Word32) (line : Nat) (a b : List Rgb) : (s.spotLine st clip frame line a b).downPorts = s.downPorts := by
  unfold State.spotLine
  simp only []
  rw [foldl_downPorts _ (fun _ _ => takeDetection_downPorts _ _ _ _ _ _ _), modSpot_downPorts]

@[simp] theorem judgeFrame_downPorts (st : StreamId) (clip : Nat) (frame : Word32) (n : Nat) : (s.judgeFrame st clip frame n).downPorts = s.downPorts := by
  simp [State.judgeFrame]

@[simp] theorem spotFrameEnd_downPorts (st : StreamId) (x : FrameInProgress) : (s.spotFrameEnd st x).downPorts = s.downPorts := by
  unfold State.spotFrameEnd
  simp only []
  repeat' split
  all_goals first | rfl | simp

@[simp] theorem resolve_downPorts (st : StreamId) (clip : Nat) (frame : Word32) : (s.resolve st clip frame).downPorts = s.downPorts := by
  unfold State.resolve
  simp only []
  repeat' split
  all_goals first | rfl | simp

@[simp] theorem freeRaster_downPorts (st : StreamId) (p : Port) : (s.freeRaster st p).downPorts = s.downPorts := by
  unfold State.freeRaster
  split
  case isTrue hup => exact modPort_downPorts _ _ (by simp_all) rfl
  case isFalse => rfl

@[simp] theorem handNext_downPorts (st : StreamId) : (s.handNext st).downPorts = s.downPorts := by
  unfold State.handNext
  simp only []
  repeat' split
  case _ => rfl
  case _ => rfl
  case _ hup => exact modPort_downPorts _ _ hup rfl
  case _ => rfl

@[simp] theorem releaseInHand_downPorts (st : StreamId) : (s.releaseInHand st).downPorts = s.downPorts := by
  unfold State.releaseInHand
  simp only []
  repeat' split
  all_goals first | rfl | simp

@[simp] theorem outputGone_downPorts (st : StreamId) : (s.outputGone st).downPorts = s.downPorts := by
  simp [State.outputGone]

@[simp] theorem sendFrame_downPorts (st : StreamId) (l : List Packet) : (s.sendFrame st l).downPorts = s.downPorts := by
  simp [State.sendFrame]

@[simp] theorem finalise_downPorts (st : StreamId) : (s.finalise st).downPorts = s.downPorts := by
  unfold State.finalise
  repeat' split
  all_goals first | rfl | simp

@[simp] theorem fileRun_downPorts (st : StreamId) : (s.fileRun st).downPorts = s.downPorts := by
  unfold State.fileRun
  simp only []
  repeat' split
  all_goals first | rfl | simp

@[simp] theorem present_downPorts (st : StreamId) : (s.present st).downPorts = s.downPorts := by
  unfold State.present
  simp only []
  repeat' split
  all_goals first | rfl | simp

@[simp] theorem tick_downPorts (st : StreamId) (h : Bool) : (s.tick st h).downPorts = s.downPorts := by
  unfold State.tick
  simp only []
  repeat' split
  all_goals first | rfl | simp

@[simp] theorem startRegrade_downPorts (st : StreamId) : (s.startRegrade st).downPorts = s.downPorts := by
  unfold State.startRegrade
  simp only []
  repeat' split
  all_goals first | rfl | simp

@[simp] theorem cutRegrade_downPorts (st : StreamId) : (s.cutRegrade st).downPorts = s.downPorts := by
  unfold State.cutRegrade
  split <;> rfl

@[simp] theorem judgeChange_downPorts (c : LookChange) (st : StreamId) : (s.judgeChange c st).downPorts = s.downPorts := by
  unfold State.judgeChange
  repeat' split
  all_goals first | rfl | simp

@[simp] theorem lookChanged_downPorts (c : LookChange) : (s.lookChanged c).downPorts = s.downPorts := foldl_downPorts _ (fun _ _ => judgeChange_downPorts _ _ _) _ _

@[simp] theorem modFrame_downPorts (st : StreamId) (f : FrameInProgress → FrameInProgress) : (s.modFrame st f).downPorts = s.downPorts := rfl

@[simp] theorem noteGap_downPorts (st : StreamId) (x : FrameInProgress) (e : Nat) : (s.noteGap st x e).downPorts = s.downPorts := by
  unfold State.noteGap
  repeat' split
  all_goals first | rfl | simp

@[simp] theorem enterHold_downPorts (st : StreamId) (x : FrameInProgress) : (s.enterHold st x).downPorts = s.downPorts := by
  simp [State.enterHold]

@[simp] theorem readyBack_downPorts (st : StreamId) (x : FrameInProgress) : (s.readyBack st x).downPorts = s.downPorts := by
  unfold State.readyBack
  simp only []
  repeat' split
  all_goals first | rfl | simp

@[simp] theorem endProcessed_downPorts (st : StreamId) (x : FrameInProgress) : (s.endProcessed st x).downPorts = s.downPorts := by
  simp [State.endProcessed, apply_ite State.downPorts]

@[simp] theorem endFrame_downPorts (st : StreamId) : (s.endFrame st).downPorts = s.downPorts := by
  unfold State.endFrame
  repeat' split
  all_goals first | rfl | simp

@[simp] theorem rejectLines_downPorts (st : StreamId) (pk : RasterPacket) (x : FrameInProgress) : (s.rejectLines st pk x).downPorts = s.downPorts := by
  unfold State.rejectLines
  simp only []
  repeat' split
  all_goals first | rfl | simp

@[simp] theorem gradeLines_downPorts (st : StreamId) (pk : RasterPacket) (x : FrameInProgress) : (s.gradeLines st pk x).downPorts = s.downPorts := by
  have h : ∀ (l : List ((Nat × List Rgb) × List Rgb)) (t : State),
      (l.foldl (fun s ng => s.spotLine st x.clip x.number ng.1.1 ng.1.2 ng.2) t).downPorts = t.downPorts :=
    fun l t => foldl_downPorts _ (fun _ _ => spotLine_downPorts _ _ _ _ _ _ _) l t
  unfold State.gradeLines
  simp only []
  split <;> simp [h]

@[simp] theorem takeLines_downPorts (st : StreamId) (pk : RasterPacket) : (s.takeLines st pk).downPorts = s.downPorts := by
  unfold State.takeLines
  (try simp only [])
  repeat' split
  all_goals first | rfl | simp

@[simp] theorem actOnFlags_downPorts (st : StreamId) (pk : RasterPacket) : (s.actOnFlags st pk).downPorts = s.downPorts := by
  simp [State.actOnFlags, apply_ite State.downPorts]

@[simp] theorem startFrame_downPorts (st : StreamId) (clip : Nat) (n : Word32) : (s.startFrame st clip n).downPorts = s.downPorts := by
  simp [State.startFrame, apply_ite State.downPorts]

@[simp] theorem refuseFrame_downPorts (st : StreamId) (clip : Nat) (n : Word32) : (s.refuseFrame st clip n).downPorts = s.downPorts := by
  simp [State.refuseFrame]

@[simp] theorem discardRefused_downPorts (st : StreamId) (pk : RasterPacket) : (s.discardRefused st pk).downPorts = s.downPorts := by
  unfold State.discardRefused
  simp only []
  repeat' split
  all_goals first | rfl | simp

@[simp] theorem takeStart_downPorts (st : StreamId) (pk : RasterPacket) : (s.takeStart st pk).downPorts = s.downPorts := by
  simp [State.takeStart, apply_ite State.downPorts]

@[simp] theorem takeRest_downPorts (st : StreamId) (pk : RasterPacket) : (s.takeRest st pk).downPorts = s.downPorts := by
  unfold State.takeRest
  repeat' split
  all_goals first | rfl | simp

@[simp] theorem restartStall_downPorts (st : StreamId) : (s.restartStall st).downPorts = s.downPorts := rfl

@[simp] theorem takeRaster_downPorts (st : StreamId) : (s.takeRaster st).downPorts = s.downPorts := by
  unfold State.takeRaster
  split
  · split
    · rfl
    · simp only []
      repeat' split
      all_goals first | rfl | simp
  · rfl

@[simp] theorem rasterArrives_downPorts (st : StreamId) (pk : RasterPacket) : (s.rasterArrives st pk).downPorts = s.downPorts := by
  unfold State.rasterArrives
  simp only []
  split <;> rfl

@[simp] theorem takeWaiting_downPorts (st : StreamId) (n : Nat) : (State.takeWaiting st n s).downPorts = s.downPorts := by
  induction n generalizing s with
  | zero => rfl
  | succ n ih => simp [State.takeWaiting, ih]

@[simp] theorem releaseHold_downPorts (st : StreamId) : (s.releaseHold st).downPorts = s.downPorts := by
  unfold State.releaseHold
  simp only [takeWaiting_downPorts, releaseInHand_downPorts, modStream_downPorts, restartStall_downPorts]
  split <;> simp [apply_ite State.downPorts]

@[simp] theorem openStream_downPorts (st : StreamId) (x : StreamParams) : (s.openStream st x).downPorts = s.downPorts := by
  unfold State.openStream
  simp only []
  split
  case isTrue hup => exact modPort_downPorts _ _ hup rfl
  case isFalse => rfl

@[simp] theorem pacingTicks_downPorts (st : StreamId) : (s.pacingTicks st).downPorts = s.downPorts := by
  have hticks (x : Stream) (o : Word64) : (((s.advanceTo (tickInstant x.params o x.tick)).modStream st fun _ => x).tick st
      (x.state == .held)).downPorts = s.downPorts := by
    rw [tick_downPorts, modStream_downPorts, advanceTo_downPorts]
  unfold State.pacingTicks
  split
  · rfl
  · exact hticks _ _

@[simp] theorem stallExpires_downPorts (st : StreamId) : (s.stallExpires st).downPorts = s.downPorts := by
  unfold State.stallExpires
  simp only []
  repeat' split
  all_goals first | rfl | simp

@[simp] theorem finishRegrade_downPorts (st : StreamId) : (s.finishRegrade st).downPorts = s.downPorts := by
  unfold State.finishRegrade
  (try simp only [])
  repeat' split
  all_goals first | rfl | simp

end

/-- A stream's closing takes its packets out of a port's queues, and changes no other port that is not UP (R140). -/
theorem closeStream_quiet {s : State} (st : StreamId) (h : s.quiet) : (s.closeStream st).quiet := by
  unfold State.closeStream
  simp only [modStream_quiet, modSpot_quiet]
  refine modPort_quiet _ _ (h.of_downPorts ?_) (PortState.quiet_removePackets _)
  simp [apply_ite State.downPorts]

/-! ### The link unit -/

/-- A port that has left UP is idle (R2). -/
theorem PortState.lose_idle (x : PortState) (link : LinkState) : (x.lose link).idle := by
  refine ⟨fun k => ?_, rfl, rfl, fun n => ?_, rfl, fun k => ?_, rfl, rfl⟩
  all_goals simp [PortState.lose, Credit.zero]

section
variable {s : State} (h : s.quiet)
include h

theorem freeBuffer_quiet (p : Port) (c : PacketClass) : (s.freeBuffer p c).quiet := by
  unfold State.freeBuffer
  split
  case h_1 => exact h.of_downPorts (freeRaster_downPorts _ _ _)
  all_goals
    split
    case isTrue hup => exact modPort_quiet_of_up _ _ h hup rfl
    case isFalse => exact h

theorem rejectPacket_quiet (p : Port) (c : PacketClass) (x : RxHeader) (n : Nat) : (s.rejectPacket p c x n).quiet :=
  freeBuffer_quiet ((file_quiet _).mpr h) p c

theorem loseDestinations_quiet (p : Port) (l : List EpName) : (s.loseDestinations p l).quiet :=
  foldl_quiet _ (fun _ _ hs => answerDrain_quiet hs _ _ _) _ (deferRecords_quiet h _ _)

/-- A port that leaves UP is idle from then on (R2). -/
theorem leavePort_quiet (p : Port) (cause : LossCause) : (s.leavePort p cause).quiet := by
  unfold State.leavePort
  refine engineSettle_quiet (foldl_quiet _ (fun _ _ hs => hs.of_downPorts (outputGone_downPorts _ _)) _ ?_)
  refine foldl_quiet _ (fun _ _ hs => askEnded_quiet hs _ _ _) _ ?_
  refine foldl_quiet _ (fun _ _ hs => loseSource_quiet hs _) _ (loseDestinations_quiet ?_ _ _)
  refine State.quiet.of_ports (modPort_quiet p (·.lose cause.next) ?_ fun _ _ => PortState.lose_idle _ _) rfl
  exact (setEndpoints_quiet _).mpr ((file_quiet _).mpr h)

theorem enterUp_quiet (p : Port) : (s.enterUp p).quiet := by
  unfold State.enterUp
  refine engineSettle_quiet (foldl_quiet _ (fun _ _ hs => takeReturn_quiet hs _) _ ?_)
  exact (setEndpoints_quiet _).mpr (modPort_quiet _ _ h fun _ => PortState.quiet_of_up rfl)

theorem completeAsk_quiet (p : Port) (tag : Nat) (l : LiveAsk) (r : AskEnd) : (s.completeAsk p tag l r).quiet :=
  engineSettle_quiet (askEnded_quiet
    (modPort_quiet _ _ h fun hp => PortState.quiet_dropBlocks tag (PortState.quiet_setLive_none _ hp)) _ _ _)

theorem takeAnswer_quiet (p : Port) (x : RxHeader) (b : List Byte) : (s.takeAnswer p x b).quiet := by
  unfold State.takeAnswer
  repeat' split
  case _ => exact freeBuffer_quiet h _ _
  case _ => exact rejectPacket_quiet h _ _ _ _
  case _ => exact completeAsk_quiet (freeBuffer_quiet h _ _) _ _ _ _
  case _ => exact rejectPacket_quiet h _ _ _ _

theorem takeBlock_quiet (p : Port) (x : RxHeader) (b : List Byte) : (s.takeBlock p x b).quiet := by
  unfold State.takeBlock
  split
  case h_1 => exact freeBuffer_quiet h _ _
  case h_2 l hl =>
    repeat' split
    case _ => exact rejectPacket_quiet h _ _ _ _
    case _ =>
      exact freeBuffer_quiet (modPort_quiet_of_up _ _ h (h.isUp_of_liveAsk hl) (PortState.link_setLive _ _ _)) _ _
    case _ => exact rejectPacket_quiet h _ _ _ _
    case _ => exact rejectPacket_quiet h _ _ _ _

theorem takeRasterPacket_quiet (p : Port) (st : StreamId) (x : RxHeader) (b : List Byte) :
    (s.takeRasterPacket p st x b).quiet := by
  unfold State.takeRasterPacket
  repeat' split
  case _ => exact rejectPacket_quiet h _ _ _ _
  case _ => exact freeBuffer_quiet h _ _
  case _ => exact h.of_downPorts (rasterArrives_downPorts _ _ _)
  case _ => exact rejectPacket_quiet h _ _ _ _

theorem servePacket_quiet (p : Port) (k : Fin 4) (hup : s.isUp p = true) : (s.servePacket p k).quiet := by
  unfold State.servePacket
  split
  · exact h
  · next pk rest _ =>
    have hstart : (s.modPort p (·.startPacket k pk rest)).quiet := modPort_quiet_of_up _ _ h hup rfl
    simp only []
    split
    · exact hstart.of_downPorts (outputGone_downPorts _ _)
    all_goals exact hstart

theorem startFrameOn_quiet (p : Port) : (s.startFrameOn p).quiet := by
  unfold State.startFrameOn
  simp only []
  split
  · exact h
  · next hstart =>
    have hup : s.isUp p = true := (s.isUp_iff p).mpr (by simp_all)
    repeat' split
    case _ => exact modPort_quiet_of_up _ _ h hup rfl
    case _ => exact h
    case _ => exact servePacket_quiet h _ _ hup

theorem askSent_quiet (p : Port) (tag : Nat) : (s.askSent p tag).quiet := by
  unfold State.askSent
  repeat' split
  case _ => exact h
  case _ => exact h
  case _ l hl => exact modPort_quiet_of_up _ _ h (h.isUp_of_liveAsk hl) (PortState.link_setLive _ _ _)

theorem packetSent_quiet (p : Port) (o : Owner) : (s.packetSent p o).quiet := by
  unfold State.packetSent
  split
  case h_1 => exact askSent_quiet h _ _
  case h_2 =>
    unfold State.noticeSent
    split <;> exact h.of_ports rfl
  all_goals exact h.of_ports rfl

theorem endFrameOn_quiet (p : Port) : (s.endFrameOn p).quiet := by
  have hfree : (s.modPort p fun x => { x with transmitting := none, wire := [] }).quiet :=
    modPort_quiet _ _ h fun hp hl => by
      obtain ⟨hq, _, _, hrest⟩ := hp hl
      exact ⟨hq, rfl, rfl, hrest⟩
  unfold State.endFrameOn
  repeat' split
  case _ => exact h
  case _ => exact hfree
  case _ => exact packetSent_quiet hfree _ _

theorem creditTimerEnds_quiet (p : Port) : (s.creditTimerEnds p).quiet := by
  unfold State.creditTimerEnds
  split
  · exact h
  · next t ht =>
    refine modPort_quiet _ _ ((advanceTo_quiet t).mpr h) fun _ => PortState.quiet_of_up ?_
    have : (s.advanceTo t).port p = s.port p := by unfold State.advanceTo; split <;> rfl
    rw [this]
    by_contra hn
    obtain ⟨_, _, _, _, _, _, _, htimer⟩ := h p hn
    simp [htimer] at ht

theorem expireAsk_quiet (p : Port) (e : EntryId) : (s.expireAsk p e).quiet := by
  unfold State.expireAsk
  split
  · exact h
  · exact engineSettle_quiet (askEnded_quiet
      (modPort_quiet _ _ ((advanceTo_quiet _).mpr h) (PortState.quiet_setLive_none _)) _ _ _)

theorem grantEntry_quiet (p : Port) : (s.grantEntry p).quiet := by
  unfold State.grantEntry
  split
  · next a rest entry hw _ =>
    have hup : s.isUp p = true := h.isUp_of_waiting (by simp [hw])
    have hplaced : (s.modPort p fun x => { x with waiting := rest }.place entry a).quiet :=
      modPort_quiet_of_up _ _ h hup (PortState.link_place _ _ _)
    simp only [hup, if_true]
    exact engineSettle_quiet hplaced
  · exact h

theorem chooseNotice_quiet : s.chooseNotice.quiet := by
  unfold State.chooseNotice
  simp only []
  repeat' split
  case _ => exact h
  case _ => exact h
  case _ =>
    have hup : s.isUp s.control.noticePort = true := by simp_all
    exact State.quiet.of_ports (modPort_quiet_of_up s.control.noticePort (·.enqueue .control _) h hup rfl) rfl
  case _ => exact h

end
end Sys2Proof.Machine
end

section
/-!
The five statements about what every step keeps (R1, R2, R13 to R15, R20, R154, R160): one relation between a state and the
next, `State.Keeps`, one lemma for each operation that changes a table, and one case for each command.
-/

namespace Sys2Proof.Machine

/-! ### What a step keeps -/

/-- The bounds and orders of the tables, and the idleness of the ports that are not UP, go from one state to another. -/
structure State.Keeps (s t : State) : Prop where
  log : s.logFits → t.logFits
  map : s.mapSound → t.mapSound
  queues : s.queuesFit → t.queuesFit
  endpoints : s.endpointsSound → t.endpointsSound
  ports : s.quiet → t.quiet

theorem State.Keeps.refl (s : State) : s.Keeps s := ⟨id, id, id, id, id⟩

theorem State.Keeps.trans {s t u : State} (h : s.Keeps t) (k : t.Keeps u) : s.Keeps u :=
  ⟨k.log ∘ h.log, k.map ∘ h.map, k.queues ∘ h.queues, k.endpoints ∘ h.endpoints, k.ports ∘ h.ports⟩

/-- An operation that leaves the four tables alone keeps them (the tables are those of `calm`). -/
theorem State.Keeps.of_calm {s t : State} (hc : t.calm = s.calm) (hq : s.quiet → t.quiet) : s.Keeps t where
  log h := by
    have := congrArg Calm.logFits hc
    simp only [State.calm] at this
    exact Nat.ble_eq.mp (this.trans (Nat.ble_eq.mpr h))
  map h := by
    have : t.spotter.defectMap = s.spotter.defectMap := congrArg Calm.defectMap hc
    simpa only [State.mapSound, this] using h
  queues h := by
    have : t.control.queues = s.control.queues := congrArg Calm.requests hc
    simpa only [State.queuesFit, this] using h
  endpoints h := by
    have : t.link.endpoints = s.link.endpoints := congrArg Calm.endpoints hc
    simpa only [State.endpointsSound, this] using h
  ports := hq

/-- `calm` with the request queues and the endpoint table set. -/
def Calm.withTables (x : Calm) (requests : Vector (List Request) 4) (endpoints : List Endpoint) : Calm :=
  { x with requests := requests, endpoints := endpoints }

/-- An operation that leaves the log and the map alone, and keeps the queues' bound and the table's order. -/
theorem State.Keeps.of_withTables {s t : State} {q : Vector (List Request) 4} {es : List Endpoint}
    (hc : t.calm = s.calm.withTables q es)
    (hqueues : s.queuesFit → ∀ p : Port, (q[p]).length ≤ Config.requestQueueDepth)
    (hes : s.endpointsSound → ({ s with link := { s.link with endpoints := es } } : State).endpointsSound)
    (hq : s.quiet → t.quiet) : s.Keeps t := by
  have hmid : State.Keeps { s with control := { s.control with queues := q }, link := { s.link with endpoints := es } } t :=
    .of_calm hc fun h => hq (h.of_ports rfl)
  exact ⟨hmid.log, hmid.map, hmid.queues ∘ hqueues, hmid.endpoints ∘ hes, hq⟩

/-! ### The tables -/

/-- Changing endpoints but not their names keeps the table's order (R12). -/
theorem endpointsSound_map {s : State} (f : Endpoint → Endpoint) (hf : ∀ e, (f e).name = e.name) (h : s.endpointsSound) :
    ({ s with link := { s.link with endpoints := s.link.endpoints.map f } } : State).endpointsSound := by
  obtain ⟨hlen, hord, hids⟩ := h
  refine ⟨by simpa using hlen, List.pairwise_map.mpr (by simpa only [hf] using hord), ?_⟩
  simpa [hf] using hids

/-- Emptying a queue, or taking its head, keeps the bound (R20). -/
theorem queuesFit_set {s : State} (p : Port) {q : List Request} (hq : q.length ≤ (s.control.queues[p]).length)
    (h : s.queuesFit) (r : Port) : ((s.control.queues.set p.val q p.isLt)[r]).length ≤ Config.requestQueueDepth := by
  simp only [Fin.getElem_fin, Vector.getElem_set]
  split
  · exact hq.trans (h p)
  · exact h r

theorem takeRequest_keeps (s : State) (p : Port) : s.Keeps (s.takeRequest p) where
  log := id
  map := id
  queues h := queuesFit_set p (by simp) h
  endpoints := id
  ports := id

/-- A list in strict order keeps it when an element goes between those below it and those above it. -/
theorem pairwise_key_insert {α : Type} (key : α → Nat) (d : α) {lo hi l : List α} (hlo : lo.Sublist l) (hhi : hi.Sublist l)
    (hbelow : ∀ x ∈ lo, key x < key d) (habove : ∀ x ∈ hi, key d < key x) (h : l.Pairwise (fun a b => key a < key b)) :
    (lo ++ d :: hi).Pairwise (fun a b => key a < key b) := by
  refine List.pairwise_append.mpr ⟨h.sublist hlo, List.pairwise_cons.mpr ⟨habove, h.sublist hhi⟩, ?_⟩
  intro a ha b hb
  rcases List.mem_cons.mp hb with rfl | hb
  · exact hbelow a ha
  · exact (hbelow a ha).trans (habove b hb)

theorem length_filter_lt_le {α : Type} (key : α → Nat) (k : Nat) (l : List α) :
    (l.filter (fun x => key x < k)).length + (l.filter (fun x => k < key x)).length ≤ l.length := by
  induction l with
  | nil => simp
  | cons x xs ih => simp only [List.filter_cons, List.length_cons]; grind

/-- A site in range goes into a map with room (R155, R157). -/
theorem mapSound_insert {s t : State} {d : DefectSite} (ht : t.spotter.defectMap = insertSite d s.spotter.defectMap)
    (hroom : s.spotter.defectMap.length < Config.defectLimit) (hd : d.line ≤ 2303 ∧ d.column ≤ 4095) (h : s.mapSound) :
    t.mapSound := by
  obtain ⟨_, hord, hrange⟩ := h
  have hlen := length_filter_lt_le DefectSite.key d.key s.spotter.defectMap
  rw [State.mapSound, ht]
  refine ⟨?_, ?_, ?_⟩
  · simp only [insertSite, List.length_append, List.length_cons]; omega
  · exact pairwise_key_insert DefectSite.key d List.filter_sublist List.filter_sublist (by simp) (by simp) hord
  · intro x hx
    simp only [insertSite, List.mem_append, List.mem_cons, List.mem_filter] at hx
    rcases hx with ⟨hx, _⟩ | rfl | ⟨hx, _⟩
    · exact hrange x hx
    · exact hd
    · exact hrange x hx

theorem mapSite_keeps {s : State} {d : DefectSite} (hroom : s.spotter.defectMap.length < Config.defectLimit)
    (hd : d.line ≤ 2303 ∧ d.column ≤ 4095) : s.Keeps (s.mapSite d) := by
  rw [State.mapSite_eq]
  exact ⟨id, mapSound_insert rfl hroom hd, id, id, id⟩

theorem unmapSite_keeps (s : State) (d : DefectSite) : s.Keeps (s.unmapSite d) where
  log := id
  map := fun ⟨hlen, hord, hrange⟩ =>
    ⟨(List.length_filter_le _ _).trans hlen, hord.sublist List.filter_sublist, fun x hx => hrange x (List.mem_of_mem_filter hx)⟩
  queues := id
  endpoints := id
  ports := id

/-- Two names with ids to 15 have the same place only if they are the same (section 1.5). -/
theorem EpName.key_inj {a b : EpName} (ha : a.id ≤ 15) (hb : b.id ≤ 15) (h : a.key = b.key) : a = b := by
  obtain ⟨pa, ia⟩ := a
  obtain ⟨pb, ib⟩ := b
  simp only [EpName.key] at h ha hb
  have hid : ia = ib := by omega
  have hport : pa = pb := Fin.ext (by omega)
  rw [hid, hport]

/-- An entry that the table does not hold goes into its place in a table with room (R13, R15). -/
theorem insertEndpoint_keeps {s : State} {e : Endpoint} (hnew : s.endpoint? e.name = none)
    (hid : 1 ≤ e.name.id ∧ e.name.id ≤ 15) (hroom : s.link.endpoints.length < Config.endpointLimit) :
    s.Keeps (s.setEndpoints (insertEndpoint e s.link.endpoints)) where
  log := id
  map := id
  queues := id
  ports := id
  endpoints := by
    intro ⟨_, hord, hids⟩
    have hne : ∀ x ∈ s.link.endpoints, x.name.key ≠ e.name.key := by
      intro x hx hkey
      have := List.find?_eq_none.mp hnew x hx
      exact this (by simpa using EpName.key_inj (hids x hx).2 hid.2 hkey)
    have hge : s.link.endpoints.filter (fun x => e.name.key ≤ x.name.key) =
        s.link.endpoints.filter (fun x => e.name.key < x.name.key) :=
      List.filter_congr fun x hx => by
        have := hne x hx
        simp only [decide_eq_decide]; omega
    have hlen := length_filter_lt_le (fun x : Endpoint => x.name.key) e.name.key s.link.endpoints
    simp only [State.endpointsSound, State.setEndpoints_endpoints, insertEndpoint, hge]
    refine ⟨?_, ?_, ?_⟩
    · simp only [List.length_append, List.length_cons]; omega
    · exact pairwise_key_insert (fun x : Endpoint => x.name.key) e List.filter_sublist List.filter_sublist (by simp) (by simp) hord
    · intro x hx
      simp only [List.mem_append, List.mem_cons, List.mem_filter] at hx
      rcases hx with ⟨hx, _⟩ | rfl | ⟨hx, _⟩
      · exact hids x hx
      · exact hid
      · exact hids x hx

theorem removeEndpoint_keeps (s : State) (p : Endpoint → Bool) : s.Keeps (s.setEndpoints (s.link.endpoints.filter p)) where
  log := id
  map := id
  queues := id
  endpoints := fun ⟨hlen, hord, hids⟩ =>
    ⟨(List.length_filter_le _ _).trans hlen, hord.sublist List.filter_sublist, fun x hx => hids x (List.mem_of_mem_filter hx)⟩
  ports := id

theorem setEndpointState_keeps (s : State) (e : EpName) (x : EndpointState) : s.Keeps (s.setEndpointState e x) where
  log := id
  map := id
  queues := id
  endpoints := endpointsSound_map _ fun y => by split <;> rfl
  ports := id

theorem completeDrain_keeps (s : State) (e : EpName) : s.Keeps (s.completeDrain e) := by
  refine .of_withTables (q := s.control.queues) (es := (s.setEndpointState e .released).link.endpoints) ?_ id
    (endpointsSound_map _ fun y => by split <;> rfl) fun h => completeDrain_quiet h e
  rw [calm_of_fixed, completeDrain_fixed]; rfl

theorem engineSettle_keeps (s : State) : s.Keeps s.engineSettle := .of_calm (engineSettle_calm s) engineSettle_quiet

/-! ### The link unit -/

/-- A loss changes of the four tables the port's request queue and the states of its endpoints (R2, R25). -/
theorem leavePort_calm (s : State) (p : Port) (cause : LossCause) :
    (s.leavePort p cause).calm = s.calm.withTables (s.control.queues.set p.val [] p.isLt)
      (s.link.endpoints.map (Endpoint.lose p)) := by
  have hcalm : (s.file { kind := .linkDown, detail := p.val + 256 * cause.code }).calm = s.calm := file_calm _ _
  have hqueues := congrArg Calm.requests hcalm
  have hendpoints := congrArg Calm.endpoints hcalm
  simp only [State.calm] at hqueues hendpoints
  unfold State.leavePort
  simp only []
  rw [engineSettle_calm, foldl_calm _ (fun _ _ => outputGone_calm _ _),
    foldl_calm _ (fun _ _ => calm_of_fixed_eq (askEnded_fixed _ _ _ _)),
    foldl_calm _ (fun _ _ => calm_of_fixed_eq (loseSource_fixed _ _)), State.loseDestinations,
    foldl_calm _ (fun _ _ => calm_of_fixed_eq (answerDrain_fixed _ _ _ _)), calm_of_fixed_eq (deferRecords_fixed _ _ _),
    ← hcalm, ← hqueues, ← hendpoints]
  rfl

theorem leavePort_keeps (s : State) (p : Port) (cause : LossCause) : s.Keeps (s.leavePort p cause) :=
  .of_withTables (leavePort_calm s p cause) (queuesFit_set p (by simp))
    (endpointsSound_map _ fun e => by unfold Endpoint.lose; split <;> rfl) fun h => leavePort_quiet h p cause

/-- Link-up changes of the four tables the states of the port's endpoints (R3). -/
theorem enterUp_calm (s : State) (p : Port) :
    (s.enterUp p).calm = s.calm.withTables s.control.queues (s.link.endpoints.map (Endpoint.comeUp p)) := by
  unfold State.enterUp
  simp only []
  rw [engineSettle_calm, foldl_calm _ (fun _ _ => calm_of_fixed_eq (takeReturn_fixed _ _))]
  rfl

theorem enterUp_keeps (s : State) (p : Port) : s.Keeps (s.enterUp p) :=
  .of_withTables (enterUp_calm s p) id
    (endpointsSound_map _ fun e => by unfold Endpoint.comeUp; split <;> rfl) fun h => enterUp_quiet h p

/-- A CONTROL packet joins a queue that has room (R20). -/
theorem placeControl_keeps (s : State) (p : Port) (x : RxHeader) (b : List Byte) : s.Keeps (s.placeControl p x b) := by
  unfold State.placeControl
  simp only []
  split
  case isTrue hroom =>
    refine State.Keeps.of_withTables 
      (q := s.control.queues.set p.val (s.control.queues[p] ++ [⟨b.head?.elim 0 (·.toNat), x.tag, b.drop 4⟩]) p.isLt)
      (es := s.link.endpoints) ?_ ?_ id fun h => freeBuffer_quiet (by exact h.of_ports rfl) _ _
    · exact freeBuffer_calm _ _ _
    · intro h r
      simp only [Fin.getElem_fin, Vector.getElem_set]
      split
      · simpa using hroom
      · exact h r
  case isFalse =>
    exact .of_calm (by simp) fun h => freeBuffer_quiet (reply_quiet _ _ _ _ _ h) _ _

theorem deliver_keeps (s : State) (p : Port) (k : PacketKind) (c : PacketClass) (x : RxPacket) :
    s.Keeps (s.deliver p k c x) := by
  have hreject (n : Nat) : s.Keeps (s.rejectPacket p c x.header n) :=
    .of_calm (rejectPacket_calm _ _ _ _ _) fun h => rejectPacket_quiet h _ _ _ _
  unfold State.deliver
  repeat' split
  case _ => exact .of_calm (takeRasterPacket_calm _ _ _ _ _) fun h => takeRasterPacket_quiet h _ _ _ _
  case _ => exact hreject _
  case _ => exact placeControl_keeps _ _ _ _
  case _ => exact hreject _
  case _ => exact hreject _
  case _ => exact .of_calm (takeAnswer_calm _ _ _ _) fun h => takeAnswer_quiet h _ _ _
  case _ => exact hreject _
  case _ => exact .of_calm (takeBlock_calm _ _ _ _) fun h => takeBlock_quiet h _ _ _
  case _ => exact hreject _

theorem checkRole_keeps (s : State) (p : Port) (k : PacketKind) (c : PacketClass) (x : RxPacket) :
    s.Keeps (s.checkRole p k c x) := by
  unfold State.checkRole
  repeat' split
  case _ => exact deliver_keeps _ _ _ _ _
  case _ => exact .of_calm (by simp [State.refuseControl]) fun h => freeBuffer_quiet (reply_quiet _ _ _ _ _ h) _ _
  case _ => exact .of_calm (rejectPacket_calm _ _ _ _ _) fun h => rejectPacket_quiet h _ _ _ _

theorem receivePacket_keeps {s : State} {p : Port} (hup : s.isUp p = true) (x : RxPacket) : s.Keeps (s.receivePacket p x) := by
  have hfile (n : Nat) : s.Keeps (s.file (protocolFiling p x.header.endpoint n)) :=
    .of_calm (file_calm _ _) fun h => (file_quiet _).mpr h
  have hcount (c : PacketClass) : s.Keeps (s.modPort p (·.countReceived c)) :=
    .of_calm (modPort_calm _ _ _) fun h => modPort_quiet_of_up _ _ h hup rfl
  unfold State.receivePacket
  simp only []
  repeat' split
  case _ => exact hfile _
  case _ => exact hfile _
  case _ => exact (hcount _).trans (checkRole_keeps _ _ _ _ _)
  case _ => exact (hcount _).trans (.of_calm (freeBuffer_calm _ _ _) fun h => freeBuffer_quiet h _ _)
  case _ => exact hfile _

theorem receiveFrame_keeps (s : State) (p : Port) (frame : List Byte) : s.Keeps (s.receiveFrame p frame) := by
  unfold State.receiveFrame
  split
  · exact .refl s
  · have hup : s.isUp p = true := by simp_all
    repeat' split
    case _ => exact leavePort_keeps _ _ _
    case _ => exact receivePacket_keeps hup _
    case _ => exact .refl s
    case _ => exact .of_calm (modPort_calm _ _ _) fun h => modPort_quiet_of_up _ _ h hup rfl
    case _ => exact leavePort_keeps _ _ _

/-! ### Requests -/

theorem State.Keeps.foldl {α : Type} {f : State → α → State} (h : ∀ t x, State.Keeps t (f t x)) (l : List α) (s : State) :
    s.Keeps (l.foldl f s) := by
  induction l generalizing s with
  | nil => exact .refl s
  | cons x xs ih => exact (h s x).trans (ih _)

/-- The state a rule answers, if it answers one, keeps what a step keeps. -/
def Served.Keeps (s : State) (x : Served) : Prop := ∀ y ∈ x, s.Keeps y.1

theorem Served.Keeps.withArgs {α : Type} {s : State} (x : Option α) {rule : α → Served}
    (h : ∀ a, Served.Keeps s (rule a)) : Served.Keeps s (withArgs x rule) := by
  intro y hy
  obtain ⟨a, _, ha⟩ := Option.bind_eq_some_iff.mp hy
  exact h a y ha

theorem Served.Keeps.refuse (s : State) (c : ReplyCode) : Served.Keeps s (s.refuse c) := by
  intro y hy
  cases hy
  exact .refl s

theorem Served.Keeps.done {s t : State} (r : List Byte) (h : s.Keeps t) : Served.Keeps s (t.done r) := by
  intro y hy
  cases hy
  exact h

theorem Served.Keeps.onStream {s : State} {n : Nat} {rule : StreamId → Served} (h : ∀ st, Served.Keeps s (rule st)) :
    Served.Keeps s (s.onStream n rule) := by
  unfold State.onStream
  split
  · exact Served.Keeps.refuse _ _
  · exact h _

theorem Served.Keeps.onJob {s : State} {n : Nat} {rule : JobRecord → Served} (h : ∀ j, Served.Keeps s (rule j)) :
    Served.Keeps s (s.onJob n rule) := by
  unfold State.onJob
  repeat' split
  case _ => exact Served.Keeps.refuse _ _
  case _ => exact Served.Keeps.refuse _ _
  case _ => exact h _

theorem Served.Keeps.onClip {s : State} {n : Nat} {rule : ClipRecord → Served} (h : ∀ c, Served.Keeps s (rule c)) :
    Served.Keeps s (s.onClip n rule) := by
  unfold State.onClip
  repeat' split
  case _ => exact Served.Keeps.refuse _ _
  case _ => exact Served.Keeps.refuse _ _
  case _ => exact h _

theorem Served.Keeps.ite {s : State} {c : Prop} [Decidable c] {x y : Served} (hx : c → Served.Keeps s x)
    (hy : ¬ c → Served.Keeps s y) : Served.Keeps s (if c then x else y) := by
  split
  case isTrue h => exact hx h
  case isFalse h => exact hy h

/-- A reply keeps what a step keeps (R23). -/
theorem reply_keeps (s : State) (p : Port) (tag n : Nat) (c : ReplyCode) (r : List Byte) : s.Keeps (s.reply p tag n c r) :=
  .of_calm (reply_calm _ _ _ _ _ _) (reply_quiet _ _ _ _ _)

theorem whenRunning_keeps {s : State} {f : State → State} (h : s.Keeps (f s)) : s.Keeps (s.whenRunning f) := by
  unfold State.whenRunning
  split
  · exact h
  · exact .refl s

theorem carryOut_keeps (s : State) (n : Nat) {rule : State → Port → Request → State}
    (h : ∀ t p r, State.Keeps t (rule t p r)) : s.Keeps (s.carryOut n rule) := by
  refine whenRunning_keeps ?_
  split
  · exact .refl s
  · split
    · exact (takeRequest_keeps s _).trans (h _ _ _)
    · exact .refl s

/-- A request row keeps what a step keeps if its rule does (R21 to R23). -/
theorem serve_keeps (s : State) (n : Nat) {rule : State → List Byte → Served}
    (h : ∀ t args, Served.Keeps t (rule t args)) : s.Keeps (s.serve n rule) := by
  refine carryOut_keeps s n fun t p r => ?_
  unfold State.answer
  split
  · exact reply_keeps _ _ _ _ _ _
  · next u y hy => exact (h t r.args (u, y) hy).trans (reply_keeps _ _ _ _ _ _)

section
variable (s : State) (args : List Byte)

theorem statusRead_keeps : Served.Keeps s (s.statusRead args) :=
  .withArgs _ fun _ => .done _ ⟨id, id, id, id, id⟩

theorem optionsRead_keeps : Served.Keeps s (s.optionsRead args) := .withArgs _ fun _ => .done _ (.refl s)

theorem portRolesSet_keeps : Served.Keeps s (s.portRolesSet args) := by
  have hset (p : Port) (roles : BitVec 5) : s.Keeps (s.setRoles p roles) :=
    .of_calm (modPort_calm _ _ _) fun h => modPort_quiet _ _ h id
  refine .withArgs _ fun a => ?_
  split
  · exact .refuse _ _
  · exact .ite (fun _ => .refuse _ _) fun _ => .ite (fun _ => .refuse _ _) fun _ =>
      .ite (fun _ => .done _ (hset _ _)) fun _ => .refuse _ _

theorem nameOf_id {port id : Nat} {e : EpName} (h : nameOf port id = some e) : 1 ≤ e.id ∧ e.id ≤ 15 := by
  unfold nameOf at h
  split at h
  · simp at h
  · split at h
    · next hid => cases h; exact hid
    · simp at h

theorem endpointAdd_keeps : Served.Keeps s (s.endpointAdd args) := by
  refine .withArgs _ fun a => ?_
  split
  · next e k t he _ _ =>
    refine .ite (fun _ => .refuse _ _) fun hnew => .ite (fun _ => .refuse _ _) fun _ =>
      .ite (fun _ => .refuse _ _) fun hroom => .done _ ?_
    exact insertEndpoint_keeps (by simpa using hnew) (nameOf_id he) (by omega)
  · exact .refuse _ _

theorem endpointRemove_keeps : Served.Keeps s (s.endpointRemove args) := by
  refine .withArgs _ fun a => ?_
  repeat' split
  case _ => exact .refuse _ _
  case _ => exact .refuse _ _
  case _ => exact .refuse _ _
  case _ => exact .refuse _ _
  case _ => exact .done _ (removeEndpoint_keeps _ _)

theorem endpointList_keeps : Served.Keeps s (s.endpointList args) := .withArgs _ fun _ => .done _ (.refl s)

theorem noticePortSet_keeps : Served.Keeps s (s.noticePortSet args) := by
  refine .withArgs _ fun n => ?_
  repeat' split
  case _ => exact .refuse _ _
  case _ => exact .done _ ⟨id, id, id, id, id⟩
  case _ => exact .refuse _ _

/-- A job's allocation changes the clip table alone (R40). -/
theorem allocate_keeps (a : JobArgs) (source : EpName) (dests : List EpName) (job : Nat) (clips : List Nat) :
    s.Keeps (s.allocate a source dests job clips) := by
  refine (State.Keeps.foldl (fun _ _ => ?_) _ s).trans ⟨id, id, id, id, id⟩
  exact ⟨id, id, id, id, id⟩

theorem jobAdd_keeps : Served.Keeps s (s.jobAdd args) := by
  refine .withArgs _ fun a => ?_
  repeat' split
  case _ source dests _ _ _ =>
    unfold State.enrol
    refine .ite (fun _ => .refuse _ _) fun _ => .ite (fun _ => .refuse _ _) fun _ =>
      .ite (fun _ => .refuse _ _) fun _ => ?_
    split
    · exact .refuse _ _
    · exact .ite (fun _ => .refuse _ _) fun _ => .done _ (allocate_keeps _ _ _ _ _ _)
  case _ => exact .refuse _ _
  case _ => exact .refuse _ _

theorem cancelJob_keeps (n : Nat) (j : JobRecord) : s.Keeps (s.cancelJob n j) :=
  .of_calm (calm_of_fixed_eq (cancelJob_fixed _ _ _)) fun h => cancelJob_quiet h n j

theorem jobCancel_keeps : Served.Keeps s (s.jobCancel args) :=
  .withArgs _ fun _ => .onJob fun _ => .ite (fun _ => .refuse _ _) fun _ =>
    .done _ ((cancelJob_keeps s _ _).trans (engineSettle_keeps _))

theorem modJob_keeps (n : Nat) (f : JobRecord → JobRecord) : s.Keeps (s.modJob n f) :=
  .of_calm (modJob_calm _ _ _) (modJob_quiet _ _).mpr

theorem modClip_keeps (n : Nat) (f : ClipRecord → ClipRecord) : s.Keeps (s.modClip n f) :=
  .of_calm (modClip_calm _ _ _) (modClip_quiet _ _).mpr

theorem jobResume_keeps : Served.Keeps s (s.jobResume args) :=
  .withArgs _ fun _ => .onJob fun _ => .ite (fun _ => .done _ (modJob_keeps _ _ _)) fun _ =>
    .refuse _ _

theorem removeJob_keeps (n : Nat) (j : JobRecord) : s.Keeps (s.removeJob n j) := by
  refine (State.Keeps.foldl (fun _ _ => ?_) _ s).trans ⟨id, id, id, id, id⟩
  exact ⟨id, id, id, id, id⟩

theorem jobRemove_keeps : Served.Keeps s (s.jobRemove args) :=
  .withArgs _ fun _ => .onJob fun _ => .ite (fun _ => .refuse _ _) fun _ =>
    .ite (fun _ => .refuse _ _) fun _ => .done _ (removeJob_keeps _ _ _)

theorem jobRead_keeps : Served.Keeps s (s.jobRead args) :=
  .withArgs _ fun _ => .onJob fun _ => .done _ (.refl s)

theorem clipRead_keeps : Served.Keeps s (s.clipRead args) :=
  .withArgs _ fun _ => .onClip fun _ => .done _ (.refl s)

theorem channelLimitSet_keeps : Served.Keeps s (s.channelLimitSet args) :=
  .withArgs _ fun _ => .ite (fun _ => .refuse _ _) fun _ => .onJob fun _ =>
    .done _ (modJob_keeps _ _ _)

theorem setOperator_keeps (b : Bool) : s.Keeps (s.setOperator b) := by
  unfold State.setOperator
  refine State.Keeps.trans ?_ (engineSettle_keeps _)
  exact ⟨id, id, id, id, id⟩

theorem offloadPause_keeps : Served.Keeps s (s.offloadPause args) := by
  have hsuspend (n : Nat) : s.Keeps (s.suspendJob n) :=
    .of_calm (calm_of_fixed_eq (suspendJob_fixed _ _)) fun h => suspendJob_quiet h n
  exact .withArgs _ fun _ => .ite (fun _ => .done _ (setOperator_keeps _ _)) fun _ => .onJob fun _ =>
    .ite (fun _ => .done _ ((hsuspend _).trans (engineSettle_keeps _))) fun _ => .refuse _ _

theorem offloadContinue_keeps : Served.Keeps s (s.offloadContinue args) :=
  .withArgs _ fun _ => .done _ (setOperator_keeps _ _)

theorem release_keeps (p : Port) (r : Request) (e : EpName) : s.Keeps (s.release p r e) := by
  have hdrain : s.Keeps { s.setEndpointState e .draining with
      control := { (s.setEndpointState e .draining).control with
        deferred := (s.setEndpointState e .draining).control.deferred ++ [Deferred.mk p r.tag r.number e] } } :=
    (setEndpointState_keeps s e .draining).trans ⟨id, id, id, id, id⟩
  unfold State.release
  refine State.Keeps.trans ?_ (engineSettle_keeps _)
  split
  · exact hdrain.trans (completeDrain_keeps _ _)
  · exact hdrain

theorem destRelease_keeps (p : Port) (r : Request) : s.Keeps (s.destRelease p r) := by
  unfold State.destRelease
  repeat' split
  case _ => exact reply_keeps _ _ _ _ _ _
  case _ => exact reply_keeps _ _ _ _ _ _
  case _ => exact release_keeps _ _ _ _

theorem softRestartRequest_keeps (p : Port) (r : Request) : s.Keeps (s.softRestartRequest p r) := by
  unfold State.softRestartRequest
  repeat' split
  case _ => exact reply_keeps _ _ _ _ _ _
  case _ hup =>
    exact State.Keeps.trans (.of_calm (modPort_calm s p _) fun h => modPort_quiet_of_up p _ h hup rfl) ⟨id, id, id, id, id⟩
  case _ => exact ⟨id, id, id, id, id⟩

theorem destReclaim_keeps : Served.Keeps s (s.destReclaim args) := by
  have hreclaim (e : EpName) : s.Keeps (s.reclaim e) :=
    (setEndpointState_keeps s e .online).trans
      (.of_calm (calm_of_fixed_eq (takeReturn_fixed _ _)) fun h => takeReturn_quiet h e)
  refine .withArgs _ fun a => ?_
  repeat' split
  case _ => exact .refuse _ _
  case _ => exact .refuse _ _
  case _ => exact .refuse _ _
  case _ => exact .refuse _ _
  case _ => exact .done _ ((hreclaim _).trans (engineSettle_keeps _))

theorem modSlot_keeps (k : Fin 16) (f : Slot → Slot) : s.Keeps (s.modSlot k f) := ⟨id, id, id, id, id⟩

theorem lookChanged_keeps (c : LookChange) : s.Keeps (s.lookChanged c) :=
  .of_calm (lookChanged_calm _ _) fun h => h.of_downPorts (lookChanged_downPorts _ _)

theorem lookBegin_keeps : Served.Keeps s (s.lookBegin args) := by
  refine .withArgs _ fun a => ?_
  split
  · exact .refuse _ _
  · exact .ite (fun _ => .refuse _ _) fun _ => .ite (fun _ => .refuse _ _) fun _ =>
      .done _ (modSlot_keeps _ _ _)

theorem lookDiscard_keeps : Served.Keeps s (s.lookDiscard args) := by
  refine .withArgs _ fun a => ?_
  split
  · exact .refuse _ _
  · exact .ite (fun _ => .refuse _ _) fun _ => .done _ (modSlot_keeps _ _ _)

theorem lookData_keeps : Served.Keeps s (s.lookData args) := by
  refine .withArgs _ fun a => ?_
  split
  · exact .refuse _ _
  · exact .ite (fun _ => .refuse _ _) fun _ => .ite (fun _ => .refuse _ _) fun _ =>
      .ite (fun _ => .refuse _ _) fun _ => .done _ (modSlot_keeps _ _ _)

theorem lookCommit_keeps : Served.Keeps s (s.lookCommit args) := by
  refine .withArgs _ fun a => ?_
  split
  · exact .refuse _ _
  · refine .ite (fun _ => .done _ ((modSlot_keeps _ _ _).trans (lookChanged_keeps _ _))) fun _ y hy => ?_
    cases hy
    exact .refl s

theorem directorySet_keeps : Served.Keeps s (s.directorySet args) := by
  refine .withArgs _ fun a => ?_
  split
  · exact .refuse _ _
  · refine .ite (fun _ => .refuse _ _) fun _ => .done _ ((?_ : s.Keeps _).trans (lookChanged_keeps _ _))
    exact ⟨id, id, id, id, id⟩

theorem clipSetLook_keeps : Served.Keeps s (s.clipSetLook args) := by
  refine .withArgs _ fun a => ?_
  repeat' split
  case _ => exact .refuse _ _
  case _ => exact .refuse _ _
  case _ => exact .refuse _ _
  case _ => exact .done _ ((modClip_keeps _ _ _).trans (lookChanged_keeps _ _))

theorem lookStatus_keeps : Served.Keeps s (s.lookStatus args) := by
  refine .withArgs _ fun a => ?_
  repeat' split
  case _ => exact .done _ (.refl s)
  case _ => exact .refuse _ _
  case _ => exact .done _ (.refl s)

theorem reviewOpen_keeps : Served.Keeps s (s.reviewOpen args) := by
  refine .withArgs _ fun a => ?_
  split
  · exact .refuse _ _
  · refine .ite (fun _ => .refuse _ _) fun _ => .ite (fun _ => .refuse _ _) fun _ =>
      .ite (fun _ => .refuse _ _) fun _ => .ite (fun _ => .refuse _ _) fun _ => .done _ ?_
    exact .of_calm (openStream_calm _ _ _) fun h => h.of_downPorts (openStream_downPorts _ _ _)

theorem reviewClose_keeps : Served.Keeps s (s.reviewClose args) :=
  .withArgs _ fun _ => .onStream fun st => .ite (fun _ => .refuse _ _) fun _ =>
    .done _ (.of_calm (closeStream_calm _ _) (closeStream_quiet st))

theorem reviewRead_keeps : Served.Keeps s (s.reviewRead args) :=
  .withArgs _ fun _ => .onStream fun _ => .done _ (.refl s)

theorem qcConfig_keeps : Served.Keeps s (s.qcConfig args) := by
  refine .withArgs _ fun a => ?_
  split
  · exact .refuse _ _
  · exact .done _ ⟨id, id, id, id, id⟩

theorem siteOf_range {tag line column : Nat} {d : DefectSite} (h : siteOf tag line column = some d) :
    d.line ≤ 2303 ∧ d.column ≤ 4095 := by
  unfold siteOf at h
  split at h
  · next hr => cases h; exact hr.2
  · simp at h

theorem defectAdd_keeps : Served.Keeps s (s.defectAdd args) := by
  refine .withArgs _ fun a => ?_
  split
  · exact .refuse _ _
  · next d hd =>
    exact .ite (fun _ => .done _ (.refl s)) fun _ => .ite (fun _ => .refuse _ _) fun hroom =>
      .done _ (mapSite_keeps (by omega) (siteOf_range hd))

theorem defectRemove_keeps : Served.Keeps s (s.defectRemove args) := by
  refine .withArgs _ fun a => ?_
  split
  · exact .refuse _ _
  · exact .ite (fun _ => .done _ (unmapSite_keeps _ _)) fun _ => .refuse _ _

theorem defectPromote_keeps : Served.Keeps s (s.defectPromote args) := by
  refine .withArgs _ fun a => .onStream fun st => .ite (fun _ => .refuse _ _) fun hr => ?_
  split
  · exact .refuse _ _
  · exact .ite (fun _ => .refuse _ _) fun _ => .ite (fun _ => .refuse _ _) fun hroom =>
      .done _ (mapSite_keeps (by omega) (by simp only []; omega))

theorem defectList_keeps : Served.Keeps s (s.defectList args) :=
  .withArgs _ fun _ => .ite (fun _ => .refuse _ _) fun _ => .done _ (.refl s)

theorem candidatesRead_keeps : Served.Keeps s (s.candidatesRead args) :=
  .withArgs _ fun _ => .onStream fun _ => .done _ (.refl s)

theorem faultTake_keeps : Served.Keeps s (s.faultTake args) := by
  have htake (n : Nat) (clear : Bool) : s.Keeps (s.takeFaults n clear) :=
    ⟨fun h => (by simp [State.takeFaults] : (s.takeFaults n clear).spotter.log.length ≤ s.spotter.log.length).trans h,
      id, id, id, id⟩
  refine .withArgs _ fun a => ?_
  split
  · exact .refuse _ _
  · exact .ite (fun _ => .refuse _ _) fun _ => .done _ (htake _ _)

theorem faultPeek_keeps : Served.Keeps s (s.faultPeek args) :=
  .withArgs _ fun _ => .ite (fun _ => .refuse _ _) fun _ => .done _ (.refl s)

theorem clipClearFaults_keeps : Served.Keeps s (s.clipClearFaults args) :=
  .withArgs _ fun _ => .onClip fun _ => .ite (fun _ => .refuse _ _) fun _ =>
    .done _ (modClip_keeps _ _ _)

theorem holdSet_keeps : Served.Keeps s (s.holdSet args) := by
  refine .withArgs _ fun a => ?_
  split
  · exact .done _ ⟨id, id, id, id, id⟩
  · exact .refuse _ _

theorem holdClear_keeps : Served.Keeps s (s.holdClear args) := by
  refine .withArgs _ fun a => ?_
  split
  · exact .refuse _ _
  · exact .ite (fun _ => .refuse _ _) fun _ => .done _ ⟨id, id, id, id, id⟩

theorem holdRelease_keeps : Served.Keeps s (s.holdRelease args) :=
  .withArgs _ fun _ => .onStream fun _ =>
    .ite
      (fun _ => .done _ (.of_calm (releaseHold_calm _ _) fun h => h.of_downPorts (releaseHold_downPorts _ _)))
      fun _ => .ite (fun _ => .done _ ⟨id, id, id, id, id⟩) fun _ => .refuse _ _

end

/-! ### Supply and restarts -/

theorem PortState.reset_idle (link : LinkState) (roles : BitVec 5) : (PortState.reset link roles).idle := by
  refine ⟨fun k => ?_, rfl, rfl, fun n => ?_, rfl, fun k => ?_, rfl, rfl⟩
  all_goals simp [PortState.reset, Credit.zero, AskEntry.free]

theorem modSupply_keeps (s : State) (f : SupplyUnit → SupplyUnit) : s.Keeps (s.modSupply f) := ⟨id, id, id, id, id⟩

theorem file_keeps (s : State) (f : Filing) : s.Keeps (s.file f) := .of_calm (file_calm _ _) (file_quiet _).mpr

theorem advanceTo_keeps (s : State) (t : Word64) : s.Keeps (s.advanceTo t) :=
  .of_calm (advanceTo_calm _ _) (advanceTo_quiet _).mpr

theorem setSupplyPause_keeps (s : State) (b : Bool) : s.Keeps (s.setSupplyPause b) := by
  unfold State.setSupplyPause
  split
  · refine State.Keeps.trans ?_ (engineSettle_keeps _)
    exact ⟨id, id, id, id, id⟩
  · exact .refl s

theorem enterWarn_keeps (s : State) : s.Keeps s.enterWarn := by
  unfold State.enterWarn
  split
  · exact .refl s
  · exact (((advanceTo_keeps _ _).trans (modSupply_keeps _ _)).trans (file_keeps _ _)).trans (setSupplyPause_keeps _ _)

theorem clearWarn_keeps (s : State) : s.Keeps s.clearWarn := by
  unfold State.clearWarn
  split
  · exact .refl s
  · exact ((advanceTo_keeps _ _).trans (modSupply_keeps _ _)).trans (setSupplyPause_keeps _ _)

theorem supplyResumes_keeps (s : State) : s.Keeps s.supplyResumes := by
  unfold State.supplyResumes
  split
  · exact .refl s
  · exact (advanceTo_keeps _ _).trans (modSupply_keeps _ _)

/-- The CRIT filter's end takes frames out of transmission (R173). -/
theorem beginBrownout_keeps (s : State) : s.Keeps s.beginBrownout := by
  have hsilence (t : State) : t.Keeps { t with link := { t.link with ports := t.link.ports.map PortState.silence } } := by
    refine .of_calm rfl fun h p hp => ?_
    simp only [State.port, Fin.getElem_fin, Vector.getElem_map] at hp ⊢
    obtain ⟨hq, _, _, hrest⟩ := h p hp
    exact ⟨hq, rfl, rfl, hrest⟩
  unfold State.beginBrownout
  split
  · exact .refl s
  · exact ((advanceTo_keeps _ _).trans (hsilence _)).trans (modSupply_keeps _ _)

/-- A restart empties the request queues and the ports, and keeps the names in the endpoint table (R12, R173, R174). -/
theorem restartBlocks_keeps (s : State) (o : Options) (d : Bool) (c : ResetCause) : s.Keeps (s.restartBlocks o d c) where
  log := id
  map := id
  queues _ p := by simp [State.restartBlocks, State.deferTable, ControlUnit.reset]
  endpoints := endpointsSound_map Endpoint.restart fun e => by unfold Endpoint.restart; split <;> rfl
  ports _ p _ := by
    have : (s.restartBlocks o d c).port p = PortState.reset .training (s.port p).roles := by
      simp [State.port, State.restartBlocks, State.deferTable, LinkUnit.restart]
    rw [this]
    exact PortState.reset_idle _ _

theorem fileBrownout_keeps (s : State) (was : SupplyState) : s.Keeps (s.fileBrownout was) := by
  unfold State.fileBrownout
  refine State.Keeps.trans ?_ (file_keeps _ _)
  exact ⟨id, id, id, id, id⟩

theorem brownout_keeps (s : State) (was : SupplyState) (block : Option (List Byte)) : s.Keeps (s.brownout was block) :=
  (restartBlocks_keeps s _ _ _).trans (fileBrownout_keeps _ _)

/-- A power-on restart empties every table (R175). -/
theorem powerOn_keeps (s : State) (block : Option (List Byte)) : s.Keeps (s.powerOn block) where
  log _ := Nat.zero_le _
  map _ := ⟨Nat.zero_le _, .nil, nofun⟩
  queues _ p := by simp [State.powerOn, ControlUnit.reset]
  endpoints _ := ⟨Nat.zero_le _, .nil, nofun⟩
  ports _ p _ := by
    have : (s.powerOn block).port p = PortState.reset .down ((optionsInUse block).roles[p]) := by
      simp [State.port, State.powerOn]
    rw [this]
    exact PortState.reset_idle _ _

/-! ### The engine's own steps -/

theorem activateJob_keeps (s : State) (n : Nat) : s.Keeps (s.activateJob n) := by
  unfold State.activateJob
  repeat' split
  case _ => exact .refl s
  case _ =>
    exact State.Keeps.trans (.of_calm (calm_of_fixed_eq (activate_fixed _ _ _)) fun h => activate_quiet h _ _)
      (engineSettle_keeps _)
  case _ => exact .refl s

/-- A binding leaves the four tables alone (R54, R96). -/
theorem bindClip_calm (s : State) (c : ChannelId) (n k : Nat) : (s.bindClip c n k).calm = s.calm := by
  unfold State.bindClip
  split
  · simp only []
    split
    · rfl
    · rw [calm_of_fixed_eq (failNoSource_fixed _ _ _ _)]; rfl
  · rfl

theorem arbitrate_keeps (s : State) : s.Keeps s.arbitrate := by
  unfold State.arbitrate
  split
  · exact .refl s
  · exact State.Keeps.trans (.of_calm (bindClip_calm _ _ _ _) fun h => bindClip_quiet h _ _ _) (engineSettle_keeps _)

theorem giveBuffer_keeps (s : State) : s.Keeps s.giveBuffer := by
  unfold State.giveBuffer
  repeat' split
  case _ => exact .refl s
  case _ => exact .refl s
  case _ =>
    exact State.Keeps.trans (.of_calm (calm_of_fixed_eq (modBinding_fixed _ _ _)) (modBinding_quiet _ _).mpr)
      (engineSettle_keeps _)

theorem finishDrain_keeps (s : State) (e : EpName) : s.Keeps (s.finishDrain e) := by
  unfold State.finishDrain
  split
  · exact (completeDrain_keeps _ _).trans (engineSettle_keeps _)
  · exact .refl s

theorem resumeEngine_keeps (s : State) : s.Keeps s.resumeEngine := by
  unfold State.resumeEngine
  split
  · exact .refl s
  · next t _ =>
    simp only []
    split
    · refine (advanceTo_keeps s t).trans (State.Keeps.trans ?_ (engineSettle_keeps _))
      exact ⟨id, id, id, id, id⟩
    · refine (advanceTo_keeps s t).trans ?_
      exact ⟨id, id, id, id, id⟩

/-! ### Every command -/

/-- An event of the pictures keeps what a step keeps. -/
theorem State.Keeps.of_pictures {s t : State} (hc : t.calm = s.calm) (hd : t.downPorts = s.downPorts) : s.Keeps t :=
  .of_calm hc fun h => h.of_downPorts hd

/-- Every command answers a next state, and keeps the bounds and orders of the tables and the idleness of the ports that are
not UP. -/
theorem exec_keeps (c : Instr) (s : State) : ∃ t, exec c s = .next t ∧ s.Keeps t := by
  cases c with
  | partnerDetected port =>
    refine ⟨_, rfl, whenRunning_keeps ?_⟩
    split
    · refine .of_calm (modPort_calm _ _ _) fun h => modPort_quiet _ _ h fun hp _ => hp ?_
      simp_all
    · exact .refl s
  | linkUp port =>
    refine ⟨_, rfl, whenRunning_keeps ?_⟩
    split
    · exact enterUp_keeps _ _
    · exact .refl s
  | linkDown port =>
    refine ⟨_, rfl, whenRunning_keeps ?_⟩
    split
    · exact .refl s
    · refine .of_calm (modPort_calm _ _ _) fun h => modPort_quiet _ _ h fun hp _ => hp ?_
      simp_all
    · exact leavePort_keeps _ _ _
  | packetFrameReceived port frame => exact ⟨_, rfl, whenRunning_keeps (receiveFrame_keeps _ _ _)⟩
  | creditFrameReceived port frame => exact ⟨_, rfl, whenRunning_keeps (receiveFrame_keeps _ _ _)⟩
  | creditFrameTimer port =>
    exact ⟨_, rfl, whenRunning_keeps (.of_calm (creditTimerEnds_calm _ _) fun h => creditTimerEnds_quiet h _)⟩
  | frameTransmitStart port =>
    exact ⟨_, rfl, whenRunning_keeps (.of_calm (startFrameOn_calm _ _) fun h => startFrameOn_quiet h _)⟩
  | frameTransmitEnd port =>
    exact ⟨_, rfl, whenRunning_keeps (.of_calm (endFrameOn_calm _ _) fun h => endFrameOn_quiet h _)⟩
  | askExpiry port entry =>
    exact ⟨_, rfl, whenRunning_keeps (.of_calm (expireAsk_calm _ _ _) fun h => expireAsk_quiet h _ _)⟩
  | askEntryGrant port =>
    exact ⟨_, rfl, whenRunning_keeps (.of_calm (grantEntry_calm _ _) fun h => grantEntry_quiet h _)⟩
  | unknownRequest =>
    refine ⟨_, rfl, whenRunning_keeps ?_⟩
    split
    · exact .refl s
    · split
      · exact .refl s
      · exact (takeRequest_keeps s _).trans (reply_keeps _ _ _ _ _ _)
  | statusRead => exact ⟨_, rfl, serve_keeps s _ statusRead_keeps⟩
  | softRestart => exact ⟨_, rfl, carryOut_keeps s _ softRestartRequest_keeps⟩
  | softRestartExecute =>
    refine ⟨_, rfl, whenRunning_keeps ?_⟩
    split
    · exact restartBlocks_keeps _ _ _ _
    · exact .refl s
  | optionsRead => exact ⟨_, rfl, serve_keeps s _ optionsRead_keeps⟩
  | portRolesSet => exact ⟨_, rfl, serve_keeps s _ portRolesSet_keeps⟩
  | endpointAdd => exact ⟨_, rfl, serve_keeps s _ endpointAdd_keeps⟩
  | endpointRemove => exact ⟨_, rfl, serve_keeps s _ endpointRemove_keeps⟩
  | endpointList => exact ⟨_, rfl, serve_keeps s _ endpointList_keeps⟩
  | noticePortSet => exact ⟨_, rfl, serve_keeps s _ noticePortSet_keeps⟩
  | jobAdd => exact ⟨_, rfl, serve_keeps s _ jobAdd_keeps⟩
  | jobCancel => exact ⟨_, rfl, serve_keeps s _ jobCancel_keeps⟩
  | jobResume => exact ⟨_, rfl, serve_keeps s _ jobResume_keeps⟩
  | jobRemove => exact ⟨_, rfl, serve_keeps s _ jobRemove_keeps⟩
  | jobRead => exact ⟨_, rfl, serve_keeps s _ jobRead_keeps⟩
  | clipRead => exact ⟨_, rfl, serve_keeps s _ clipRead_keeps⟩
  | channelLimitSet => exact ⟨_, rfl, serve_keeps s _ channelLimitSet_keeps⟩
  | offloadPause => exact ⟨_, rfl, serve_keeps s _ offloadPause_keeps⟩
  | offloadContinue => exact ⟨_, rfl, serve_keeps s _ offloadContinue_keeps⟩
  | destRelease => exact ⟨_, rfl, carryOut_keeps s _ destRelease_keeps⟩
  | destReclaim => exact ⟨_, rfl, serve_keeps s _ destReclaim_keeps⟩
  | lookBegin => exact ⟨_, rfl, serve_keeps s _ lookBegin_keeps⟩
  | lookData => exact ⟨_, rfl, serve_keeps s _ lookData_keeps⟩
  | lookCommit => exact ⟨_, rfl, serve_keeps s _ lookCommit_keeps⟩
  | lookDiscard => exact ⟨_, rfl, serve_keeps s _ lookDiscard_keeps⟩
  | directorySet => exact ⟨_, rfl, serve_keeps s _ directorySet_keeps⟩
  | clipSetLook => exact ⟨_, rfl, serve_keeps s _ clipSetLook_keeps⟩
  | lookStatus => exact ⟨_, rfl, serve_keeps s _ lookStatus_keeps⟩
  | reviewOpen => exact ⟨_, rfl, serve_keeps s _ reviewOpen_keeps⟩
  | reviewClose => exact ⟨_, rfl, serve_keeps s _ reviewClose_keeps⟩
  | reviewRead => exact ⟨_, rfl, serve_keeps s _ reviewRead_keeps⟩
  | qcConfig => exact ⟨_, rfl, serve_keeps s _ qcConfig_keeps⟩
  | defectAdd => exact ⟨_, rfl, serve_keeps s _ defectAdd_keeps⟩
  | defectRemove => exact ⟨_, rfl, serve_keeps s _ defectRemove_keeps⟩
  | defectPromote => exact ⟨_, rfl, serve_keeps s _ defectPromote_keeps⟩
  | defectList => exact ⟨_, rfl, serve_keeps s _ defectList_keeps⟩
  | candidatesRead => exact ⟨_, rfl, serve_keeps s _ candidatesRead_keeps⟩
  | faultTake => exact ⟨_, rfl, serve_keeps s _ faultTake_keeps⟩
  | faultPeek => exact ⟨_, rfl, serve_keeps s _ faultPeek_keeps⟩
  | clipClearFaults => exact ⟨_, rfl, serve_keeps s _ clipClearFaults_keeps⟩
  | holdSet => exact ⟨_, rfl, serve_keeps s _ holdSet_keeps⟩
  | holdClear => exact ⟨_, rfl, serve_keeps s _ holdClear_keeps⟩
  | holdRelease => exact ⟨_, rfl, serve_keeps s _ holdRelease_keeps⟩
  | noticeChoose => exact ⟨_, rfl, whenRunning_keeps (.of_calm (chooseNotice_calm _) fun h => chooseNotice_quiet h)⟩
  | jobActivation job => exact ⟨_, rfl, whenRunning_keeps (activateJob_keeps _ _)⟩
  | channelBind => exact ⟨_, rfl, whenRunning_keeps (arbitrate_keeps _)⟩
  | bufferTake => exact ⟨_, rfl, whenRunning_keeps (giveBuffer_keeps _)⟩
  | drainComplete port id => exact ⟨_, rfl, whenRunning_keeps (finishDrain_keeps _ _)⟩
  | resumeTimerExpiry => exact ⟨_, rfl, whenRunning_keeps (resumeEngine_keeps _)⟩
  | rasterTaken st => exact ⟨_, rfl, whenRunning_keeps (.of_pictures (takeRaster_calm _ _) (takeRaster_downPorts _ _))⟩
  | pacingTick st => exact ⟨_, rfl, whenRunning_keeps (.of_pictures (pacingTicks_calm _ _) (pacingTicks_downPorts _ _))⟩
  | stallTimerExpiry st =>
    exact ⟨_, rfl, whenRunning_keeps (.of_pictures (stallExpires_calm _ _) (stallExpires_downPorts _ _))⟩
  | regradeEnd st =>
    exact ⟨_, rfl, whenRunning_keeps (.of_pictures (finishRegrade_calm _ _) (finishRegrade_downPorts _ _))⟩
  | railLevelChange mv => exact ⟨_, rfl, modSupply_keeps _ _⟩
  | warnEntryFilter => exact ⟨_, rfl, whenRunning_keeps (enterWarn_keeps _)⟩
  | warnClearFilter => exact ⟨_, rfl, whenRunning_keeps (clearWarn_keeps _)⟩
  | supplyResumeTimer => exact ⟨_, rfl, whenRunning_keeps (supplyResumes_keeps _)⟩
  | critFilter => exact ⟨_, rfl, whenRunning_keeps (beginBrownout_keeps _)⟩
  | brownoutRestart block =>
    refine ⟨_, rfl, ?_⟩
    split
    · exact brownout_keeps _ _ _
    · exact .refl s
    · exact .refl s
  | powerOnRestart block =>
    refine ⟨_, rfl, ?_⟩
    split
    · exact powerOn_keeps _ _
    · exact .refl s

/-- One step keeps the bounds and orders of the tables and the idleness of the ports that are not UP. -/
theorem step_keeps {s t : State} (h : step s = .next t) : s.Keeps t := by
  unfold step at h
  split at h
  · cases h
    exact whenRunning_keeps (modSupply_keeps _ _)
  · next c rest _ =>
    obtain ⟨u, hu, hk⟩ := exec_keeps c (s.withPending rest)
    rw [hu] at h
    cases h
    have hrest : s.Keeps (s.withPending rest) := ⟨id, id, id, id, id⟩
    exact hrest.trans hk

/-! ### The statements -/

/-- Settles O4: every command keeps what `State.Keeps` names, the log's limit among it. -/
theorem stepKeepsLogLimit : Obligations.StepKeepsLogLimit := fun _ _ h hs => (step_keeps hs).log h

/-- Settles O5: every command keeps what `State.Keeps` names, the defect map's bound and order among it. -/
theorem stepKeepsDefectMap : Obligations.StepKeepsDefectMap := fun _ _ h hs => (step_keeps hs).map h

/-- Settles O6: every command keeps what `State.Keeps` names, the request queues' bound among it. -/
theorem stepKeepsRequestQueues : Obligations.StepKeepsRequestQueues := fun _ _ h hs => (step_keeps hs).queues h

/-- Settles O7: every command keeps what `State.Keeps` names, the endpoint table's bound and order among it. -/
theorem stepKeepsEndpointTable : Obligations.StepKeepsEndpointTable := fun _ _ h hs => (step_keeps hs).endpoints h

/-- Settles O56: every command keeps what `State.Keeps` names, the idleness of the ports that are not UP among it. -/
theorem stepKeepsDownPorts : Obligations.StepKeepsDownPorts := fun _ _ h hs => (step_keeps hs).ports h

end Sys2Proof.Machine
end

section
/-!
What filing a fault does, part by part (R34, R35, R131, R160, R165), what the state is after a power-on restart, and the path
of a request (R21 to R23).
-/

namespace Sys2Proof.Machine

/-! ### One clip or job changed -/

theorem State.clip?_lt {s : State} {n : Nat} {c : ClipRecord} (h : s.clip? n = some c) : n < 512 := by
  by_contra hn
  rw [State.clip?, Vector.getElem?_eq_none (by omega)] at h
  exact nomatch h

theorem State.job?_lt {s : State} {n : Nat} {j : JobRecord} (h : s.job? n = some j) : n < 16 := by
  by_contra hn
  rw [State.job?, Vector.getElem?_eq_none (by omega)] at h
  exact nomatch h

/-- A changed clip record reads back changed, and the others as they were. -/
theorem State.clip?_modClip (s : State) (n m : Nat) (f : ClipRecord → ClipRecord) :
    (s.modClip n f).clip? m = if n = m then (s.clip? m).map f else s.clip? m := by
  unfold State.modClip
  split
  case h_1 h =>
    split
    · next e => subst e; simp [h]
    · rfl
  case h_2 c h =>
    rw [State.clip?_setClip]
    by_cases e : n = m
    · subst e; simp [h, State.clip?_lt h]
    · simp [e]

theorem State.job?_modJob (s : State) (n m : Nat) (f : JobRecord → JobRecord) :
    (s.modJob n f).job? m = if n = m then (s.job? m).map f else s.job? m := by
  unfold State.modJob
  split
  case h_1 h =>
    split
    · next e => subst e; simp [h]
    · rfl
  case h_2 c h =>
    rw [State.job?_setJob]
    by_cases e : n = m
    · subst e; simp [h, State.job?_lt h]
    · simp [e]

section
variable (s : State) (n : Nat) (f : ClipRecord → ClipRecord)

@[simp] theorem State.modClip_link : (s.modClip n f).link = s.link := by unfold State.modClip; split <;> rfl
@[simp] theorem State.modClip_control : (s.modClip n f).control = s.control := by unfold State.modClip; split <;> rfl
@[simp] theorem State.modClip_offload : (s.modClip n f).offload = s.offload := by unfold State.modClip; split <;> rfl
@[simp] theorem State.modClip_look : (s.modClip n f).look = s.look := by unfold State.modClip; split <;> rfl
@[simp] theorem State.modClip_review : (s.modClip n f).review = s.review := by unfold State.modClip; split <;> rfl
@[simp] theorem State.modClip_spotter : (s.modClip n f).spotter = s.spotter := by unfold State.modClip; split <;> rfl
@[simp] theorem State.modClip_supply : (s.modClip n f).supply = s.supply := by unfold State.modClip; split <;> rfl
@[simp] theorem State.modClip_pending : (s.modClip n f).pending = s.pending := by unfold State.modClip; split <;> rfl
@[simp] theorem State.modClip_freeCount : (s.modClip n f).freeCount = s.freeCount := by unfold State.modClip; split <;> rfl
@[simp] theorem State.modClip_jobs : (s.modClip n f).table.jobs = s.table.jobs := by unfold State.modClip; split <;> rfl
@[simp] theorem State.modClip_admission : (s.modClip n f).table.admission = s.table.admission := by
  unfold State.modClip; split <;> rfl

end

/-! ### The three parts of a filing -/

/-- The log and the overflow count after a filing (R160). -/
def FaultSpotter.filed (x : FaultSpotter) (e : FaultEntry) : FaultSpotter :=
  if x.log.length < Config.faultLogLimit then { x with log := x.log ++ [e] }
  else { x with overflow := min (x.overflow + 1) 4294967295 }

theorem State.logFault_eq (s : State) (f : Filing) : s.logFault f = { s with spotter := s.spotter.filed (f.entry s.now) } := by
  unfold State.logFault FaultSpotter.filed
  split <;> rfl

@[simp] theorem FaultSpotter.filed_streams (x : FaultSpotter) (e : FaultEntry) : (x.filed e).streams = x.streams := by
  unfold FaultSpotter.filed; split <;> rfl

@[simp] theorem FaultSpotter.filed_defectMap (x : FaultSpotter) (e : FaultEntry) : (x.filed e).defectMap = x.defectMap := by
  unfold FaultSpotter.filed; split <;> rfl

@[simp] theorem FaultSpotter.filed_holds (x : FaultSpotter) (e : FaultEntry) : (x.filed e).holds = x.holds := by
  unfold FaultSpotter.filed; split <;> rfl

/-- The spotter with the hold points that a stream's match meets disarmed where they are one-shot (R165). -/
def FaultSpotter.disarmed (x : FaultSpotter) (st : StreamId) (p : HoldCondition → Bool) : FaultSpotter :=
  { x with holds := x.holds.map (disarmMatched st p) }

/-- The log after a filing, of a spotter with room or without. -/
theorem FaultSpotter.filed_of_room {x : FaultSpotter} (h : x.log.length < 128) (e : FaultEntry) :
    x.filed e = { x with log := x.log ++ [e] } := if_pos h

theorem FaultSpotter.filed_of_full {x : FaultSpotter} (h : 128 ≤ x.log.length) (e : FaultEntry) :
    x.filed e = { x with overflow := min (x.overflow + 1) 4294967295 } := if_neg (Nat.not_lt.mpr h)

section
variable (s : State) (f : Filing)

/-! #### What a filing leaves alone (R160) -/

@[simp] theorem State.countFault_link : (s.countFault f).link = s.link := by unfold State.countFault; split <;> simp
@[simp] theorem State.countFault_control : (s.countFault f).control = s.control := by unfold State.countFault; split <;> simp
@[simp] theorem State.countFault_offload : (s.countFault f).offload = s.offload := by unfold State.countFault; split <;> simp
@[simp] theorem State.countFault_look : (s.countFault f).look = s.look := by unfold State.countFault; split <;> simp
@[simp] theorem State.countFault_review : (s.countFault f).review = s.review := by unfold State.countFault; split <;> simp
@[simp] theorem State.countFault_spotter : (s.countFault f).spotter = s.spotter := by unfold State.countFault; split <;> simp
@[simp] theorem State.countFault_supply : (s.countFault f).supply = s.supply := by unfold State.countFault; split <;> simp
@[simp] theorem State.countFault_pending : (s.countFault f).pending = s.pending := by unfold State.countFault; split <;> simp
@[simp] theorem State.countFault_freeCount : (s.countFault f).freeCount = s.freeCount := by unfold State.countFault; split <;> simp
@[simp] theorem State.countFault_jobs : (s.countFault f).table.jobs = s.table.jobs := by unfold State.countFault; split <;> simp
@[simp] theorem State.countFault_admission : (s.countFault f).table.admission = s.table.admission := by
  unfold State.countFault; split <;> simp

end

section
variable (s : State) (st : StreamId) (p : HoldCondition → Bool)

@[simp] theorem State.matchHolds_link : (s.matchHolds st p).link = s.link := by unfold State.matchHolds; split <;> rfl
@[simp] theorem State.matchHolds_control : (s.matchHolds st p).control = s.control := by unfold State.matchHolds; split <;> rfl
@[simp] theorem State.matchHolds_offload : (s.matchHolds st p).offload = s.offload := by unfold State.matchHolds; split <;> rfl
@[simp] theorem State.matchHolds_look : (s.matchHolds st p).look = s.look := by unfold State.matchHolds; split <;> rfl
@[simp] theorem State.matchHolds_table : (s.matchHolds st p).table = s.table := by unfold State.matchHolds; split <;> rfl
@[simp] theorem State.matchHolds_supply : (s.matchHolds st p).supply = s.supply := by unfold State.matchHolds; split <;> rfl
@[simp] theorem State.matchHolds_pending : (s.matchHolds st p).pending = s.pending := by unfold State.matchHolds; split <;> rfl
@[simp] theorem State.matchHolds_freeCount : (s.matchHolds st p).freeCount = s.freeCount := by
  unfold State.matchHolds; split <;> rfl
@[simp] theorem State.matchHolds_streams : (s.matchHolds st p).spotter.streams = s.spotter.streams := by
  unfold State.matchHolds; split <;> rfl
@[simp] theorem State.matchHolds_defectMap : (s.matchHolds st p).spotter.defectMap = s.spotter.defectMap := by
  unfold State.matchHolds; split <;> rfl
@[simp] theorem State.matchHolds_log : (s.matchHolds st p).spotter.log = s.spotter.log := by
  unfold State.matchHolds; split <;> rfl
@[simp] theorem State.matchHolds_overflow : (s.matchHolds st p).spotter.overflow = s.spotter.overflow := by
  unfold State.matchHolds; split <;> rfl

theorem State.matchHolds_stream_ne {su : StreamId} (h : su ≠ st) : (s.matchHolds st p).stream su = s.stream su := by
  unfold State.matchHolds
  split
  · exact State.stream_modStream_ne _ _ h.symm
  · rfl

/-- Whether a point meets a stream's match (R165). -/
def HoldPoint.meets (st : StreamId) (p : HoldCondition → Bool) (h : HoldPoint) : Bool :=
  h.armed && h.stream == st && p h.condition

theorem State.holdMatches_eq : s.holdMatches st p = s.spotter.holds.toList.any fun h => h.any (·.meets st p) := by
  unfold State.holdMatches
  congr 1
  funext h
  cases h <;> rfl

/-- The stream's hold-pending mark after a match (R165). -/
theorem State.matchHolds_stream : (s.matchHolds st p).stream st =
    { s.stream st with
      holdPending := (s.stream st).holdPending || ((s.stream st).state.takes && s.holdMatches st p) } := by
  unfold State.matchHolds
  split
  case isTrue h =>
    rw [State.stream_modStream]
    simp [State.stream, h] at h ⊢
    simp [h]
  case isFalse h =>
    rw [Bool.not_eq_true] at h
    simp [h]

/-- The hold points after a match: those met that are one-shot are disarmed (R165). -/
theorem State.matchHolds_holds (k : Fin 4) : (s.matchHolds st p).spotter.holds[k] =
    (s.spotter.holds[k]).map fun h =>
      if ((s.stream st).state.takes && h.meets st p) && h.oneShot then { h with armed := false } else h := by
  have hdisarm (h : Option HoldPoint) : disarmMatched st p h =
      h.map fun x => if x.meets st p && x.oneShot then { x with armed := false } else x := rfl
  unfold State.matchHolds
  split
  case isTrue h =>
    rw [Bool.and_eq_true] at h
    cases hx : s.spotter.holds[k] <;> simp_all [State.modStream, HoldPoint.meets]
  case isFalse h =>
    cases hx : s.spotter.holds[k] with
    | none => rfl
    | some x =>
      have : ((s.stream st).state.takes && x.meets st p) = false := by
        by_contra hm
        rw [Bool.not_eq_false, Bool.and_eq_true] at hm
        refine h (by
          rw [Bool.and_eq_true]
          refine ⟨hm.1, ?_⟩
          rw [State.holdMatches_eq]
          exact List.any_eq_true.mpr ⟨some x, by rw [← hx]; simp, hm.2⟩)
      rw [Option.map_some, this, Bool.false_and, if_neg Bool.false_ne_true]

end

section
variable (s : State) (f : Filing)

@[simp] theorem State.logFault_link : (s.logFault f).link = s.link := by rw [State.logFault_eq]
@[simp] theorem State.logFault_control : (s.logFault f).control = s.control := by rw [State.logFault_eq]
@[simp] theorem State.logFault_offload : (s.logFault f).offload = s.offload := by rw [State.logFault_eq]
@[simp] theorem State.logFault_look : (s.logFault f).look = s.look := by rw [State.logFault_eq]
@[simp] theorem State.logFault_review : (s.logFault f).review = s.review := by rw [State.logFault_eq]
@[simp] theorem State.logFault_table : (s.logFault f).table = s.table := by rw [State.logFault_eq]
@[simp] theorem State.logFault_supply : (s.logFault f).supply = s.supply := by rw [State.logFault_eq]
@[simp] theorem State.logFault_pending : (s.logFault f).pending = s.pending := by rw [State.logFault_eq]
@[simp] theorem State.logFault_freeCount : (s.logFault f).freeCount = s.freeCount := by rw [State.logFault_eq]

@[simp] theorem State.file_link : (s.file f).link = s.link := by
  unfold State.file State.reportFault; split <;> simp
@[simp] theorem State.file_control : (s.file f).control = s.control := by
  unfold State.file State.reportFault; split <;> simp
@[simp] theorem State.file_offload : (s.file f).offload = s.offload := by
  unfold State.file State.reportFault; split <;> simp
@[simp] theorem State.file_look : (s.file f).look = s.look := by
  unfold State.file State.reportFault; split <;> simp
@[simp] theorem State.file_supply : (s.file f).supply = s.supply := by
  unfold State.file State.reportFault; split <;> simp
@[simp] theorem State.file_pending : (s.file f).pending = s.pending := by
  unfold State.file State.reportFault; split <;> simp
@[simp] theorem State.file_freeCount : (s.file f).freeCount = s.freeCount := by
  unfold State.file State.reportFault; split <;> simp
@[simp] theorem State.file_jobs : (s.file f).table.jobs = s.table.jobs := by
  unfold State.file State.reportFault; split <;> simp
@[simp] theorem State.file_admission : (s.file f).table.admission = s.table.admission := by
  unfold State.file State.reportFault; split <;> simp
@[simp] theorem State.file_streams : (s.file f).spotter.streams = s.spotter.streams := by
  unfold State.file State.reportFault; split <;> simp [State.logFault_eq]
@[simp] theorem State.file_defectMap : (s.file f).spotter.defectMap = s.spotter.defectMap := by
  unfold State.file State.reportFault; split <;> simp [State.logFault_eq]

@[simp] theorem State.file_port (p : Port) : (s.file f).port p = s.port p := by simp [State.port]
@[simp] theorem State.file_isUp (p : Port) : (s.file f).isUp p = s.isUp p := by simp [State.isUp]
@[simp] theorem State.file_job? (n : Nat) : (s.file f).job? n = s.job? n := by simp [State.job?]
@[simp] theorem State.file_channel (c : ChannelId) : (s.file f).channel c = s.channel c := by simp [State.channel]
@[simp] theorem State.file_spot (st : StreamId) : (s.file f).spot st = s.spot st := by simp [State.spot]
@[simp] theorem State.file_now : (s.file f).now = s.now := by simp [State.now]

/-! #### What a filing changes -/

/-- A filing's log and overflow count (R160). -/
theorem State.file_log : (s.file f).spotter.log = (s.spotter.filed (f.entry s.now)).log := by
  unfold State.file State.reportFault; split <;> simp [State.logFault_eq]

theorem State.file_overflow : (s.file f).spotter.overflow = (s.spotter.filed (f.entry s.now)).overflow := by
  unfold State.file State.reportFault; split <;> simp [State.logFault_eq]

theorem State.file_table : (s.file f).table = (s.countFault f).table := by
  have hcount : ((s.logFault f).countFault f).table = (s.countFault f).table := by
    have hclip (n : Nat) : (s.logFault f).clip? n = s.clip? n := by simp [State.clip?]
    unfold State.countFault
    split
    · simp
    · simp only [State.modClip, hclip]
      split <;> simp [State.setClip]
  unfold State.file State.reportFault
  split <;> simp [hcount]

/-- A filing's clips: the one it carries is counted (R34). -/
theorem State.file_clip? (n : Nat) : (s.file f).clip? n =
    if f.clip = some n then (s.clip? n).map (·.countFault f.kind.faultClass) else s.clip? n := by
  have : (s.file f).clip? n = (s.countFault f).clip? n := by simp only [State.clip?, State.file_table]
  rw [this]
  unfold State.countFault
  split
  case h_1 h => simp [h]
  case h_2 m h =>
    rw [State.clip?_modClip, h]
    simp only [Option.some.injEq]

theorem State.file_review_of_none (h : f.stream = none) : (s.file f).review = s.review := by
  simp [State.file, State.reportFault, h]

theorem State.file_holds_of_none (h : f.stream = none) : (s.file f).spotter.holds = s.spotter.holds := by
  simp [State.file, State.reportFault, h, State.logFault_eq]

theorem State.holdMatches_counted (st : StreamId) (p : HoldCondition → Bool) :
    ((s.logFault f).countFault f).holdMatches st p = s.holdMatches st p := by
  simp [State.holdMatches, State.logFault_eq]

theorem State.stream_counted (st : StreamId) : ((s.logFault f).countFault f).stream st = s.stream st := by
  simp [State.stream]

/-- The stream that a filing carries: its hold-pending mark and its frame's damaged mark (R131, R165). -/
theorem State.file_stream {st : StreamId} (h : f.stream = some st) : (s.file f).stream st =
    { (s.stream st).markDamaged f with
      holdPending := (s.stream st).holdPending ||
        ((s.stream st).state.takes && s.holdMatches st (HoldCondition.isFault f.kind)) } := by
  simp only [State.file, State.reportFault, h, State.stream_modStream, State.matchHolds_stream, State.stream_counted,
    State.holdMatches_counted]
  rfl

theorem State.file_stream_ne {st : StreamId} (h : f.stream ≠ some st) : (s.file f).stream st = s.stream st := by
  unfold State.file State.reportFault
  split
  · exact State.stream_counted s f st
  · next su hsu =>
    have hne : st ≠ su := fun e => h (by rw [hsu, e])
    rw [State.stream_modStream_ne _ _ hne.symm, State.matchHolds_stream_ne _ _ _ hne, State.stream_counted]

theorem State.file_holds {st : StreamId} (h : f.stream = some st) (k : Fin 4) : (s.file f).spotter.holds[k] =
    (s.spotter.holds[k]).map fun x =>
      if ((s.stream st).state.takes && x.meets st (HoldCondition.isFault f.kind)) && x.oneShot then { x with armed := false }
      else x := by
  have hholds : ((s.logFault f).countFault f).spotter.holds = s.spotter.holds := by simp [State.logFault_eq]
  simp only [State.file, State.reportFault, h, State.modStream_spotter, State.matchHolds_holds, State.stream_counted, hholds]

end

/-- A clip's record after a fault of a class (R34, R35). -/
theorem ClipRecord.countFault_eq (c : ClipRecord) (x : FaultClass) : c.countFault x =
    { c with
      copyFaults := if x = .copy then min (c.copyFaults + 1) 65535 else c.copyFaults
      pictureFaults := if x = .picture then min (c.pictureFaults + 1) 65535 else c.pictureFaults
      timingFaults := if x = .timing then min (c.timingFaults + 1) 65535 else c.timingFaults
      qc := if x ≠ .none ∧ c.qc = .clean then .flagged else c.qc } := by
  cases x <;> simp [ClipRecord.countFault, bumpCount]

theorem StreamState.takes_eq (x : StreamState) : x.takes = (x == .waiting || x == .running) := by cases x <;> rfl

theorem HoldCondition.isFault_eq (k : FaultKind) (c : HoldCondition) : HoldCondition.isFault k c = (c == .fault k) := by
  cases c with
  | frame clip number => rfl
  | fault k' => simp [HoldCondition.isFault, Bool.beq_eq_decide_eq]

theorem FrameInProgress.named_iff (x : FrameInProgress) (f : Filing) :
    x.named f = true ↔ x.refused = false ∧ f.clip = some x.clip ∧ f.frame = some x.number := by
  simp [FrameInProgress.named, and_assoc]

/-- Settles O3: the log, the clip's counts, the hold points and the frame each have their own lemma above. -/
theorem filingRecorded : Obligations.FilingRecorded := by
  unfold Obligations.FilingRecorded
  intro s f
  refine ⟨fun h => ?_, fun h => ?_, fun n c hf hc => ?_, fun n hn => ?_, fun h => ?_, fun st h => ?_, ?_⟩
  · rw [State.file_log, State.file_overflow, FaultSpotter.filed_of_room h]
    exact ⟨rfl, rfl⟩
  · rw [State.file_log, State.file_overflow, FaultSpotter.filed_of_full h]
    exact ⟨rfl, rfl⟩
  · rw [State.file_clip?, if_pos hf, hc, Option.map_some, ClipRecord.countFault_eq]
  · rw [State.file_clip?, if_neg hn]
  · exact ⟨s.file_review_of_none f h, s.file_holds_of_none f h⟩
  · have hmeets (x : HoldPoint) : ((s.stream st).state.takes && x.meets st (HoldCondition.isFault f.kind)) =
        (((s.stream st).state == .waiting || (s.stream st).state == .running) && x.armed && x.stream == st &&
          x.condition == .fault f.kind) := by
      simp only [HoldPoint.meets, StreamState.takes_eq, HoldCondition.isFault_eq, Bool.and_assoc]
    refine ⟨fun k => ?_, ?_, fun y hy => s.file_stream_ne f (by simpa [h] using hy.symm)⟩
    · rw [s.file_holds f h]; simp only [hmeets]
    · rw [s.file_stream f h, State.holdMatches_eq]
      have hpending : ((s.stream st).state.takes &&
          s.spotter.holds.toList.any fun x => x.any (·.meets st (HoldCondition.isFault f.kind))) =
          s.spotter.holds.toList.any fun x => x.any fun x =>
            ((s.stream st).state == .waiting || (s.stream st).state == .running) && x.armed && x.stream == st &&
              x.condition == .fault f.kind := by
        simp only [← hmeets]
        cases (s.stream st).state.takes with
        | true => simp
        | false => symm; rw [Bool.false_and, List.any_eq_false]; rintro (_ | x) - <;> simp
      simp only [hpending, Stream.markDamaged, FrameInProgress.named_iff]
  · simp

/-! ### Steps and the reset state -/

/-- Settles O1, by the definition of a step. -/
theorem stepRunsFront : Obligations.StepRunsFront := by
  intro s c rest h
  simp [step, h]

/-- Settles O8: every part of `State.reset` is a table of equal entries. -/
theorem resetLeaves : Obligations.ResetLeaves := by
  have hport (p : Port) : State.reset.port p = PortState.reset .down 0x1F#5 := by simp [State.port, State.reset]
  have hslot (k : Fin 16) : State.reset.slot k = ⟨none, .empty, Bank.empty, Bank.empty⟩ := by
    simp [State.slot, State.reset, LookEngine.reset]
  have hstream (st : StreamId) : State.reset.stream st = Stream.closed StreamParams.none := by
    simp [State.stream, State.reset]
  refine ⟨fun p => ?_, rfl, fun n => ?_, fun n => ?_, rfl, rfl, rfl, rfl, fun c => ?_, rfl, rfl, rfl, fun k => ?_, fun n => ?_,
    fun st => ?_, fun k => ?_, rfl, rfl, rfl, rfl, rfl, rfl, Nat.zero_le _, ⟨Nat.zero_le _, .nil, nofun⟩, fun p => ?_,
    ⟨Nat.zero_le _, .nil, nofun⟩, fun p _ => ?_⟩
  · rw [hport]
    refine ⟨rfl, fun k => ?_, rfl, fun n => ?_⟩
    · simp [PortState.reset]
    · simp [PortState.reset, AskEntry.free]
  · by_cases hn : n < 512 <;> simp [State.clip?, State.reset, ClipTable.reset, hn]
  · by_cases hn : n < 16 <;> simp [State.job?, State.reset, ClipTable.reset, hn]
  · simp [State.channel, State.reset, OffloadEngine.reset]
  · rw [hslot]
    exact ⟨rfl, rfl, rfl⟩
  · by_cases hn : n < 64 <;> simp [State.directoryAt, State.reset, LookEngine.reset, hn]
  · rw [hstream]
    exact ⟨rfl, rfl⟩
  · simp [State.reset, FaultSpotter.reset]
  · simp [State.reset, ControlUnit.reset]
  · rw [hport]
    exact PortState.reset_idle _ _

/-! ### Requests -/

theorem State.isUp_eq_false (s : State) (p : Port) : s.isUp p = false ↔ (s.port p).link ≠ .up := by simp [State.isUp]

/-- The queue of a class after a packet joined it, and the others (R9). -/
theorem PortState.queueOf_enqueue (x : PortState) (c d : PacketClass) (pk : Packet) :
    (x.enqueue c pk).queueOf d = if d.index = c.index then x.queueOf c ++ [pk] else x.queueOf d := by
  simp only [PortState.queueOf, PortState.enqueue, Fin.getElem_fin, Vector.getElem_set, Fin.val_inj, eq_comm]

theorem PacketClass.index_injective {c d : PacketClass} (h : c.index = d.index) : c = d := by
  have hraster (st : StreamId) : (PacketClass.raster st).index.val = 2 + st.val := by
    fin_cases st <;> rfl
  cases c with
  | control =>
    cases d with
    | control => rfl
    | bulk => exact absurd h (by decide)
    | raster st => have := hraster st; rw [← h] at this; exact absurd this (by simp [PacketClass.index]; omega)
  | bulk =>
    cases d with
    | bulk => rfl
    | control => exact absurd h (by decide)
    | raster st => have := hraster st; rw [← h] at this; exact absurd this (by simp [PacketClass.index]; omega)
  | raster st =>
    cases d with
    | control => have := hraster st; rw [h] at this; exact absurd this (by simp [PacketClass.index]; omega)
    | bulk => have := hraster st; rw [h] at this; exact absurd this (by simp [PacketClass.index]; omega)
    | raster su =>
      congr 1
      have hst := hraster st
      rw [h, hraster su] at hst
      exact Fin.ext (by omega)

/-- A reply joins the control queue of an UP port (R23). -/
theorem State.reply_of_up {s : State} {p : Port} (h : s.isUp p = true) (tag n : Nat) (c : ReplyCode) (r : List Byte) :
    s.reply p tag n c r = s.modPort p (·.enqueue .control (replyPacket tag n c r .reply)) := by
  simp [State.reply, h]

theorem State.reply_of_not_up {s : State} {p : Port} (h : s.isUp p = false) (tag n : Nat) (c : ReplyCode) (r : List Byte) :
    s.reply p tag n c r = s := by
  simp [State.reply, h]

/-- The first port after `q`, in circular order, at which `f` answers (R21). -/
theorem findSome?_portsAfter {β : Type} (f : Port → Option β) (q : Port) (b : β) :
    (portsAfter q).findSome? f = some b ↔
      ∃ k : Fin 4, f (q + 1 + k) = some b ∧ ∀ j : Fin 4, j < k → f (q + 1 + j) = none := by
  have hports : portsAfter q = [0, 1, 2, 3].map (q + 1 + ·) := by revert q; decide
  rw [hports, List.findSome?_map]
  generalize hg : (fun k : Fin 4 => f (q + 1 + k)) = g
  have hf (k : Fin 4) : f (q + 1 + k) = g k := by rw [← hg]
  have hcomp : (f ∘ fun k : Fin 4 => q + 1 + k) = g := hg
  simp only [hcomp, hf]
  cases h0 : g 0 <;> cases h1 : g 1 <;> cases h2 : g 2 <;> cases h3 : g 3 <;>
    simp [Fin.exists_fin_succ, Fin.forall_fin_succ, h0, h1, h2, h3]

/-- The request taken next, by the arbiter's order (R21). -/
theorem State.nextRequest_eq_some {s : State} (hs : s.control.softRestart = .none) (p : Port) (r : Request) :
    s.nextRequest = some (p, r) ↔
      ∃ k : Fin 4, p = s.control.lastServed + 1 + k ∧ (s.control.queues[p]).head? = some r ∧
        ∀ j : Fin 4, j < k → s.control.queues[s.control.lastServed + 1 + j] = [] := by
  rw [State.nextRequest, if_pos hs, findSome?_portsAfter]
  refine exists_congr fun k => ?_
  simp only [State.oldestRequest, Option.map_eq_some_iff, Option.map_eq_none_iff, List.head?_eq_none_iff, Prod.mk.injEq]
  constructor
  · rintro ⟨⟨x, hx, rfl, rfl⟩, hj⟩
    exact ⟨rfl, hx, hj⟩
  · rintro ⟨rfl, hx, hj⟩
    exact ⟨⟨r, hx, rfl, rfl⟩, hj⟩

/-- Every request row carries out a rule under its number (R21). -/
theorem exec_of_request {c : Instr} {n : Nat} (h : c.request = some n) :
    ∃ rule, ∀ s, exec c s = .next (s.carryOut n rule) := by
  cases c <;> cases h <;> exact ⟨_, fun _ => rfl⟩

/-- Settles O2. -/
theorem requestsTakenAndAnswered : Obligations.RequestsTakenAndAnswered := by
  unfold Obligations.RequestsTakenAndAnswered
  refine ⟨fun s p r hs => ⟨State.nextRequest_eq_some hs p r, rfl, fun q => ?_⟩, fun s p r h => ⟨fun c n hc hn => ?_, ?_⟩,
    fun s p tag n code result => ⟨fun hup => ⟨?_, fun c hc => ?_⟩, fun hup => s.reply_of_not_up ?_ tag n code result⟩⟩
  · by_cases hq : q = p
    · subst hq; simp [State.takeRequest]
    · have : p.val ≠ q.val := fun e => hq (Fin.ext e.symm)
      simp [State.takeRequest, hq, this]
  · obtain ⟨rule, hrule⟩ := exec_of_request hc
    rw [hrule, State.carryOut_other h hn]
  · have hexec : exec .unknownRequest s =
        .next (if knownRequest r.number then s else (s.takeRequest p).answered p r .unknownRequest []) := by
      show Host.Outcome.next (s.whenRunning _) = _
      rw [State.whenRunning_running h.1, h.2]
      rfl
    rw [hexec, ← apply_ite Host.Outcome.next]
    congr 1
    refine if_congr ?_ rfl rfl
    simp [knownRequest, or_assoc]
  · rw [State.reply_of_up hup, State.port_modPort, PortState.queueOf_enqueue, if_pos rfl]
    rfl
  · rw [State.reply_of_up hup, State.port_modPort, PortState.queueOf_enqueue,
      if_neg fun e => hc (PacketClass.index_injective e)]
  · exact hup

end Sys2Proof.Machine
end

section
/-!
Bytes on the wire and in files: what a frame laid out reads as (section 1.7, R4), what folding extents gives (R75, R76), and
the pacing schedule (R136).
-/

namespace Sys2Proof.Machine

/-! ### Byte order (section 1.7) -/

@[simp] theorem beBytes_length (n v : Nat) : (beBytes n v).length = n := by
  induction n with
  | zero => rfl
  | succ n ih => simp [beBytes, ih]

theorem beNat_append_byte (bs : List Byte) (b : Byte) : beNat (bs ++ [b]) = beNat bs * 256 + b.toNat := by
  simp [beNat]

theorem beBytes_succ_last (n v : Nat) : beBytes (n + 1) v = beBytes n (v / 256) ++ [BitVec.ofNat 8 v] := by
  induction n generalizing v with
  | zero => simp [beBytes]
  | succ n ih =>
    rw [beBytes, ih]
    show _ = BitVec.ofNat 8 (v / 256 / 256 ^ n) :: beBytes n (v / 256) ++ _
    rw [Nat.div_div_eq_div_mul, Nat.pow_succ']
    rfl

/-- Bytes laid out read back as the number they were laid out for. -/
theorem beNat_beBytes (n v : Nat) : beNat (beBytes n v) = v % 256 ^ n := by
  induction n generalizing v with
  | zero => simp [beBytes, beNat, Nat.mod_one]
  | succ n ih =>
    have hsplit : v % 256 ^ (n + 1) = v % 256 + 256 * (v / 256 % 256 ^ n) := by rw [Nat.pow_succ', Nat.mod_mul]
    rw [beBytes_succ_last, beNat_append_byte, ih, BitVec.toNat_ofNat, hsplit]
    omega

theorem beBytes_two (v : Nat) : beBytes 2 v = [BitVec.ofNat 8 (v / 256), BitVec.ofNat 8 v] := by
  simp [beBytes]

theorem beBytes_four (v : Nat) : beBytes 4 v =
    [BitVec.ofNat 8 (v / 16777216), BitVec.ofNat 8 (v / 65536), BitVec.ofNat 8 (v / 256), BitVec.ofNat 8 v] := by
  simp [beBytes]

/-- The two bytes of a word are its halves. -/
theorem append_beBytes (a : Word16) :
    (BitVec.ofNat 8 (a.toNat / 256) ++ BitVec.ofNat 8 a.toNat : BitVec 16) = a := by
  apply BitVec.eq_of_toNat_eq
  have ha : a.toNat < 65536 := a.isLt
  show (BitVec.ofNat 8 (a.toNat / 256) ++ BitVec.ofNat 8 a.toNat : BitVec (8 + 8)).toNat = a.toNat
  rw [BitVec.toNat_append, BitVec.toNat_ofNat, BitVec.toNat_ofNat, ← Nat.shiftLeft_add_eq_or_of_lt (by omega),
    Nat.shiftLeft_eq]
  omega

/-! ### Checks (R4) -/

theorem crcFeed_append_byte {w : Nat} (poly reg : BitVec w) (bs : List Byte) (b : Byte) :
    crcFeed poly reg (bs ++ [b]) = crcByte poly (crcFeed poly reg bs) b := by
  simp [crcFeed]

theorem crcFeed_append {w : Nat} (poly reg : BitVec w) (xs ys : List Byte) :
    crcFeed poly reg (xs ++ ys) = crcFeed poly (crcFeed poly reg xs) ys := by
  simp [crcFeed]

theorem crc8_append_byte (bs : List Byte) (b : Byte) : crc8 (bs ++ [b]) =
    Nat.repeat (fun (r : Byte) => if r.getLsbD 7 then (r <<< 1) ^^^ 0x07 else r <<< 1) 8 (crc8 bs ^^^ b) := by
  rw [crc8, crcFeed_append_byte]
  simp [crcByte, crc8]
  rfl

theorem crc32_append_byte (bs : List Byte) (b : Byte) : ~~~ crc32 (bs ++ [b]) =
    Nat.repeat (fun (r : Word32) => if r.getLsbD 31 then (r <<< 1) ^^^ 0x04C11DB7 else r <<< 1) 8
      (~~~ crc32 bs ^^^ (b.setWidth 32 <<< 24)) := by
  simp only [crc32, BitVec.not_not, crcFeed_append_byte]
  rfl

/-! ### Packet frames (section 1.7) -/

/-- A header of fields in range, with its header check, reads as those fields (R4). -/
theorem parseHeader_headerBytes {kind endpoint stream tag length : Nat} (hk : kind < 256) (he : endpoint < 256)
    (hs : stream < 256) (ht : tag < 65536) (hl : length ≤ 262144) (rest : List Byte) :
    parseHeader (headerBytes kind endpoint stream tag length ++ [crc8 (headerBytes kind endpoint stream tag length)] ++ rest) =
      some ⟨kind, endpoint, stream, tag, length⟩ := by
  have hlength : beNat (beBytes 4 length) = length := by rw [beNat_beBytes, Nat.mod_eq_of_lt (by omega)]
  have htag : beNat (beBytes 2 tag) = tag := by rw [beNat_beBytes, Nat.mod_eq_of_lt (by omega)]
  have hb {n : Nat} (hn : n < 256) : (byteOf n).toNat = n := by simp [byteOf, Nat.mod_eq_of_lt hn]
  rw [beBytes_two] at htag
  rw [beBytes_four] at hlength
  have hfits : length ≤ Config.maxPayload := hl
  simp [parseHeader, headerBytes, beBytes_two, beBytes_four, hlength, htag, hb hk, hb he, hb hs, hfits]

theorem headerBytes_length (kind endpoint stream tag length : Nat) :
    (headerBytes kind endpoint stream tag length).length = 10 := by simp [headerBytes]

/-- What a frame with a good header reads as: its stated payload, and whether the rest is the CRC-32 of all before (R4). -/
theorem parsePacket_headerBytes {kind endpoint stream tag length : Nat} (hk : kind < 256) (he : endpoint < 256)
    (hs : stream < 256) (ht : tag < 65536) (hl : length ≤ 262144) (rest : List Byte) :
    let front := headerBytes kind endpoint stream tag length ++ [crc8 (headerBytes kind endpoint stream tag length)]
    parsePacket (front ++ rest) = some ⟨⟨kind, endpoint, stream, tag, length⟩, rest.take length,
      rest.length == 4 + length &&
        rest.drop length == beBytes 4 (crc32 (front ++ rest.take length)).toNat⟩ := by
  intro front
  have hfront : front.length = 11 := by simp [front, headerBytes_length]
  have hlen : ((front ++ rest).length == 15 + length) = (rest.length == 4 + length) := by
    rw [Bool.eq_iff_iff, beq_iff_eq, beq_iff_eq, List.length_append, hfront]
    omega
  rw [parsePacket, parseHeader_headerBytes hk he hs ht hl]
  simp only [hlen, ← hfront, List.drop_length_add_append, List.take_length_add_append, List.drop_left]

theorem parsePacket_of_short {kind endpoint stream tag length : Nat} (hk : kind < 256) (he : endpoint < 256)
    (hs : stream < 256) (ht : tag < 65536) (hl : length ≤ 262144) {rest : List Byte} (hrest : rest.length ≠ length + 4) :
    parsePacket (headerBytes kind endpoint stream tag length ++ [crc8 (headerBytes kind endpoint stream tag length)] ++ rest) =
      some ⟨⟨kind, endpoint, stream, tag, length⟩, rest.take length, false⟩ := by
  have : (rest.length == 4 + length) = false := by simp; omega
  rw [parsePacket_headerBytes hk he hs ht hl, this, Bool.false_and]

/-- A whole frame reads as its header and payload, and its CRC-32 is right exactly when its last four bytes are it (R4). -/
theorem parsePacket_of_whole {kind endpoint stream tag : Nat} (hk : kind < 256) (he : endpoint < 256) (hs : stream < 256)
    (ht : tag < 65536) {payload : List Byte} (hl : payload.length ≤ 262144) {check : List Byte} (hc : check.length = 4) :
    let header := headerBytes kind endpoint stream tag payload.length
    let body := header ++ [crc8 header] ++ payload
    parsePacket (body ++ check) = some ⟨⟨kind, endpoint, stream, tag, payload.length⟩, payload,
      decide (check = beBytes 4 (crc32 body).toNat)⟩ := by
  intro header body
  have hwhole : ((payload ++ check).length == 4 + payload.length) = true := by simp [hc, Nat.add_comm]
  rw [List.append_assoc _ payload, parsePacket_headerBytes hk he hs ht hl, hwhole]
  simp only [List.take_left, List.drop_left, Bool.true_and, Bool.beq_eq_decide_eq]
  rfl

/-- Four totals laid out with four bytes after them read as those totals, if the bytes are the CRC-32 (R4, R8). -/
theorem parseCredit_of_whole (a b c d : Word16) {check : List Byte} (hc : check.length = 4) :
    let body := [2] ++ beBytes 2 a.toNat ++ beBytes 2 b.toNat ++ beBytes 2 c.toNat ++ beBytes 2 d.toNat
    parseCredit (body ++ check) = if check = beBytes 4 (crc32 body).toNat then some (a, b, c, d) else none := by
  match check, hc with
  | [e, f, g, h], _ =>
    simp only [beBytes_two, parseCredit, List.cons_append, List.nil_append, List.drop_succ_cons, List.drop_zero,
      List.take_succ_cons, List.take_zero, append_beBytes]

theorem parseCredit_of_length_ne {frame : List Byte} (h : frame.length ≠ 13) : parseCredit frame = none := by
  unfold parseCredit
  split
  · exact absurd rfl h
  · rfl

/-- Settles O9. -/
theorem packetFrameRoundTrip : Obligations.PacketFrameRoundTrip := by
  refine ⟨fun kind endpoint stream tag payload hk he hs ht hl => ⟨rfl, fun check hc => ⟨rfl, ?_⟩, fun rest hrest => ?_⟩,
    fun a b c d => ⟨?_, fun check hc => ⟨rfl, parseCredit_of_whole a b c d hc⟩⟩, fun frame h => parseCredit_of_length_ne h,
    rfl, rfl, fun bs b => ⟨crc8_append_byte bs b, crc32_append_byte bs b⟩⟩
  · exact parsePacket_of_whole hk he hs ht hl hc
  · exact parsePacket_of_short hk he hs ht hl hrest
  · simp [creditFrameBytes, byteOf]

/-! ### Folded extents (R75, R76) -/

theorem ClipRecord.fold_of_ne {r : ClipRecord} {k : Nat} (h : k ≠ r.hashed) (data : List Byte) : r.fold k data = r := if_neg h

/-- The record after the first `n` of the extents `xs` have been folded (R75). -/
def ClipRecord.foldedTo (c : ClipRecord) (xs : List (List Byte)) (n : Nat) : ClipRecord :=
  { c with
    hashed := n
    register := crc64Feed c.register (xs.take n).flatten
    fileCrc := if n ≠ 0 ∧ n = c.extents then some (crc64Final (crc64Feed c.register (xs.take n).flatten)) else c.fileCrc }

/-- One more extent folded: while the last extent is not reached there is no file CRC to keep. -/
theorem ClipRecord.fold_foldedTo {c : ClipRecord} {xs : List (List Byte)} {n : Nat} (hc : c.extents = xs.length)
    (hn : n < xs.length) : (c.foldedTo xs n).fold n xs[n] = c.foldedTo xs (n + 1) := by
  have htake : (xs.take (n + 1)).flatten = (xs.take n).flatten ++ xs[n] := by
    rw [List.take_succ_eq_append_getElem hn, List.flatten_append, List.flatten_singleton]
  have hextents : (c.foldedTo xs n).extents = c.extents := rfl
  have hne : n ≠ c.extents := by omega
  rw [ClipRecord.fold, if_pos (show n = (c.foldedTo xs n).hashed from rfl), hextents]
  simp [ClipRecord.foldedTo, htake, crc64Feed, crcFeed_append, hne]

theorem ClipRecord.fold_take {c : ClipRecord} {xs : List (List Byte)} (h0 : c.hashed = 0) (hc : c.extents = xs.length)
    {n : Nat} (hn : n ≤ xs.length) :
    (xs.take n).zipIdx.foldl (fun r xk => r.fold xk.2 xk.1) c = c.foldedTo xs n := by
  induction n with
  | zero =>
    cases c
    cases h0
    rfl
  | succ n ih =>
    have hlt : n < xs.length := hn
    rw [List.take_succ_eq_append_getElem hlt, List.zipIdx_append, List.foldl_append, ih (by omega)]
    simp only [List.length_take, Nat.min_eq_left hlt.le, List.zipIdx_singleton, List.foldl_cons, List.foldl_nil, Nat.zero_add]
    exact c.fold_foldedTo hc hlt

/-- Settles O34: folding the first `n` extents gives the register of their bytes. -/
theorem foldedFileCrc : Obligations.FoldedFileCrc := by
  intro c xs h0 hreg hcrc hc hne after
  have hafter {n : Nat} (hn : n ≤ xs.length) : after n = c.foldedTo xs n := c.fold_take h0 hc hn
  have hpos : xs.length ≠ 0 := by simpa using hne
  refine ⟨?_, fun n hn => ?_, fun n hn => ?_, fun n hn k hk data => ?_⟩
  · rw [hafter le_rfl]
    simp [ClipRecord.foldedTo, hc, hpos, hreg, crc64, crc64Start]
  · rw [hafter hn.le]
    have : n ≠ c.extents := by omega
    simp [ClipRecord.foldedTo, this, hcrc]
  · rw [hafter hn]
    exact ⟨rfl, rfl, rfl⟩
  · rw [hafter hn]
    exact ClipRecord.fold_of_ne (show k ≠ n by omega) data

/-! ### The pacing schedule (R136) -/

/-- Where the timer stands after `n` ticks from tick 0 of `o`: the tick index counts modulo the rate's numerator, and each
return to 0 has moved the origin on by the rate's denominator in seconds. -/
def Stream.paced (x : Stream) (o : Word64) (n : Nat) : Stream :=
  { x with
    origin := some (o + BitVec.ofNat 64 (n / x.params.rateNum * (x.params.rateDen * 1000000)))
    tick := n % x.params.rateNum }

theorem Stream.paced_zero {x : Stream} {o : Word64} (ho : x.origin = some o) (ht : x.tick = 0) : x.paced o 0 = x := by
  cases x
  simp_all [Stream.paced]

/-- One more tick. -/
theorem Stream.nextTick_paced (x : Stream) (o : Word64) (n : Nat) (h : 0 < x.params.rateNum) :
    (x.paced o n).nextTick = x.paced o (n + 1) := by
  have hmod : n % x.params.rateNum < x.params.rateNum := Nat.mod_lt _ h
  have hn := Nat.div_add_mod n x.params.rateNum
  by_cases hlast : n % x.params.rateNum + 1 ≥ x.params.rateNum
  · obtain ⟨hq, hr⟩ : (n + 1) / x.params.rateNum = n / x.params.rateNum + 1 ∧ (n + 1) % x.params.rateNum = 0 := by
      rw [Nat.div_mod_unique h, Nat.mul_add]
      omega
    rw [Stream.nextTick, show (x.paced o n).origin = some _ from rfl]
    simp only
    rw [if_pos (show (x.paced o n).tick + 1 ≥ (x.paced o n).params.rateNum from hlast)]
    simp only [Stream.paced, hq, hr, Nat.add_mul, Nat.one_mul, BitVec.ofNat_add, BitVec.add_assoc]
  · obtain ⟨hq, hr⟩ : (n + 1) / x.params.rateNum = n / x.params.rateNum ∧
        (n + 1) % x.params.rateNum = n % x.params.rateNum + 1 := by
      rw [Nat.div_mod_unique h]
      omega
    rw [Stream.nextTick, show (x.paced o n).origin = some _ from rfl]
    simp only
    rw [if_neg (show ¬ (x.paced o n).tick + 1 ≥ (x.paced o n).params.rateNum from hlast)]
    simp only [Stream.paced, hq, hr]

theorem Stream.repeat_nextTick {x : Stream} {o : Word64} (ho : x.origin = some o) (ht : x.tick = 0)
    (h : 0 < x.params.rateNum) (n : Nat) : Nat.repeat Stream.nextTick n x = x.paced o n := by
  induction n with
  | zero => exact (Stream.paced_zero ho ht).symm
  | succ n ih => rw [Nat.repeat, ih, x.nextTick_paced o n h]

/-- Settles O47: whole turns of the tick index and the tick within a turn add up to the exact instant. -/
theorem pacingNeverDrifts : Obligations.PacingNeverDrifts := by
  intro x o n ho ht h y
  have hy : y = x.paced o n := Stream.repeat_nextTick ho ht h n
  have hturns : n / x.params.rateNum * (x.params.rateDen * 1000000) +
      n % x.params.rateNum * x.params.rateDen * 1000000 / x.params.rateNum = n * x.params.rateDen * 1000000 / x.params.rateNum := by
    have hn := Nat.div_add_mod n x.params.rateNum
    have : n * x.params.rateDen * 1000000 = n % x.params.rateNum * x.params.rateDen * 1000000 +
        x.params.rateNum * (n / x.params.rateNum * (x.params.rateDen * 1000000)) := by
      conv_lhs => rw [← hn]
      ring
    rw [this, Nat.add_mul_div_left _ _ h, Nat.add_comm]
  rw [hy]
  refine ⟨rfl, Nat.mod_lt _ h, _, rfl, ?_⟩
  rw [tickInstant]
  show o + _ + BitVec.ofNat 64 (n % x.params.rateNum * x.params.rateDen * 1000000 / x.params.rateNum) = _
  rw [BitVec.add_assoc, ← BitVec.ofNat_add, hturns]

end Sys2Proof.Machine
end

section
/-!
The look computation: what each stage keeps and gives (R115 to R124).
-/

namespace Sys2Proof.Machine

/-! ### Stage 3: the lattice (R120 to R122) -/

/-- The cell and fraction of a value, for a lattice size of 17 or 33 (R120). -/
theorem lattice_range {n : Nat} (hn : n = 17 ∨ n = 33) {v : Int} (h0 : 0 ≤ v) (h1 : v ≤ 65536) :
    0 ≤ latticeCell n v ∧ latticeCell n v ≤ n - 2 ∧ 0 ≤ latticeFrac n v ∧ latticeFrac n v ≤ 65536 := by
  simp only [latticeFrac, latticeCell]
  rcases hn with rfl | rfl <;> omega

/-- The corners of a cell are points of the lattice (R100, R121). -/
theorem cornerPoint_lt {n : Nat} (hn : n = 17 ∨ n = 33) {x y z : Int} (hx : 0 ≤ x ∧ x ≤ n - 2) (hy : 0 ≤ y ∧ y ≤ n - 2)
    (hz : 0 ≤ z ∧ z ≤ n - 2) {c : WeightedCorner} (hc : c.dr ≤ 1 ∧ c.dg ≤ 1 ∧ c.db ≤ 1) : cornerPoint n x y z c < n ^ 3 := by
  unfold cornerPoint
  rcases hn with rfl | rfl <;> omega

/-- The six rows of R121's table, each chosen by its condition. -/
theorem tetrahedron_rows (fx fy fz : Int) :
    (fy ≤ fx → fz ≤ fy → tetrahedron fx fy fz =
      [⟨0, 0, 0, 65536 - fx⟩, ⟨1, 0, 0, fx - fy⟩, ⟨1, 1, 0, fy - fz⟩, ⟨1, 1, 1, fz⟩]) ∧
    (fz ≤ fx → fy < fz → tetrahedron fx fy fz =
      [⟨0, 0, 0, 65536 - fx⟩, ⟨1, 0, 0, fx - fz⟩, ⟨1, 0, 1, fz - fy⟩, ⟨1, 1, 1, fy⟩]) ∧
    (fx < fz → fy ≤ fx → tetrahedron fx fy fz =
      [⟨0, 0, 0, 65536 - fz⟩, ⟨0, 0, 1, fz - fx⟩, ⟨1, 0, 1, fx - fy⟩, ⟨1, 1, 1, fy⟩]) ∧
    (fx < fy → fz ≤ fx → tetrahedron fx fy fz =
      [⟨0, 0, 0, 65536 - fy⟩, ⟨0, 1, 0, fy - fx⟩, ⟨1, 1, 0, fx - fz⟩, ⟨1, 1, 1, fz⟩]) ∧
    (fz ≤ fy → fx < fz → tetrahedron fx fy fz =
      [⟨0, 0, 0, 65536 - fy⟩, ⟨0, 1, 0, fy - fz⟩, ⟨0, 1, 1, fz - fx⟩, ⟨1, 1, 1, fx⟩]) ∧
    (fy < fz → fx < fy → tetrahedron fx fy fz =
      [⟨0, 0, 0, 65536 - fz⟩, ⟨0, 0, 1, fz - fy⟩, ⟨0, 1, 1, fy - fx⟩, ⟨1, 1, 1, fx⟩]) := by
  unfold tetrahedron
  refine ⟨fun h1 h2 => ?_, fun h1 h2 => ?_, fun h1 h2 => ?_, fun h1 h2 => ?_, fun h1 h2 => ?_, fun h1 h2 => ?_⟩
  · rw [if_pos (by omega)]
  · rw [if_neg (by omega), if_pos (by omega)]
  · rw [if_neg (by omega), if_neg (by omega), if_pos (by omega)]
  · rw [if_neg (by omega), if_neg (by omega), if_neg (by omega), if_pos (by omega)]
  · rw [if_neg (by omega), if_neg (by omega), if_neg (by omega), if_neg (by omega), if_pos (by omega)]
  · rw [if_neg (by omega), if_neg (by omega), if_neg (by omega), if_neg (by omega), if_neg (by omega)]

/-- The four corners of a tetrahedron: offsets 0 or 1, weights from 0 that sum to 65,536, from the base to the far corner
(R121). -/
structure CornersSound (corners : List WeightedCorner) : Prop where
  length : corners.length = 4
  range : ∀ c ∈ corners, 0 ≤ c.weight ∧ c.dr ≤ 1 ∧ c.dg ≤ 1 ∧ c.db ≤ 1
  sum : (corners.map (·.weight)).sum = 65536
  base : (corners.head?.map fun c => (c.dr, c.dg, c.db)) = some (0, 0, 0)
  far : (corners.getLast?.map fun c => (c.dr, c.dg, c.db)) = some (1, 1, 1)

/-- A path of corners with falling fractions `a`, `b`, `c` is sound, whichever axes it takes. -/
theorem cornersSound_path {a b c : Int} (ha : a ≤ 65536) (hab : b ≤ a) (hbc : c ≤ b) (hc : 0 ≤ c)
    {r1 g1 b1 r2 g2 b2 : Nat} (h1 : r1 ≤ 1 ∧ g1 ≤ 1 ∧ b1 ≤ 1) (h2 : r2 ≤ 1 ∧ g2 ≤ 1 ∧ b2 ≤ 1) :
    CornersSound [⟨0, 0, 0, 65536 - a⟩, ⟨r1, g1, b1, a - b⟩, ⟨r2, g2, b2, b - c⟩, ⟨1, 1, 1, c⟩] where
  length := rfl
  range := by simp; omega
  sum := by simp
  base := rfl
  far := rfl

theorem tetrahedron_sound {fx fy fz : Int} (hx : 0 ≤ fx ∧ fx ≤ 65536) (hy : 0 ≤ fy ∧ fy ≤ 65536)
    (hz : 0 ≤ fz ∧ fz ≤ 65536) : CornersSound (tetrahedron fx fy fz) := by
  unfold tetrahedron
  repeat' split
  all_goals exact cornersSound_path (by omega) (by omega) (by omega) (by omega) (by decide) (by decide)

/-! ### Stage 4: the encodings (R123, R124) -/

theorem Encoding.encode_mono (e : Encoding) {v w : Int} (h : v ≤ w) : e.encode v ≤ e.encode w := by
  cases e <;> simp only [Encoding.encode] <;> omega

theorem Encoding.encode_range {v : Int} (h0 : 0 ≤ v) (h1 : v ≤ 65536) :
    Encoding.full10.encode v ≤ 1023 ∧ 64 ≤ Encoding.narrow10.encode v ∧ Encoding.narrow10.encode v ≤ 940 ∧
      Encoding.full12.encode v ≤ 4095 := by
  simp only [Encoding.encode]
  omega

theorem Encoding.encode_eq {v : Int} (h0 : 0 ≤ v) :
    (Encoding.full10.encode v : Int) = min ((v * 1023 + 32768) / 65536) 1023 ∧
      (Encoding.narrow10.encode v : Int) = 64 + (v * 876 + 32768) / 65536 ∧
      (Encoding.full12.encode v : Int) = min ((v * 4095 + 32768) / 65536) 4095 := by
  simp only [Encoding.encode]
  omega

/-- FULL12 gives a bypassed code back (R124). -/
theorem bypassValue_range {c : Nat} (h : c ≤ 4095) :
    0 ≤ bypassValue c ∧ bypassValue c ≤ 65536 ∧ Encoding.full12.encode (bypassValue c) = c := by
  simp only [bypassValue, Encoding.encode]
  omega

/-! ### The chain (R118 to R122) -/

theorem entryAt_of_lookup {table : List (Nat × Int)} {i : Nat} {v : Int} (h : table.lookup i = some v) :
    entryAt table i = v := by simp [entryAt, h]

/-- The tables of a bank hold `E` throughout, each as long as the lattice size gives (R100). -/
def Bank.Holds (b : Bank) (n : Nat) (E : Nat → Nat → Int) : Prop :=
  ∀ (t : Fin 5) (i : Nat), i < (if t < 3 then 257 else if t = 3 then 12 else 3 * n ^ 3) →
    (b.tables[t]).lookup i = some (E t i)

theorem Bank.Holds.curve {b : Bank} {n : Nat} {E : Nat → Nat → Int} (h : b.Holds n E) (t : Fin 5) (ht : t < 3) {c : Nat}
    (hc : c ≤ 4095) : curveValue b.tables[t] c =
      (E t (c / 16) * (16 - ((c % 16 : Nat) : Int)) + E t (c / 16 + 1) * ((c % 16 : Nat) : Int) + 8) / 16 := by
  have hlook {i : Nat} (hi : i < 257) : entryAt b.tables[t] i = E t i := entryAt_of_lookup (h t i (by rwa [if_pos ht]))
  rw [curveValue, hlook (by omega), hlook (by omega)]

theorem Bank.Holds.matrix {b : Bank} {n : Nat} {E : Nat → Nat → Int} (h : b.Holds n E) {k : Nat} (hk : k < 3) (v : Working) :
    matrixValue b.tables[3] k v =
      max 0 (min ((E 3 (3 * k) * v.r + E 3 (3 * k + 1) * v.g + E 3 (3 * k + 2) * v.b + 2048) / 4096 + E 3 (9 + k)) 65536) := by
  have hlook {i : Nat} (hi : i < 12) : entryAt b.tables[3] i = E 3 i := entryAt_of_lookup (h 3 i hi)
  rw [matrixValue, hlook (by omega), hlook (by omega), hlook (by omega), hlook (by omega), clampUnit]

theorem matrixValue_range (table : List (Nat × Int)) (k : Nat) (v : Working) :
    0 ≤ matrixValue table k v ∧ matrixValue table k v ≤ 65536 := by
  simp only [matrixValue, clampUnit]
  omega

/-- A component of a point lies in a table of three for each point. -/
theorem tripled_lt {p m k : Nat} (hp : p < m) (hk : k < 3) : 3 * p + k < 3 * m := by omega

theorem Bank.Holds.mix {b : Bank} {n : Nat} {E : Nat → Nat → Int} (h : b.Holds n E) (hn : n = 17 ∨ n = 33) {k : Nat}
    (hk : k < 3) {v : Working} (hr : 0 ≤ v.r ∧ v.r ≤ 65536) (hg : 0 ≤ v.g ∧ v.g ≤ 65536) (hb : 0 ≤ v.b ∧ v.b ≤ 65536) :
    latticeMix b.tables[4] n k (latticeCell n v.r) (latticeCell n v.g) (latticeCell n v.b)
        (tetrahedron (latticeFrac n v.r) (latticeFrac n v.g) (latticeFrac n v.b)) =
      (((tetrahedron (latticeFrac n v.r) (latticeFrac n v.g) (latticeFrac n v.b)).map fun c =>
        c.weight * E 4 (3 * cornerPoint n (latticeCell n v.r) (latticeCell n v.g) (latticeCell n v.b) c + k)).sum +
          32768) / 65536 := by
  obtain ⟨hr0, hr1, hr2, hr3⟩ := lattice_range hn hr.1 hr.2
  obtain ⟨hg0, hg1, hg2, hg3⟩ := lattice_range hn hg.1 hg.2
  obtain ⟨hb0, hb1, hb2, hb3⟩ := lattice_range hn hb.1 hb.2
  have hlook : ∀ i, i < 3 * n ^ 3 → entryAt b.tables[4] i = E 4 i := fun i hi => entryAt_of_lookup (h 4 i hi)
  have hcorners := (tetrahedron_sound ⟨hr2, hr3⟩ ⟨hg2, hg3⟩ ⟨hb2, hb3⟩).range
  rw [latticeMix]
  congr 3
  refine List.map_congr_left fun c hc => ?_
  have := cornerPoint_lt hn ⟨hr0, hr1⟩ ⟨hg0, hg1⟩ ⟨hb0, hb1⟩ (hcorners c hc).2
  rw [hlook _ (tripled_lt this hk)]

/-! ### Stage 0: concealment (R116, R117) -/

/-- Each pixel of a line after concealment, from the codes received at its sides. -/
theorem concealFrom_getElem? (bad : Nat → Bool) (codes : List Rgb) (col : Nat) (left : Option Rgb) (i : Nat) :
    (concealFrom bad col left codes)[i]? = (codes[i]?).map fun x =>
      if bad (col + i) then concealed (if i = 0 then left else codes[i - 1]?) codes[i + 1]? x else x := by
  induction codes generalizing col left i with
  | nil => simp [concealFrom]
  | cons y codes ih =>
    cases i with
    | zero => cases codes <;> simp [concealFrom]
    | succ i =>
      have hcol : col + 1 + i = col + (i + 1) := by omega
      cases i with
      | zero => simp [concealFrom, ih]
      | succ i => simp [concealFrom, ih, hcol]

theorem concealFrom_length (bad : Nat → Bool) (codes : List Rgb) (col : Nat) (left : Option Rgb) :
    (concealFrom bad col left codes).length = codes.length := by
  induction codes generalizing col left with
  | nil => rfl
  | cons y codes ih => simp [concealFrom, ih]

theorem concealLine_getElem? (set : List (Nat × Nat)) (line : Nat) (codes : List Rgb) (i : Nat) :
    (concealLine set line codes)[i]? = (codes[i]?).map fun x =>
      if set.contains (line, i) then concealed (if i = 0 then none else codes[i - 1]?) codes[i + 1]? x else x := by
  rw [concealLine, concealFrom_getElem?, Nat.zero_add]

theorem mem_sitesOf (tag line col : Nat) (map : List DefectSite) : (line, col) ∈ sitesOf tag map ↔ ⟨tag, line, col⟩ ∈ map := by
  simp only [sitesOf, List.mem_map, List.mem_filter, beq_iff_eq, Prod.mk.injEq]
  constructor
  · rintro ⟨⟨t, l, c⟩, ⟨hd, rfl⟩, rfl, rfl⟩
    exact hd
  · intro h
    exact ⟨_, ⟨h, rfl⟩, rfl, rfl⟩

/-- Settles O42, stage by stage. -/
theorem lookComputation : Obligations.LookComputation := by
  refine ⟨fun fx fy fz hx0 hx1 hy0 hy1 hz0 hz1 => ?_, fun n v hn h0 h1 => lattice_range hn h0 h1,
    fun v w _ h _ e => e.encode_mono h, fun v h0 h1 => Encoding.encode_range h0 h1, fun c hc => ?_⟩
  · have h := tetrahedron_sound ⟨hx0, hx1⟩ ⟨hy0, hy1⟩ ⟨hz0, hz1⟩
    exact ⟨h.length, h.range, h.sum, h.base, h.far, tetrahedron_rows fx fy fz⟩
  · obtain ⟨hc0, hc1, hc2⟩ := bypassValue_range hc
    refine ⟨hc0, hc1, hc2, fun v h0 _ => Encoding.encode_eq h0, fun e x => rfl, fun b n E e x hsize hn hE hr hg hb => ?_,
      fun s k line col => ?_, fun bank e set line codes => ⟨rfl, concealFrom_length _ codes 0 none, fun col x hx => ?_⟩⟩
    · have h : b.Holds n E := hE
      intro curve mixed cell frac corners point out
      have hcurve : (⟨curveValue b.tables[0] x.r, curveValue b.tables[1] x.g, curveValue b.tables[2] x.b⟩ : Working) =
          ⟨curve 0 x.r, curve 1 x.g, curve 2 x.b⟩ := by
        rw [show curveValue b.tables[0] x.r = _ from h.curve 0 (by decide) hr,
          show curveValue b.tables[1] x.g = _ from h.curve 1 (by decide) hg,
          show curveValue b.tables[2] x.b = _ from h.curve 2 (by decide) hb]
        rfl
      have hmixed {k : Nat} (hk : k < 3) : matrixValue b.tables[3] k ⟨curve 0 x.r, curve 1 x.g, curve 2 x.b⟩ = mixed k :=
        h.matrix hk _
      have hrange {k : Nat} (hk : k < 3) : 0 ≤ mixed k ∧ mixed k ≤ 65536 := by
        rw [← hmixed hk]
        exact matrixValue_range _ k _
      have hmix {k : Nat} (hk : k < 3) : latticeMix b.tables[4] n k (cell (mixed 0)) (cell (mixed 1)) (cell (mixed 2)) corners =
          out k :=
        h.mix hn hk (v := ⟨mixed 0, mixed 1, mixed 2⟩) (hrange (by decide)) (hrange (by decide)) (hrange (by decide))
      have hgrade : b.grade x = ⟨out 0, out 1, out 2⟩ := by
        simp only [Bank.grade, hcurve, hmixed (show 0 < 3 by decide), hmixed (show 1 < 3 by decide),
          hmixed (show 2 < 3 by decide), hsize, Option.getD_some, latticeValue, ← hmix (show 0 < 3 by decide),
          ← hmix (show 1 < 3 by decide), ← hmix (show 2 < 3 by decide)]
        rfl
      simp only [gradePixel, workingOf, hgrade]
    · cases hk : s.clip? k <;> simp [State.concealmentFor, hk, mem_sitesOf]
    · simp only [concealLine_getElem?, hx, Option.map_some]
      refine ⟨fun hout => by simp [hout], fun hin => ⟨fun r h0 h1 => ?_, fun l h0 h1 h2 => ?_, fun l r h0 h1 h2 => ?_⟩⟩
      · subst h0
        simp [hin, h1, concealed]
      · have hlast : codes[col + 1]? = none := by rw [List.getElem?_eq_none]; omega
        simp [hin, Nat.ne_of_gt h0, h2, hlast, concealed]
      · simp [hin, Nat.ne_of_gt h0, h1, h2, concealed, Rgb.map2]

end Sys2Proof.Machine
end

section
/-!
The requests of the device group: STATUS READ, SOFT RESTART, OPTIONS READ, PORT ROLES SET, NOTICE PORT SET and the notice egress,
ENDPOINT ADD and REMOVE (R11, R13, R14, R26 to R28, R171, R174).
-/

namespace Sys2Proof.Machine

/-! ### Arguments (R22) -/

theorem parseNone_eq_none {args : List Byte} (h : args ≠ []) : parseNone args = none := by
  unfold parseNone
  split
  · exact absurd rfl h
  · rfl

theorem parseOne_eq_none {args : List Byte} (h : ∀ a, args ≠ [a]) : parseOne args = none := by
  unfold parseOne
  split
  · exact absurd rfl (h _)
  · rfl

theorem parseTwo_eq_none {args : List Byte} (h : ∀ a b, args ≠ [a, b]) : parseTwo args = none := by
  unfold parseTwo
  split
  · exact absurd rfl (h _ _)
  · rfl

theorem parseWord_eq_none {args : List Byte} (h : ∀ a b, args ≠ [a, b]) : parseWord args = none := by
  unfold parseWord
  split
  · exact absurd rfl (h _ _)
  · rfl

theorem parseEndpoint_eq_none {args : List Byte} (h : ∀ p i k a b, args ≠ [p, i, k, a, b]) : parseEndpoint args = none := by
  unfold parseEndpoint
  split
  · exact absurd rfl (h _ _ _ _ _)
  · rfl

@[simp] theorem withArgs_some {α : Type} (x : α) (rule : α → Served) : withArgs (some x) rule = rule x := rfl

@[simp] theorem withArgs_none {α : Type} (rule : α → Served) : withArgs none rule = none := rfl

@[simp] theorem byteOf_toNat (a : Byte) : byteOf a.toNat = a := by simp [byteOf]

/-- A port number in range, or the answer of its absence. -/
theorem portOf_of_lt {n : Nat} (h : n < 4) : portOf n = some ⟨n, h⟩ := dif_pos h

theorem portOf_of_not_lt {n : Nat} (h : ¬ n < 4) : portOf n = none := dif_neg h

theorem nameOf_of_range {n id : Nat} (h : n < 4) (hid : 1 ≤ id ∧ id ≤ 15) : nameOf n id = some ⟨⟨n, h⟩, id⟩ := by
  simp [nameOf, portOf_of_lt h, hid]

theorem nameOf_of_not_range {n id : Nat} (h : ¬ (n < 4 ∧ 1 ≤ id ∧ id ≤ 15)) : nameOf n id = none := by
  by_cases hn : n < 4
  · simp only [nameOf, portOf_of_lt hn, if_neg fun hid => h ⟨hn, hid⟩]
  · simp only [nameOf, portOf_of_not_lt hn]

theorem mem_allStreams (st : StreamId) : st ∈ allStreams := by revert st; decide

theorem mem_allPorts (p : Port) : p ∈ allPorts := by revert p; decide

/-! ### STATUS READ, OPTIONS READ and SOFT RESTART (R26, R171, R174) -/

/-- An accepted SOFT RESTART on an UP port: the reply queued, and the restart waiting for it (R174). -/
theorem State.softRestartRequest_eq (s : State) (p : Port) (r : Request) (h : r.number = 0x02) :
    s.softRestartRequest p r =
      match r.args with
      | [] =>
        if s.isUp p then
          { s.modPort p fun x =>
              { x with
                queues := x.queues.set 0
                  (x.queues[0] ++ [⟨.reply, 0, 0, r.tag, [0x02, 0, 0, 0, 0], .softRestartReply⟩]) } with
            control := { s.control with softRestart := .replyPending } }
        else { s with control := { s.control with softRestart := .ready } }
      | _ => s.answered p r .badArgument [] := by
  have hpacket : replyPacket r.tag r.number .done [] .softRestartReply =
      ⟨.reply, 0, 0, r.tag, [0x02, 0, 0, 0, 0], .softRestartReply⟩ := by rw [h]; rfl
  unfold State.softRestartRequest
  rw [hpacket]
  split
  · next h => cases hargs : r.args with
    | nil => rw [hargs] at h; exact nomatch h
    | cons a as => rfl
  · next h => cases hargs : r.args with
    | nil => rfl
    | cons a as => rw [hargs] at h; exact nomatch h

/-- Settles O20. -/
theorem deviceRequests : Obligations.DeviceRequests := by
  unfold Obligations.DeviceRequests
  refine ⟨⟨fun s p r h hn => ?_, fun s hs => ?_⟩, fun s p r h => ⟨fun hn => ?_, fun hn => ?_⟩⟩
  · intro u
    have hexec : exec .softRestart s = .next (u.softRestartRequest p r) := by
      show Host.Outcome.next (s.carryOut 0x02 State.softRestartRequest) = _
      rw [← hn, State.carryOut_taking h]
    rw [hexec, State.softRestartRequest_eq u p r hn]
    rfl
  · show Host.Outcome.next (s.whenRunning _) = .next s
    cases hrun : s.running with
    | false => rw [State.whenRunning_held hrun]
    | true => rw [State.whenRunning_running hrun, if_neg hs]
  · rw [exec_serve_taking (rule := State.statusRead) rfl h hn]
    congr 1
    split
    case h_1 hargs => rw [hargs]; rfl
    case h_2 hargs => rw [State.statusRead, parseNone_eq_none hargs]; rfl
  · rw [exec_serve_taking (rule := State.optionsRead) rfl h hn]
    congr 1
    split
    case h_1 hargs => rw [hargs]; rfl
    case h_2 hargs => rw [State.optionsRead, parseNone_eq_none hargs]; rfl

/-! ### PORT ROLES SET (R11) -/

theorem State.streamUses_iff (s : State) (q : Port) (x : Role) : s.streamUses q x = true ↔
    ∃ st : StreamId, (s.stream st).state ≠ .closed ∧
      (x = .decode ∧ (s.stream st).params.decoder.port = q ∨ x = .display ∧ (s.stream st).params.output.port = q) := by
  simp [State.streamUses, mem_allStreams]

theorem State.roleInUse_iff (s : State) (q : Port) (x : Role) : s.roleInUse q x = true ↔
    (∃ st : StreamId, (s.stream st).state ≠ .closed ∧
      (x = .decode ∧ (s.stream st).params.decoder.port = q ∨ x = .display ∧ (s.stream st).params.output.port = q)) ∨
    ∃ e ∈ s.link.endpoints, e.name.port = q ∧ e.kind.role = x ∧ s.jobNames e.name = true := by
  simp [State.roleInUse, State.streamUses_iff, and_assoc]

theorem State.removesUsed_iff (s : State) (q : Port) (roles : BitVec 5) : s.removesUsed q roles = true ↔
    ∃ x ∈ [Role.control, .source, .dest, .decode, .display],
      hasRole (s.port q).roles x = true ∧ hasRole roles x = false ∧
        ((∃ st : StreamId, (s.stream st).state ≠ .closed ∧
            (x = .decode ∧ (s.stream st).params.decoder.port = q ∨ x = .display ∧ (s.stream st).params.output.port = q)) ∨
          ∃ e ∈ s.link.endpoints, e.name.port = q ∧ e.kind.role = x ∧ s.jobNames e.name = true) := by
  simp only [State.removesUsed, List.any_eq_true, Bool.and_eq_true, Bool.not_eq_true', State.roleInUse_iff, and_assoc]
  rfl

theorem State.anyControl_iff (s : State) : s.anyControl = true ↔ ∃ y : Port, hasRole (s.port y).roles .control = true := by
  simp [State.anyControl, mem_allPorts]

/-- PORT ROLES SET of two bytes (R11). -/
theorem State.portRolesSet_two (s : State) (a b : Byte) : s.portRolesSet [a, b] =
    if h : a.toNat < 4 then
      if 31 < b.toNat then s.refuse .badArgument
      else if s.removesUsed ⟨a.toNat, h⟩ (BitVec.ofNat 5 b.toNat) = true then s.refuse .inUse
      else if (s.setRoles ⟨a.toNat, h⟩ (BitVec.ofNat 5 b.toNat)).anyControl = true then
        (s.setRoles ⟨a.toNat, h⟩ (BitVec.ofNat 5 b.toNat)).done [b]
      else s.refuse .notPermitted
    else s.refuse .badArgument := by
  rw [State.portRolesSet, parseTwo, withArgs_some]
  by_cases h : a.toNat < 4
  · simp only [portOf_of_lt h, dif_pos h, byteOf_toNat]
  · simp only [portOf_of_not_lt h, dif_neg h]

/-! ### The notice egress (R28) -/

theorem FaultKind.severity_le (k : FaultKind) : k.severity ≤ 3 := by cases k <;> decide

/-- The place of the entry that the egress chooses (R28): of the highest severity of un-noticed entries, the oldest. -/
theorem noticePlace_eq {log : List FaultEntry} {n : Nat} {e : FaultEntry} (hn : log[n]? = some e) (he : e.noticed = false)
    (hbest : ∀ (m : Nat) (x : FaultEntry), log[m]? = some x → x.noticed = false →
      x.kind.severity < e.kind.severity ∨ x.kind.severity = e.kind.severity ∧ n ≤ m) : noticePlace log = some n := by
  have hnone {v : Nat} (hv : e.kind.severity < v) : unnoticedOf log v = none := by
    rw [unnoticedOf, List.findIdx?_eq_none_iff]
    intro x hx
    obtain ⟨m, hm⟩ := List.getElem?_of_mem hx
    by_contra hc
    simp at hc
    have := hbest m x hm hc.1
    omega
  have hsome : unnoticedOf log e.kind.severity = some n := by
    obtain ⟨hlt, hget⟩ := List.getElem?_eq_some_iff.mp hn
    rw [unnoticedOf, List.findIdx?_eq_some_iff_getElem]
    refine ⟨hlt, by simp [hget, he], fun j hj => ?_⟩
    by_contra hc
    simp at hc
    have := hbest j _ (List.getElem?_eq_getElem (by omega)) hc.1
    omega
  have hle := FaultKind.severity_le e.kind
  rw [noticePlace]
  obtain h | h | h | h : e.kind.severity = 3 ∨ e.kind.severity = 2 ∨ e.kind.severity = 1 ∨ e.kind.severity = 0 := by omega
  all_goals rw [h] at hsome hnone
  · simp [hsome]
  · simp [hsome, hnone (v := 3) (by omega)]
  · simp [hsome, hnone (v := 3) (by omega), hnone (v := 2) (by omega)]
  · simp [hsome, hnone (v := 3) (by omega), hnone (v := 2) (by omega), hnone (v := 1) (by omega)]

theorem noticePlace_eq_none {log : List FaultEntry} (h : ∀ e ∈ log, e.noticed = true) : noticePlace log = none := by
  have hnone (v : Nat) : unnoticedOf log v = none := by
    rw [unnoticedOf, List.findIdx?_eq_none_iff]
    intro x hx
    simp [h x hx]
  simp [noticePlace, hnone]

theorem execNoticeChoose_of_running {s : State} (h : s.running = true) : exec .noticeChoose s = .next s.chooseNotice := by
  show Host.Outcome.next (s.whenRunning _) = _
  rw [State.whenRunning_running h]

/-- Settles O21. -/
theorem portRequests : Obligations.PortRequests := by
  unfold Obligations.PortRequests
  refine ⟨fun s p r h hn => ?_, fun s p r h hn => ?_, fun s hrun => ⟨fun hno => ?_, fun hnone hup hctl n e hn he hbest => ?_⟩⟩
  · intro u
    rw [exec_serve_taking (rule := State.portRolesSet) rfl h hn]
    congr 1
    split
    case h_1 a b hargs =>
      rw [hargs, State.portRolesSet_two]
      split
      case isTrue ha =>
        simp only [State.answer_ite, State.answer_refuse, State.answer_done, State.removesUsed_iff, State.anyControl_iff]
        rfl
      case isFalse ha => rfl
    case h_2 hargs => rw [State.portRolesSet, parseTwo_eq_none hargs]; rfl
  · intro u
    rw [exec_serve_taking (rule := State.noticePortSet) rfl h hn]
    congr 1
    split
    case h_1 a hargs =>
      rw [hargs, State.noticePortSet, parseOne, withArgs_some]
      by_cases ha : a.toNat < 4
      · simp only [portOf_of_lt ha, dif_pos ha, State.answer_ite, State.answer_refuse, State.answer_done, byteOf_toNat]
        rfl
      · simp only [portOf_of_not_lt ha, dif_neg ha, State.answer_refuse]
        rfl
    case h_2 hargs => rw [State.noticePortSet, parseOne_eq_none hargs]; rfl
  · rw [execNoticeChoose_of_running hrun]
    congr 1
    by_cases hmay : (decide (s.control.notice = .none) && s.isUp s.control.noticePort &&
        hasRole (s.port s.control.noticePort).roles .control) = true
    · rw [State.chooseNotice, if_pos hmay]
      simp only [Bool.and_eq_true, decide_eq_true_eq, State.isUp_iff] at hmay
      obtain hno | hno | hno | hno := hno
      · exact absurd hmay.1.1 hno
      · exact absurd hmay.1.2 hno
      · exact absurd hmay.2 (ne_true_of_eq_false hno)
      · rw [noticePlace_eq_none hno]
    · rw [State.chooseNotice, if_neg hmay]
  · rw [execNoticeChoose_of_running hrun]
    congr 1
    have hmay : (decide (s.control.notice = .none) && s.isUp s.control.noticePort &&
        hasRole (s.port s.control.noticePort).roles .control) = true := by
      simp [hnone, hctl, hup, State.isUp]
    rw [State.chooseNotice, if_pos hmay, noticePlace_eq hn he hbest]
    simp only [hn]
    rfl

/-! ### ENDPOINT ADD and REMOVE (R13, R14) -/

theorem EndpointKind.ofCode_of_lt {k : Byte} (h : k.toNat < 4) : EndpointKind.ofCode k.toNat = some
    (if k = 0 then .source else if k = 1 then .dest else if k = 2 then .decoder else .display) := by
  simp only [← BitVec.toNat_inj]
  generalize k.toNat = n at h
  interval_cases n <;> rfl

theorem EndpointKind.ofCode_of_ge {n : Nat} (h : ¬ n < 4) : EndpointKind.ofCode n = none := by
  match n, h with
  | n + 4, _ => rfl

theorem timeoutOf_of_range {n : Nat} (h : n = 0 ∨ 100 ≤ n ∧ n ≤ 10000) :
    timeoutOf n = some (if n = 0 then 2000 else n) := by
  unfold timeoutOf
  by_cases h0 : n = 0
  · rw [if_pos h0, if_pos h0]; rfl
  · rw [if_neg h0, if_neg h0, if_pos (h.resolve_left h0)]

theorem timeoutOf_of_not_range {n : Nat} (h : ¬ (n = 0 ∨ 100 ≤ n ∧ n ≤ 10000)) : timeoutOf n = none := by
  rw [not_or] at h
  rw [timeoutOf, if_neg h.1, if_neg h.2]

theorem State.endpoint?_isSome_iff (s : State) (e : EpName) :
    (s.endpoint? e).isSome = true ↔ ∃ x ∈ s.link.endpoints, x.name = e := by
  simp [State.endpoint?]

theorem State.asksTo_ne_zero_iff (s : State) (e : EpName) :
    (s.asksTo e != 0) = true ↔ ∃ y ∈ (s.port e.port).allAsks, y.endpoint = e := by
  simp [State.asksTo]

theorem State.streamNames_iff (s : State) (e : EpName) : s.streamNames e = true ↔
    ∃ st : StreamId, (s.stream st).state ≠ .closed ∧
      ((s.stream st).params.decoder = e ∨ (s.stream st).params.output = e) := by
  simp [State.streamNames, mem_allStreams]

theorem State.endpointAdd_of_not_range (s : State) {a i k t1 t0 : Byte}
    (h : ¬ (a.toNat < 4 ∧ (1 ≤ i.toNat ∧ i.toNat ≤ 15) ∧ k.toNat < 4 ∧
      (t1.toNat * 256 + t0.toNat = 0 ∨ 100 ≤ t1.toNat * 256 + t0.toNat ∧ t1.toNat * 256 + t0.toNat ≤ 10000))) :
    s.endpointAdd [a, i, k, t1, t0] = s.refuse .badArgument := by
  rw [State.endpointAdd, parseEndpoint, withArgs_some, be2_eq]
  split
  case h_1 e kind t he hkind ht =>
    refine absurd ?_ h
    have hname : a.toNat < 4 ∧ 1 ≤ i.toNat ∧ i.toNat ≤ 15 := by
      by_contra hc
      rw [nameOf_of_not_range hc] at he
      exact nomatch he
    refine ⟨hname.1, hname.2, ?_, ?_⟩
    · by_contra hc
      rw [EndpointKind.ofCode_of_ge hc] at hkind
      exact nomatch hkind
    · by_contra hc
      rw [timeoutOf_of_not_range hc] at ht
      exact nomatch ht
  case h_2 => rfl

/-- Settles O22. -/
theorem endpointAddRemove : Obligations.EndpointAddRemove := by
  unfold Obligations.EndpointAddRemove
  refine ⟨fun s p r h hn => ?_, fun s p r h hn => ?_⟩
  · intro u
    rw [exec_serve_taking (rule := State.endpointAdd) rfl h hn]
    congr 1
    split
    case h_1 a i k t1 t0 hargs =>
      by_cases hr : a.toNat < 4 ∧ (1 ≤ i.toNat ∧ i.toNat ≤ 15) ∧ k.toNat < 4 ∧
          (t1.toNat * 256 + t0.toNat = 0 ∨ 100 ≤ t1.toNat * 256 + t0.toNat ∧ t1.toNat * 256 + t0.toNat ≤ 10000)
      · obtain ⟨ha, hi, hk, ht⟩ := hr
        rw [hargs, dif_pos ⟨ha, hi, hk, ht⟩, State.endpointAdd, parseEndpoint, withArgs_some, be2_eq]
        simp only [nameOf_of_range ha hi, EndpointKind.ofCode_of_lt hk, timeoutOf_of_range ht, State.answer_ite,
          State.answer_refuse, State.answer_done, State.endpoint?_isSome_iff, Bool.not_eq_true',
          apply_ite EndpointKind.role, State.isUp, beq_iff_eq]
        rfl
      · rw [hargs, dif_neg hr, State.endpointAdd_of_not_range _ hr]
        rfl
    case h_2 hargs => rw [State.endpointAdd, parseEndpoint_eq_none hargs]; rfl
  · intro u
    rw [exec_serve_taking (rule := State.endpointRemove) rfl h hn]
    congr 1
    split
    case h_1 a i hargs =>
      rw [hargs, State.endpointRemove, parseTwo, withArgs_some]
      by_cases ha : a.toNat < 4 ∧ 1 ≤ i.toNat ∧ i.toNat ≤ 15
      · simp only [nameOf_of_range ha.1 ha.2, dif_pos ha]
        generalize he : (⟨⟨a.toNat, ha.1⟩, i.toNat⟩ : EpName) = e
        cases hx : s.endpoint? e with
        | none =>
          have hx' : (s.takeRequest p).endpoint? e = none := hx
          simp only [hx', State.answer_refuse]
          rfl
        | some x =>
          have hx' : (s.takeRequest p).endpoint? e = some x := hx
          have hfilter : (s.takeRequest p).link.endpoints.filter (fun y => y.name != e) =
              s.link.endpoints.filter fun (y : Endpoint) => y.name ≠ e := by
            refine List.filter_congr fun y _ => ?_
            rw [bne, Bool.beq_eq_decide_eq, decide_not]
          simp only [hx', State.answer_ite, Bool.or_eq_true, State.streamNames_iff, State.asksTo_ne_zero_iff, or_assoc,
            State.answer_refuse, State.answer_done, hfilter]
          subst he
          rfl
      · rw [nameOf_of_not_range ha, dif_neg ha]
        rfl
    case h_2 hargs => rw [State.endpointRemove, parseTwo_eq_none hargs]; rfl

end Sys2Proof.Machine
end

section
/-!
The reads: what the tables and units return, byte by byte (section 3.9, R15, R42, R43, R113, R142, R158, R159, R162).
-/

namespace Sys2Proof.Machine

/-! ### Codes as bytes (section 3.9) -/

/-- The fault kinds in the table's order, coded from 1 (section 3.9). -/
def faultKinds : List FaultKind :=
  [.sourceReadFailed, .sizeMismatch, .mediumChanged, .verifyMismatch, .destWriteFailed, .destTimeout, .peerMismatch,
    .noSource, .shortRead, .endpointLost, .hotPixel, .clipping, .blackFrame, .hotScanSaturated, .lookMissing, .lineGap,
    .geometry, .notSecured, .droppedFrames, .outOfOrder, .frameCount, .duplicateFrame, .stall, .outputRepeat,
    .linkProtocol, .linkDown, .supplyWarn, .brownout]

theorem mem_faultKinds (k : FaultKind) : k ∈ faultKinds := by cases k <;> decide

theorem FaultKind.code_eq (k : FaultKind) : k.code = faultKinds.idxOf k + 1 := by cases k <;> rfl

theorem byteOf_elim {α : Type} (x : Option α) (d : Nat) (f : α → Nat) :
    byteOf (x.elim d f) = x.elim (byteOf d) fun y => byteOf (f y) := by cases x <;> rfl

theorem byteOf_severity (k : FaultKind) : byteOf k.severity =
    if k ∈ [FaultKind.sourceReadFailed, .sizeMismatch, .mediumChanged, .brownout] then 3
    else if k ∈ [FaultKind.shortRead, .endpointLost, .hotPixel, .clipping, .blackFrame, .duplicateFrame, .stall,
      .outputRepeat] then 1
    else if k ∈ [FaultKind.hotScanSaturated, .lookMissing] then 0
    else 2 := by
  cases k <;> rfl

theorem byteOf_reasonCode (x : Option FaultKind) : byteOf (reasonCode x) =
    x.elim 0 fun k => byteOf (faultKinds.idxOf k + 1) := by
  cases x with
  | none => rfl
  | some k => rw [reasonCode, FaultKind.code_eq, Option.elim_some]

theorem byteOf_lookCode (x : Option Nat) : byteOf (lookCode x) = x.elim 255 fun k => byteOf k := by cases x <;> rfl

theorem byteOf_directoryCode (x : Option (Fin 16)) : byteOf (directoryCode x) = x.elim 255 fun k => byteOf k.val := by
  cases x <;> rfl

theorem byteOf_flagCode (b : Bool) : byteOf (flagCode b) = if b then 1 else 0 := by cases b <;> rfl

/-! ### The records (section 3.9) -/

theorem FaultEntry.bytes_eq (e : FaultEntry) : e.bytes =
    [byteOf (faultKinds.idxOf e.kind + 1), byteOf e.kind.severity, byteOf e.presence, e.stream.elim 0 fun st => byteOf st.val] ++
      beBytes 8 e.time.toNat ++ beBytes 2 (e.clip.getD 0) ++ beBytes 4 (e.frame.elim 0 (·.toNat)) ++
      [e.endpoint.elim 0 fun n => byteOf n.port.val, e.endpoint.elim 0 fun n => byteOf n.id] ++
      beBytes 2 (e.coordinate.elim 0 (·.1)) ++ beBytes 2 (e.coordinate.elim 0 (·.2)) ++ beBytes 4 e.detail.toNat := by
  simp only [FaultEntry.bytes, FaultKind.code_eq, byteOf_elim]
  rfl

theorem byteOf_jobState (x : JobState) : byteOf x.code =
    match x with
    | .queued => 0 | .identifying => 1 | .active => 2 | .suspended => 3 | .done => 4 | .doneIncomplete => 5
    | .cancelled => 6 := by
  cases x <;> rfl

theorem byteOf_suspendCode (x : Option SuspendReason) : byteOf (suspendCode x) =
    match x with
    | none => 0 | some .sourceUnavailable => 1 | some .restart => 2 | some .operator => 3 := by
  rcases x with - | - | - | - <;> rfl

theorem byteOf_standingCode (x : Option Standing) : byteOf (standingCode x) =
    match x with
    | none => 0 | some .confirmed => 1 | some .peerOnly => 2 := by
  rcases x with - | - | - <;> rfl

theorem byteOf_copyState (x : CopyState) : byteOf x.code =
    match x with
    | .waiting => 0 | .copying => 1 | .complete => 2 | .partialCopy => 3 | .failed => 4 | .cancelled => 5 := by
  cases x <;> rfl

theorem byteOf_destState (x : DestState) : byteOf x.code =
    match x with
    | .pending => 0 | .inProgress => 1 | .verified => 2 | .failed => 3 | .deferred => 4 := by
  cases x <;> rfl

theorem DestRecord.bytes_eq (d : DestRecord) : d.bytes =
    [byteOf d.endpoint.port.val, byteOf d.endpoint.id,
      match d.state with
      | .pending => 0 | .inProgress => 1 | .verified => 2 | .failed => 3 | .deferred => 4,
      byteOf d.attempts, d.reason.elim 0 fun k => byteOf (faultKinds.idxOf k + 1)] ++ beBytes 4 d.verified := by
  rw [DestRecord.bytes, byteOf_reasonCode, byteOf_destState]

theorem byteOf_qcState (x : QcState) : byteOf x.code =
    match x with
    | .unchecked => 0 | .clean => 1 | .flagged => 2 := by
  cases x <;> rfl

theorem ClipRecord.extents_eq (c : ClipRecord) : c.extents = (c.size + 4194303) / 4194304 := rfl

theorem ClipRecord.bytes_eq (c : ClipRecord) (n : Nat) : c.bytes n =
    beBytes 2 n ++ [byteOf c.job, byteOf c.cameraTag] ++ beBytes 4 c.fileId.toNat ++ beBytes 5 c.size ++
      beBytes 4 ((c.size + 4194303) / 4194304) ++
      [match c.copyState with
        | .waiting => 0 | .copying => 1 | .complete => 2 | .partialCopy => 3 | .failed => 4 | .cancelled => 5,
        byteOf (bitIf c.expectedFrames.isSome 1 + bitIf c.fileCrc.isSome 2 + bitIf c.highestFrame.isSome 4),
        c.look.elim 255 fun k => byteOf k] ++
      beBytes 4 c.hashed ++ beBytes 8 c.register.toNat ++ beBytes 8 (c.fileCrc.elim 0 (·.toNat)) ++
      beBytes 4 (c.expectedFrames.elim 0 (·.toNat)) ++
      [match c.qc with
        | .unchecked => 0 | .clean => 1 | .flagged => 2,
        byteOf (bitIf c.currentStreams[0] 1 + bitIf c.currentStreams[1] 2)] ++
      beBytes 4 c.framesSeen ++ beBytes 4 (c.highestFrame.elim 0 (·.toNat)) ++ beBytes 2 c.copyFaults ++
      beBytes 2 c.pictureFaults ++ beBytes 2 c.timingFaults ++ [byteOf c.dests.length] ++
      (c.dests.flatMap fun d =>
        [byteOf d.endpoint.port.val, byteOf d.endpoint.id,
          match d.state with
          | .pending => 0 | .inProgress => 1 | .verified => 2 | .failed => 3 | .deferred => 4,
          byteOf d.attempts, d.reason.elim 0 fun k => byteOf (faultKinds.idxOf k + 1)] ++ beBytes 4 d.verified) ++
      [byteOf c.name.length] ++ c.name := by
  rw [← ClipRecord.extents_eq, ← byteOf_copyState, ← byteOf_qcState, ← byteOf_lookCode, ← funext DestRecord.bytes_eq]
  rfl

theorem byteOf_endpointKind (x : EndpointKind) : byteOf x.code =
    match x with
    | .source => 0 | .dest => 1 | .decoder => 2 | .display => 3 := by
  cases x <;> rfl

theorem byteOf_endpointState (x : EndpointState) : byteOf x.code =
    match x with
    | .online => 0 | .offline => 1 | .draining => 2 | .released => 3 := by
  cases x <;> rfl

theorem byteOf_shadowState (x : ShadowState) : byteOf x.code =
    match x with
    | .empty => 0 | .loading => 1 | .complete => 2 | .stale => 3 := by
  cases x <;> rfl

theorem byteOf_encoding (x : Encoding) : byteOf x.code =
    match x with
    | .full10 => 0 | .narrow10 => 1 | .full12 => 2 := by
  cases x <;> rfl

theorem byteOf_backState (x : BackState) : byteOf x.code =
    match x with
    | .idle => 0 | .writing => 1 | .ready => 2 := by
  cases x <;> rfl

theorem byteOf_streamState {x : StreamState} (h : x ≠ .closed) : byteOf x.code =
    if x = .waiting then 1 else if x = .running then 2 else 3 := by
  cases x with
  | closed => exact absurd rfl h
  | waiting => rfl
  | running => rfl
  | held => rfl

theorem byteOf_mode (x : Mode) : byteOf x.code = if x = .paced then 1 else 0 := by cases x <;> rfl

theorem byteOf_activeCode (x : Option BankName) : byteOf (activeCode x) = x.elim 255 fun b => if b = .a then 0 else 1 := by
  rcases x with - | - | - <;> rfl

theorem Resolution.bytes_eq (x : Resolution) : x.bytes.map byteOf =
    match x with
    | .bypass => [255, 255]
    | .bank k name => [byteOf k.val, if name = .a then 0 else 1] := by
  rcases x with - | ⟨k, - | -⟩ <;> rfl

theorem frameBytes_eq (x : Option FrameInProgress) : frameBytes x =
    match x with
    | none => List.replicate 7 0
    | some f => beBytes 4 f.number.toNat ++ beBytes 2 f.next ++
        [byteOf (bitIf f.refused 1 + bitIf f.gap 2 + bitIf f.geometry 4 + bitIf f.damaged 8)] := by
  cases x <;> rfl

/-! ### Requests on a number (R42, R43) -/

theorem State.onJob_of_gt (s : State) {n : Nat} (h : 15 < n) (rule : JobRecord → Served) :
    s.onJob n rule = s.refuse .badArgument := if_pos h

theorem State.onJob_of_free (s : State) {n : Nat} (h : ¬ 15 < n) (hj : s.job? n = none) (rule : JobRecord → Served) :
    s.onJob n rule = s.refuse .notFound := by
  rw [State.onJob, if_neg h, hj]

theorem State.onJob_of_some (s : State) {n : Nat} {j : JobRecord} (h : ¬ 15 < n) (hj : s.job? n = some j)
    (rule : JobRecord → Served) : s.onJob n rule = rule j := by
  rw [State.onJob, if_neg h, hj]

theorem State.onClip_of_gt (s : State) {n : Nat} (h : 511 < n) (rule : ClipRecord → Served) :
    s.onClip n rule = s.refuse .badArgument := if_pos h

theorem State.onClip_of_free (s : State) {n : Nat} (h : ¬ 511 < n) (hc : s.clip? n = none) (rule : ClipRecord → Served) :
    s.onClip n rule = s.refuse .notFound := by
  rw [State.onClip, if_neg h, hc]

theorem State.onClip_of_some (s : State) {n : Nat} {c : ClipRecord} (h : ¬ 511 < n) (hc : s.clip? n = some c)
    (rule : ClipRecord → Served) : s.onClip n rule = rule c := by
  rw [State.onClip, if_neg h, hc]

theorem State.onStream_of_lt (s : State) {n : Nat} (h : n < 2) (rule : StreamId → Served) :
    s.onStream n rule = rule ⟨n, h⟩ := by
  rw [State.onStream, streamOf, dif_pos h]

theorem State.onStream_of_not_lt (s : State) {n : Nat} (h : ¬ n < 2) (rule : StreamId → Served) :
    s.onStream n rule = s.refuse .badArgument := by
  rw [State.onStream, streamOf, dif_neg h]

theorem slotOf_of_lt {n : Nat} (h : n < 16) : slotOf n = some ⟨n, h⟩ := dif_pos h

theorem slotOf_of_not_lt {n : Nat} (h : ¬ n < 16) : slotOf n = none := dif_neg h

/-! ### The reads -/

theorem byteOf_latchCode (s : State) (k : Fin 16) (b : BankName) : byteOf (s.latchCode k b) =
    byteOf ((if (s.stream 0).latch = some (k, b) then 1 else 0) + if (s.stream 1).latch = some (k, b) then 2 else 0) := by
  simp only [State.latchCode, State.latchedBy, allStreams, List.filter_cons, List.filter_nil, beq_iff_eq]
  split_ifs <;> rfl

theorem byteOf_shadowName (x : Slot) : byteOf x.shadowName.code = if x.active = some .a then 1 else 0 := by
  unfold Slot.shadowName
  rcases x.active with - | - | - <;> rfl

theorem Slot.shadowBank_eq (x : Slot) : x.shadowBank = if x.active = some .a then x.bankB else x.bankA := by
  unfold Slot.shadowBank Slot.shadowName
  rcases x.active with - | - | - <;> rfl

theorem Bank.total_eq (b : Bank) : b.total = b.size.elim 0 fun n => 783 + 3 * n ^ 3 := by
  unfold Bank.total
  cases b.size <;> rfl

theorem byteOf_255 {a : Byte} : a.toNat = 255 ↔ a = 255 := by
  rw [← BitVec.toNat_inj]
  rfl

theorem State.currentTag_byte (s : State) (st : StreamId) : byteOf ((s.currentTag st).getD 0) =
    (((s.stream st).currentClip.bind s.clip?).map fun c => byteOf c.cameraTag).getD 0 := by
  unfold State.currentTag
  cases (s.stream st).currentClip with
  | none => rfl
  | some n => cases hc : s.clip? n <;> simp [hc, byteOf]

/-- Settles O23. -/
theorem tableAndUnitReads : Obligations.TableAndUnitReads := by
  refine ⟨⟨mem_faultKinds, fun e => ?_, fun j n place => ?_, fun c n => ?_, fun x => ⟨fun hx => ?_, fun hx => ?_⟩⟩,
    fun s p r h => ⟨fun hn => ?_, fun hn => ?_, fun hn => ?_⟩,
    fun s p r h => ⟨fun hn => ?_, fun hn => ?_, fun hn => ?_, fun hn => ?_, fun hn => ?_⟩⟩
  · rw [FaultEntry.bytes_eq, byteOf_severity]
    rfl
  · simp only [JobRecord.bytes, byteOf_jobState, byteOf_suspendCode, byteOf_standingCode, byteOf_flagCode]
    rfl
  · rw [ClipRecord.bytes_eq]
    rfl
  · rw [Stream.bytes, if_pos hx, Stream.closedBytes, hx]
    simp only [List.append_assoc]
    rfl
  · rw [Stream.bytes, if_neg hx, Stream.openBytes]
    simp only [byteOf_streamState hx, byteOf_mode, byteOf_encoding, frameBytes_eq, Resolution.bytes_eq, byteOf_backState,
      List.append_assoc]
    rfl
  · rw [exec_serve_taking (rule := State.endpointList) rfl h hn]
    congr 1
    split
    case h_1 hargs =>
      rw [hargs, State.endpointList, parseNone, withArgs_some, State.answer_done]
      have hentry : (s.takeRequest p).endpointBytes = fun e =>
          [byteOf e.name.port.val, byteOf e.name.id, byteOf e.kind.code] ++ beBytes 2 e.timeoutMs ++
            [byteOf e.state.code, byteOf (s.entriesTo e.name)] := rfl
      simp only [hentry, byteOf_endpointKind, byteOf_endpointState]
      rfl
    case h_2 hargs => rw [State.endpointList, parseNone_eq_none hargs]; rfl
  · rw [exec_serve_taking (rule := State.jobRead) rfl h hn]
    congr 1
    split
    case h_1 a hargs =>
      rw [hargs, State.jobRead, parseOne, withArgs_some]
      split
      case isTrue ha => rw [State.onJob_of_gt _ ha]; rfl
      case isFalse ha =>
        have htally (j : JobRecord) (x : CopyState) : (s.takeRequest p).tally j x =
            (j.clips.filter fun k => (s.clip? k).any fun c => c.copyState == x).length := by
          unfold State.tally
          congr 2
          funext k
          have hclip : (s.takeRequest p).clip? k = s.clip? k := rfl
          rw [State.clipIs, hclip]
          cases s.clip? k <;> rfl
        cases hj : s.job? a.toNat with
        | none => rw [State.onJob_of_free (s.takeRequest p) ha hj]; rfl
        | some j =>
          rw [State.onJob_of_some (s.takeRequest p) ha hj, State.answer_done]
          simp only [htally]
          rfl
    case h_2 hargs => rw [State.jobRead, parseOne_eq_none hargs]; rfl
  · rw [exec_serve_taking (rule := State.clipRead) rfl h hn]
    congr 1
    split
    case h_1 a b hargs =>
      rw [hargs, State.clipRead, parseWord, withArgs_some, be2_eq]
      dsimp only
      split
      case isTrue ha => rw [State.onClip_of_gt _ ha]; rfl
      case isFalse ha =>
        cases hc : s.clip? (a.toNat * 256 + b.toNat) with
        | none => rw [State.onClip_of_free (s.takeRequest p) ha hc]; rfl
        | some c => rw [State.onClip_of_some (s.takeRequest p) ha hc]; rfl
    case h_2 hargs => rw [State.clipRead, parseWord_eq_none hargs]; rfl
  · rw [exec_serve_taking (rule := State.lookStatus) rfl h hn]
    congr 1
    split
    case h_1 a hargs =>
      rw [hargs, State.lookStatus, parseOne, withArgs_some]
      simp only [byteOf_255]
      split
      case isTrue ha =>
        rw [State.answer_done]
        simp only [byteOf_directoryCode]
        rfl
      case isFalse ha =>
        by_cases hk : a.toNat < 16
        · rw [slotOf_of_lt hk, dif_pos hk, State.answer_done]
          simp only [State.slotBytes, byteOf_activeCode, byteOf_shadowName, byteOf_shadowState, Slot.coverage,
            Slot.shadowBank_eq, Bank.total_eq, byteOf_latchCode]
          rfl
        · rw [slotOf_of_not_lt hk, dif_neg hk]; rfl
    case h_2 hargs => rw [State.lookStatus, parseOne_eq_none hargs]; rfl
  · rw [exec_serve_taking (rule := State.reviewRead) rfl h hn]
    congr 1
    split
    case h_1 a hargs =>
      rw [hargs, State.reviewRead, parseOne, withArgs_some]
      by_cases ha : a.toNat < 2
      · rw [State.onStream_of_lt _ ha, dif_pos ha]; rfl
      · rw [State.onStream_of_not_lt _ ha, dif_neg ha]; rfl
    case h_2 hargs => rw [State.reviewRead, parseOne_eq_none hargs]; rfl
  · rw [exec_serve_taking (rule := State.defectList) rfl h hn]
    congr 1
    split
    case h_1 a hargs =>
      rw [hargs, State.defectList, parseOne, withArgs_some]
      by_cases ha : a.toNat ≤ 15 ∨ a = 255
      · have hgood : ¬ (15 < a.toNat ∧ a.toNat ≠ 255) := by
          rw [ne_eq, byteOf_255, not_and_not_right]
          exact fun h => ha.resolve_left (by omega)
        have hfound : (if a.toNat = 255 then s.spotter.defectMap else s.spotter.defectMap.filter fun d => d.tag == a.toNat) =
            s.spotter.defectMap.filter fun d => a == 255 || d.tag == a.toNat := by
          by_cases h255 : a = 255
          · rw [if_pos (byteOf_255.mpr h255), h255]
            simp
          · rw [if_neg fun h => h255 (byteOf_255.mp h), beq_false_of_ne h255]
            simp only [Bool.false_or]
        rw [if_neg hgood, if_pos ha, State.answer_done, ← hfound]
        rfl
      · have hbad : 15 < a.toNat ∧ a.toNat ≠ 255 := by
          rw [not_or, Nat.not_le] at ha
          exact ⟨ha.1, fun h => ha.2 (byteOf_255.mp h)⟩
        rw [if_pos hbad, if_neg ha]
        rfl
    case h_2 hargs => rw [State.defectList, parseOne_eq_none hargs]; rfl
  · rw [exec_serve_taking (rule := State.candidatesRead) rfl h hn]
    congr 1
    split
    case h_1 a hargs =>
      rw [hargs, State.candidatesRead, parseOne, withArgs_some]
      by_cases ha : a.toNat < 2
      · rw [State.onStream_of_lt _ ha, dif_pos ha, State.answer_done, byteOf_flagCode, State.currentTag_byte]
        have hclip : (if ((s.takeRequest p).stream ⟨a.toNat, ha⟩).currentClip.isSome = true then 1 else 0 : Byte) =
            if (s.stream ⟨a.toNat, ha⟩).currentClip = none then 0 else 1 := by
          show (if (s.stream ⟨a.toNat, ha⟩).currentClip.isSome = true then 1 else 0 : Byte) = _
          cases (s.stream ⟨a.toNat, ha⟩).currentClip <;> rfl
        rw [hclip]
        rfl
      · rw [State.onStream_of_not_lt _ ha, dif_neg ha]; rfl
    case h_2 hargs => rw [State.candidatesRead, parseOne_eq_none hargs]; rfl
  · rw [exec_serve_taking (rule := State.faultPeek) rfl h hn]
    congr 1
    split
    case h_1 a n hargs =>
      rw [hargs, State.faultPeek, parseTwo, withArgs_some]
      by_cases ha : a.toNat ≤ 127 ∧ 1 ≤ n.toNat ∧ n.toNat ≤ 128
      · rw [if_neg (by omega), if_pos ha, State.answer_done]
        simp only [List.append_assoc]
        rfl
      · rw [if_pos (by omega), if_neg ha]; rfl
    case h_2 hargs => rw [State.faultPeek, parseTwo_eq_none hargs]; rfl

end Sys2Proof.Machine
end

section
/-!
Requests that set or free a record: JOB RESUME, CHANNEL LIMIT SET, JOB REMOVE (R41, R59, R61), FAULT TAKE, CLIP CLEAR FAULTS (R161,
R163) and REVIEW OPEN (R128).
-/

namespace Sys2Proof.Machine

/-! ### Records set -/

theorem State.modJob_of_some {s : State} {n : Nat} {j : JobRecord} (h : s.job? n = some j) (f : JobRecord → JobRecord) :
    s.modJob n f = s.setJob n (some (f j)) := by
  rw [State.modJob, h]

theorem State.modClip_of_some {s : State} {n : Nat} {c : ClipRecord} (h : s.clip? n = some c) (f : ClipRecord → ClipRecord) :
    s.modClip n f = s.setClip n (some (f c)) := by
  rw [State.modClip, h]

/-- Clip records set one after another. -/
theorem State.foldl_setClip {α : Type} (xs : List α) (n : α → Nat) (c : α → Option ClipRecord) (s : State) :
    xs.foldl (fun s x => s.setClip (n x) (c x)) s =
      { s with table := { s.table with clips := xs.foldl (fun v x => v.setIfInBounds (n x) (c x)) s.table.clips } } := by
  induction xs generalizing s with
  | nil => rfl
  | cons x xs ih => rw [List.foldl_cons, ih]; rfl

/-! ### JOB RESUME, CHANNEL LIMIT SET, JOB REMOVE (R41, R59, R61) -/

theorem JobState.finished_iff (x : JobState) : x.finished = true ↔ x = .done ∨ x = .doneIncomplete ∨ x = .cancelled := by
  cases x <;> decide

theorem ClipRecord.isCurrent_eq (c : ClipRecord) : c.isCurrent = (c.currentStreams[0] || c.currentStreams[1]) := by
  have hany (v : Vector Bool 2) : (v.toList.any fun x => x) = (v[0] || v[1]) := by
    match v with
    | ⟨⟨[x, y]⟩, _⟩ => simp
  exact hany c.currentStreams

theorem State.clipIs_eq (s : State) (k : Nat) (f : ClipRecord → Bool) : s.clipIs k f = (s.clip? k).any f := by
  unfold State.clipIs
  cases s.clip? k <;> rfl

theorem Channel.disown_eq (n : Nat) : Channel.disown n = fun (c : Channel) =>
    match c with
    | .closing x => .closing (if x.job = some n then { x with job := none } else x)
    | y => y := by
  funext c
  cases c <;> rfl

theorem State.removeJob_eq (s : State) (n : Nat) (j : JobRecord) : s.removeJob n j =
    { s with
      table :=
        { clips := j.clips.foldl (fun v k => v.setIfInBounds k none) s.table.clips
          jobs := s.table.jobs.setIfInBounds n none
          admission := s.table.admission.filter fun k => k != n }
      offload := { s.offload with channels := s.offload.channels.map (Channel.disown n) } } := by
  have hclips : j.clips.foldl (fun s k => s.setClip k none) s = _ := State.foldl_setClip j.clips id (fun _ => none) s
  rw [State.removeJob]
  simp only [hclips]
  rfl

/-- Settles O26. -/
theorem jobRequests : Obligations.JobRequests := by
  unfold Obligations.JobRequests
  refine ⟨fun s p r h => ⟨fun hn => ?_, fun hn => ?_⟩, fun s p r h hn => ?_⟩
  · rw [exec_serve_taking (rule := State.jobResume) rfl h hn]
    congr 1
    split
    case h_1 a hargs =>
      rw [hargs, State.jobResume, parseOne, withArgs_some]
      split
      case isTrue ha => rw [State.onJob_of_gt _ ha]; rfl
      case isFalse ha =>
        cases hj : s.job? a.toNat with
        | none => rw [State.onJob_of_free (s.takeRequest p) ha hj]; rfl
        | some j =>
          rw [State.onJob_of_some (s.takeRequest p) ha hj,
            State.modJob_of_some (s := s.takeRequest p) hj]
          simp only [State.answer_ite, State.answer_refuse, State.answer_done]
    case h_2 hargs => rw [State.jobResume, parseOne_eq_none hargs]; rfl
  · rw [exec_serve_taking (rule := State.channelLimitSet) rfl h hn]
    congr 1
    split
    case h_1 a b hargs =>
      rw [hargs, State.channelLimitSet, parseTwo, withArgs_some]
      dsimp only
      by_cases hb : b.toNat = 0 ∨ 8 < b.toNat
      · rw [if_pos hb, if_pos (Or.inr hb)]; rfl
      · rw [if_neg hb]
        by_cases ha : 15 < a.toNat
        · rw [State.onJob_of_gt _ ha, if_pos (Or.inl ha)]; rfl
        · rw [if_neg fun h => h.elim ha hb]
          cases hj : s.job? a.toNat with
          | none => rw [State.onJob_of_free (s.takeRequest p) ha hj]; rfl
          | some j =>
            rw [State.onJob_of_some (s.takeRequest p) ha hj, State.modJob_of_some (s := s.takeRequest p) hj, byteOf_toNat]
            rfl
    case h_2 hargs => rw [State.channelLimitSet, parseTwo_eq_none hargs]; rfl
  · intro u
    rw [exec_serve_taking (rule := State.jobRemove) rfl h hn]
    congr 1
    split
    case h_1 a hargs =>
      rw [hargs, State.jobRemove, parseOne, withArgs_some]
      split
      case isTrue ha => rw [State.onJob_of_gt _ ha]; rfl
      case isFalse ha =>
        cases hj : s.job? a.toNat with
        | none => rw [State.onJob_of_free (s.takeRequest p) ha hj]; rfl
        | some j =>
          have hadmission : (s.table.admission.filter fun k => k != a.toNat) =
              s.table.admission.filter fun k => k ≠ a.toNat := by
            refine List.filter_congr fun y _ => ?_
            rw [bne, Bool.beq_eq_decide_eq, decide_not]
          rw [State.onJob_of_some (s.takeRequest p) ha hj]
          simp only [State.answer_ite, State.answer_refuse, State.answer_done, Bool.not_eq_true', ← Bool.not_eq_true,
            JobState.finished_iff, List.any_eq_true, State.clipIs_eq, ClipRecord.isCurrent_eq, State.removeJob_eq,
            Channel.disown_eq]
          rw [← hadmission]
          rfl
    case h_2 hargs => rw [State.jobRemove, parseOne_eq_none hargs]; rfl

/-! ### FAULT TAKE and CLIP CLEAR FAULTS (R161, R163) -/

theorem flagOf_of_le {n : Nat} (h : n ≤ 1) : flagOf n = some (decide (n = 1)) := by
  interval_cases n <;> rfl

theorem flagOf_of_gt {n : Nat} (h : ¬ n ≤ 1) : flagOf n = none := by
  rw [flagOf, if_neg (by omega), if_neg (by omega)]

theorem State.holdProtects_iff (s : State) (n : Nat) : s.holdProtects n = true ↔
    ∃ st : StreamId, (s.stream st).state = .held ∧ (s.stream st).currentClip = some n ∧
      (s.stream st).params.clearWhileHeld = false := by
  simp [State.holdProtects, mem_allStreams, and_assoc]

/-- FAULT TAKE of arguments in range (R161). -/
theorem State.faultTake_of_range (s : State) {n flag : Byte} (hn : 1 ≤ n.toNat ∧ n.toNat ≤ 128) (hf : flag.toNat ≤ 1) :
    s.faultTake [n, flag] = (s.takeFaults n.toNat (decide (flag.toNat = 1))).done
      ([byteOf (s.spotter.log.take n.toNat).length,
          byteOf (s.spotter.log.length - (s.spotter.log.take n.toNat).length)] ++
        beBytes 4 s.spotter.overflow ++ ((s.spotter.log.take n.toNat).map FaultEntry.bytes).flatten) := by
  simp only [State.faultTake, parseTwo, withArgs_some, flagOf_of_le hf, if_neg (show ¬ (n.toNat = 0 ∨ 128 < n.toNat) by omega)]

theorem State.faultTake_of_not_range (s : State) {n flag : Byte} (h : ¬ (1 ≤ n.toNat ∧ n.toNat ≤ 128 ∧ flag.toNat ≤ 1)) :
    s.faultTake [n, flag] = s.refuse .badArgument := by
  simp only [State.faultTake, parseTwo, withArgs_some]
  by_cases hf : flag.toNat ≤ 1
  · simp only [flagOf_of_le hf, if_pos (show n.toNat = 0 ∨ 128 < n.toNat by omega)]
  · simp only [flagOf_of_gt hf]

/-- Settles O52. -/
theorem faultTakeAndClear : Obligations.FaultTakeAndClear := by
  unfold Obligations.FaultTakeAndClear
  refine fun s p r h => ⟨fun hn => ?_, fun hn => ?_⟩
  · rw [exec_serve_taking (rule := State.faultTake) rfl h hn]
    congr 1
    split
    case h_1 n flag hargs =>
      rw [hargs]
      by_cases hr : 1 ≤ n.toNat ∧ n.toNat ≤ 128 ∧ flag.toNat ≤ 1
      · have hleft : s.spotter.log.length - (s.spotter.log.length - n.toNat) = min n.toNat s.spotter.log.length := by omega
        have hrest : s.spotter.log.length - min n.toNat s.spotter.log.length = s.spotter.log.length - n.toNat := by omega
        have hflag : (decide (flag.toNat = 1)) = decide (flag = 1) := by
          rw [decide_eq_decide, ← BitVec.toNat_inj]; rfl
        have hnotice (x : NoticeFlight) (k : Nat) : x.afterTake k =
            match x with
            | .none => .none
            | .orphan => .orphan
            | .carrying n => if n < k then .orphan else .carrying (n - k) := rfl
        rw [if_pos hr, State.faultTake_of_range _ ⟨hr.1, hr.2.1⟩ hr.2.2, State.answer_done, hflag]
        simp only [List.length_take, hleft]
        have hlog : (s.takeRequest p).spotter = s.spotter := rfl
        simp only [hlog, hrest, State.takeFaults, decide_eq_true_eq]
        rfl
      · rw [if_neg hr, State.faultTake_of_not_range _ hr]; rfl
    case h_2 hargs => rw [State.faultTake, parseTwo_eq_none hargs]; rfl
  · rw [exec_serve_taking (rule := State.clipClearFaults) rfl h hn]
    congr 1
    split
    case h_1 a b hargs =>
      rw [hargs, State.clipClearFaults, parseWord, withArgs_some, be2_eq]
      dsimp only
      by_cases ha : 511 < a.toNat * 256 + b.toNat
      · rw [State.onClip_of_gt _ ha, if_pos ha]; rfl
      · rw [if_neg ha]
        cases hc : s.clip? (a.toNat * 256 + b.toNat) with
        | none => rw [State.onClip_of_free (s.takeRequest p) ha hc]; rfl
        | some c =>
          rw [State.onClip_of_some (s.takeRequest p) ha hc, State.modClip_of_some (s := s.takeRequest p) hc]
          simp only [State.answer_ite, State.answer_refuse, State.answer_done, State.holdProtects_iff]
          rfl
    case h_2 hargs => rw [State.clipClearFaults, parseWord_eq_none hargs]; rfl

/-! ### REVIEW OPEN (R128) -/

/-- The ranges of REVIEW OPEN's arguments (R128 check 1). -/
abbrev OpenArgs.InRange (a : OpenArgs) : Prop :=
  a.stream < 2 ∧ a.decoderPort < 4 ∧ a.outputPort < 4 ∧ (1 ≤ a.decoderId ∧ a.decoderId ≤ 15) ∧
    (1 ≤ a.outputId ∧ a.outputId ≤ 15) ∧ (16 ≤ a.width ∧ a.width ≤ 4096) ∧ (16 ≤ a.height ∧ a.height ≤ 2304) ∧
    a.encoding ≤ 2 ∧ a.mode ≤ 1 ∧ (a.stall = 0 ∨ 10 ≤ a.stall ∧ a.stall ≤ 10000) ∧ a.permission ≤ 1 ∧
    (a.mode = 1 → (1 ≤ a.num ∧ a.num ≤ 655350) ∧ (1 ≤ a.den ∧ a.den ≤ 65535) ∧ a.den ≤ a.num ∧ a.num ≤ 120 * a.den)

/-- The parameters that arguments in range spell (R128). -/
def OpenArgs.settings (a : OpenArgs) (h : a.InRange) : StreamParams where
  decoder := ⟨⟨a.decoderPort, h.2.1⟩, a.decoderId⟩
  output := ⟨⟨a.outputPort, h.2.2.1⟩, a.outputId⟩
  width := a.width
  height := a.height
  encoding := if a.encoding = 0 then .full10 else if a.encoding = 1 then .narrow10 else .full12
  mode := if a.mode = 0 then .streaming else .paced
  rateNum := a.num
  rateDen := a.den
  stallMs := if a.stall = 0 then 500 else a.stall
  clearWhileHeld := a.permission = 1

theorem Encoding.ofCode_of_le {n : Nat} (h : n ≤ 2) :
    Encoding.ofCode n = some (if n = 0 then .full10 else if n = 1 then .narrow10 else .full12) := by
  interval_cases n <;> rfl

theorem Encoding.ofCode_eq_none {n : Nat} (h : ¬ n ≤ 2) : Encoding.ofCode n = none := by
  match n, h with
  | n + 3, _ => rfl

theorem Mode.ofCode_of_le {n : Nat} (h : n ≤ 1) : Mode.ofCode n = some (if n = 0 then .streaming else .paced) := by
  interval_cases n <;> rfl

theorem Mode.ofCode_eq_none {n : Nat} (h : ¬ n ≤ 1) : Mode.ofCode n = none := by
  match n, h with
  | n + 2, _ => rfl

theorem OpenArgs.good_iff (a : OpenArgs) : a.good = true ↔
    (16 ≤ a.width ∧ a.width ≤ 4096) ∧ (16 ≤ a.height ∧ a.height ≤ 2304) ∧
      (a.stall = 0 ∨ 10 ≤ a.stall ∧ a.stall ≤ 10000) ∧
      (a.mode = 1 → (1 ≤ a.num ∧ a.num ≤ 655350) ∧ (1 ≤ a.den ∧ a.den ≤ 65535) ∧ a.den ≤ a.num ∧ a.num ≤ 120 * a.den) := by
  simp only [OpenArgs.good, OpenArgs.rateGood, Bool.and_eq_true, Bool.or_eq_true, decide_eq_true_eq, beq_iff_eq, bne_iff_ne,
    imp_iff_not_or, and_assoc, ne_eq]

theorem OpenArgs.params_of_range {a : OpenArgs} (h : a.InRange) : a.params = some (⟨a.stream, h.1⟩, a.settings h) := by
  have hset := h
  obtain ⟨hst, hdp, hop, hdi, hoi, hw, hh, henc, hmode, hstall, hperm, hrate⟩ := h
  rw [OpenArgs.params, if_pos (a.good_iff.mpr ⟨hw, hh, hstall, hrate⟩)]
  simp only [streamOf, dif_pos hst, nameOf_of_range hdp hdi, nameOf_of_range hop hoi, Encoding.ofCode_of_le henc,
    Mode.ofCode_of_le hmode, flagOf_of_le hperm]
  rfl

theorem OpenArgs.params_of_not_range {a : OpenArgs} (h : ¬ a.InRange) : a.params = none := by
  unfold OpenArgs.params
  split
  case isTrue hgood =>
    obtain ⟨hw, hh, hstall, hrate⟩ := a.good_iff.mp hgood
    split
    case h_1 st decoder output encoding mode permission hst hd ho he hm hp =>
      refine absurd ?_ h
      have hst' : a.stream < 2 := by
        by_contra hc
        rw [streamOf, dif_neg hc] at hst
        exact nomatch hst
      have hd' : a.decoderPort < 4 ∧ 1 ≤ a.decoderId ∧ a.decoderId ≤ 15 := by
        by_contra hc
        rw [nameOf_of_not_range hc] at hd
        exact nomatch hd
      have ho' : a.outputPort < 4 ∧ 1 ≤ a.outputId ∧ a.outputId ≤ 15 := by
        by_contra hc
        rw [nameOf_of_not_range hc] at ho
        exact nomatch ho
      have he' : a.encoding ≤ 2 := by
        by_contra hc
        rw [Encoding.ofCode_eq_none hc] at he
        exact nomatch he
      have hm' : a.mode ≤ 1 := by
        by_contra hc
        rw [Mode.ofCode_eq_none hc] at hm
        exact nomatch hm
      have hp' : a.permission ≤ 1 := by
        by_contra hc
        rw [flagOf_of_gt hc] at hp
        exact nomatch hp
      exact ⟨hst', hd'.1, ho'.1, hd'.2, ho'.2, hw, hh, he', hm', hstall, hp', hrate⟩
    case h_2 => rfl
  case isFalse => rfl

theorem State.modStream_modStream (s : State) (st : StreamId) (f g : Stream → Stream) :
    (s.modStream st f).modStream st g = s.modStream st fun x => g (f x) := by
  simp [State.modStream, State.stream]

/-- A stream just opened, before its raster credits are granted (R128). -/
def State.opened (s : State) (st : StreamId) (x : StreamParams) : State :=
  (s.modStream st fun _ =>
    { Stream.closed x with
      state := .waiting
      stallTimer := some (s.supply.timeBase + BitVec.ofNat 64 (x.stallMs * 1000)) }).modSpot st fun y =>
    { SpotterStream.reset with config := y.config }

/-- A stream opened: WAITING with its parameters, its stall timer running, and its raster credits granted (R7, R128). -/
theorem State.openStream_eq (s : State) (st : StreamId) (x : StreamParams) : s.openStream st x =
    if (s.port x.decoder.port).link = .up then
      (s.opened st x).modPort x.decoder.port fun y =>
        { y with
          receive := y.receive.set (if st = 0 then 2 else 3 : Fin 4).val
            ⟨y.receive[(if st = 0 then 2 else 3 : Fin 4)].count + 16, y.receive[(if st = 0 then 2 else 3 : Fin 4)].count⟩
            (if st = 0 then 2 else 3 : Fin 4).isLt
          creditDue := y.creditDue ||
            y.receive[(if st = 0 then 2 else 3 : Fin 4)].count + 16 != y.receive[(if st = 0 then 2 else 3 : Fin 4)].total }
    else s.opened st x := by
  have hindex : (PacketClass.raster st).index = if st = 0 then 2 else 3 := by fin_cases st <;> rfl
  have hstream : (s.opened st x).stream st = { Stream.closed x with
      state := .waiting, stallTimer := some (s.supply.timeBase + BitVec.ofNat 64 (x.stallMs * 1000)) } := by
    simp [State.opened, State.stream, State.modStream]
  have hopened : ((s.modStream st fun _ => { Stream.closed x with state := .waiting }).restartStall st).modSpot st (·.opened) =
      s.opened st x := by
    rw [State.restartStall, State.modStream_modStream]
    rfl
  have hgrant : (s.opened st x).rasterGrant st x.decoder.port = 16 := by
    simp [State.rasterGrant, State.grantsRaster, hstream, Stream.closed, Stream.buffersOn, Config.rasterBuffers]
  rw [State.openStream]
  simp only [hopened, hgrant]
  simp only [State.isUp_iff, PortState.grantRaster, hindex]
  rfl

theorem isNone_kind (x : Option Endpoint) : x.isNone = true ↔ x.map (·.kind) = none := by cases x <;> simp

theorem any_kind_eq_false (x : Option Endpoint) (k : EndpointKind) :
    x.any (fun e => e.kind == k) = false ↔ x.map (·.kind) ≠ some k := by
  cases x <;> simp

/-- Settles O43. -/
theorem reviewOpen : Obligations.ReviewOpen := by
  unfold Obligations.ReviewOpen
  refine fun s p r h hn => ⟨fun hargs => ?_, fun a hargs => ?_⟩
  · rw [exec_serve_taking (rule := State.reviewOpen) rfl h hn, State.reviewOpen, hargs]
    rfl
  · rw [exec_serve_taking (rule := State.reviewOpen) rfl h hn, State.reviewOpen, hargs, withArgs_some]
    congr 1
    by_cases hr : a.InRange
    · rw [dif_pos hr, OpenArgs.params_of_range hr]
      simp only [State.answer_ite, State.answer_refuse, State.answer_done, State.openStream_eq, Bool.or_eq_true,
        isNone_kind, Bool.not_eq_true', Bool.and_eq_false_iff, any_kind_eq_false]
      rfl
    · rw [dif_neg hr, OpenArgs.params_of_not_range hr]; rfl

end Sys2Proof.Machine
end

section
/-!
JOB ADD: its checks in their order, and the job and clips it allocates (R39, R40).
-/

namespace Sys2Proof.Machine

/-! ### Names and checks (R39) -/

/-- The port and id of a name. -/
def EpName.pair (e : EpName) : Nat × Nat := (e.port.val, e.id)

theorem EpName.pair_injective : Function.Injective EpName.pair := by
  intro e f h
  obtain ⟨hport, hid⟩ := Prod.mk.inj h
  cases e
  cases f
  rw [EpName.mk.injEq]
  exact ⟨Fin.ext hport, hid⟩

theorem nameOf_eq_some {n id : Nat} {e : EpName} :
    nameOf n id = some e ↔ e.pair = (n, id) ∧ n < 4 ∧ 1 ≤ id ∧ id ≤ 15 := by
  constructor
  · intro h
    have hr : n < 4 ∧ 1 ≤ id ∧ id ≤ 15 := by
      by_contra hc
      rw [nameOf_of_not_range hc] at h
      exact nomatch h
    rw [nameOf_of_range hr.1 hr.2, Option.some.injEq] at h
    exact ⟨by rw [← h]; rfl, hr⟩
  · rintro ⟨hpair, hr⟩
    rw [nameOf_of_range hr.1 hr.2, Option.some.injEq]
    exact EpName.pair_injective hpair.symm

theorem mapM_nameOf_eq_some (ds : List DestArgs) (es : List EpName) :
    (ds.mapM fun d => nameOf d.port d.id) = some es ↔
      es.map EpName.pair = (ds.map fun d => (d.port, d.id)) ∧ ∀ d ∈ ds, d.port < 4 ∧ 1 ≤ d.id ∧ d.id ≤ 15 := by
  induction ds generalizing es with
  | nil => cases es <;> simp
  | cons d ds ih =>
    simp only [List.mapM_cons, Option.bind_eq_bind, Option.bind_eq_some_iff, Option.pure_def, Option.some.injEq, nameOf_eq_some, ih]
    constructor
    · rintro ⟨e, ⟨he, hr⟩, fs, ⟨hfs, hrs⟩, rfl⟩
      exact ⟨by simp [he, hfs], by simpa using ⟨hr, hrs⟩⟩
    · rintro ⟨hmap, hr⟩
      rw [List.forall_mem_cons] at hr
      cases es with
      | nil => simp at hmap
      | cons e fs =>
        obtain ⟨he, hfs⟩ := List.cons.inj hmap
        exact ⟨e, ⟨he, hr.1⟩, fs, ⟨hfs, hr.2⟩, rfl⟩

theorem noRepeat_iff {α : Type} [BEq α] [LawfulBEq α] (xs : List α) : noRepeat xs = true ↔ xs.Nodup := by
  induction xs with
  | nil => simp [noRepeat]
  | cons x xs ih => simp [noRepeat, ih]

theorem lookOfCode_isSome_iff (n : Nat) : (lookOfCode n).isSome = true ↔ n ≤ 63 ∨ n = 255 := by
  unfold lookOfCode
  split_ifs <;> simp_all

theorem ClipArgs.good_iff (c : ClipArgs) :
    c.good = true ↔ c.tag ≤ 15 ∧ c.flag ≤ 1 ∧ (c.look ≤ 63 ∨ c.look = 255) ∧ c.name ≠ [] := by
  simp [ClipArgs.good, lookOfCode_isSome_iff, and_assoc]

theorem JobArgs.good_iff (a : JobArgs) {dests : List EpName} (h : dests.map EpName.pair = a.dests.map fun d => (d.port, d.id)) :
    a.good dests = true ↔ a.limit ≤ 8 ∧ 1 ≤ a.dests.length ∧ a.dests.length ≤ 4 ∧ 1 ≤ a.clips.length ∧ a.clips.length ≤ 128 ∧
      (∀ d ∈ a.dests, d.root ≠ []) ∧
      (∀ c ∈ a.clips, c.tag ≤ 15 ∧ c.flag ≤ 1 ∧ (c.look ≤ 63 ∨ c.look = 255) ∧ c.name ≠ []) ∧
      (a.dests.map fun d => (d.port, d.id)).Nodup ∧ (a.clips.map (·.name)).Nodup := by
  rw [← h, List.nodup_map_iff EpName.pair_injective]
  simp [JobArgs.good, noRepeat_iff, ClipArgs.good_iff, and_assoc]

/-- The values of a JOB ADD that R39's first check admits: the ends in range, and the rest. -/
abbrev JobArgs.Admitted (a : JobArgs) : Prop :=
  (∀ e ∈ (a.port, a.id) :: a.dests.map fun d => (d.port, d.id), e.1 < 4 ∧ 1 ≤ e.2 ∧ e.2 ≤ 15) ∧
    a.limit ≤ 8 ∧ 1 ≤ a.dests.length ∧ a.dests.length ≤ 4 ∧ 1 ≤ a.clips.length ∧ a.clips.length ≤ 128 ∧
    (∀ d ∈ a.dests, d.root ≠ []) ∧
    (∀ c ∈ a.clips, c.tag ≤ 15 ∧ c.flag ≤ 1 ∧ (c.look ≤ 63 ∨ c.look = 255) ∧ c.name ≠ []) ∧
    (a.dests.map fun d => (d.port, d.id)).Nodup ∧ (a.clips.map (·.name)).Nodup

theorem JobArgs.ends_range (a : JobArgs) :
    (∀ e ∈ (a.port, a.id) :: a.dests.map fun d => (d.port, d.id), e.1 < 4 ∧ 1 ≤ e.2 ∧ e.2 ≤ 15) ↔
      (a.port < 4 ∧ 1 ≤ a.id ∧ a.id ≤ 15) ∧ ∀ d ∈ a.dests, d.port < 4 ∧ 1 ≤ d.id ∧ d.id ≤ 15 := by
  simp

/-- JOB ADD whose values are admitted goes on with the later checks (R39). -/
theorem State.jobAdd_of_admitted (s : State) {args : List Byte} {a : JobArgs} (ha : parseJob args = some a) (h : a.Admitted)
    {source : EpName} {dests : List EpName}
    (hends : (source :: dests).map EpName.pair = (a.port, a.id) :: a.dests.map fun d => (d.port, d.id)) :
    s.jobAdd args = s.enrol a source dests := by
  obtain ⟨hrange, hgood⟩ := h
  obtain ⟨hsource, hdests⟩ := List.cons.inj hends
  obtain ⟨hsr, hdr⟩ := a.ends_range.mp hrange
  have hname : nameOf a.port a.id = some source := nameOf_eq_some.mpr ⟨hsource, hsr⟩
  have hnames : a.destNames = some dests := (mapM_nameOf_eq_some _ _).mpr ⟨hdests, hdr⟩
  rw [State.jobAdd, ha, withArgs_some]
  simp only [hname, hnames, if_pos ((a.good_iff hdests).mpr hgood)]

theorem State.jobAdd_of_not_admitted (s : State) {args : List Byte} {a : JobArgs} (ha : parseJob args = some a)
    (h : ¬ a.Admitted) : s.jobAdd args = s.refuse .badArgument := by
  rw [State.jobAdd, ha, withArgs_some]
  split
  case h_1 source dests hname hnames =>
    obtain ⟨-, hsr⟩ := nameOf_eq_some.mp hname
    obtain ⟨hdests, hdr⟩ := (mapM_nameOf_eq_some _ _).mp hnames
    exact if_neg fun hgood => h ⟨a.ends_range.mpr ⟨hsr, hdr⟩, (a.good_iff hdests).mp hgood⟩
  case h_2 => rfl

/-! ### The later checks (R39) -/

theorem State.kindIs_iff (s : State) (e : EpName) (k : EndpointKind) :
    s.kindIs e k = true ↔ ∃ x, s.endpoint? e = some x ∧ x.kind = k := by
  unfold State.kindIs
  cases s.endpoint? e <;> simp

theorem State.leaving_iff (s : State) (e : EpName) :
    s.leaving e = true ↔ ∃ x, s.endpoint? e = some x ∧ (x.state = .draining ∨ x.state = .released) := by
  unfold State.leaving
  cases s.endpoint? e <;> simp

/-- The lowest-numbered free job record (R40). -/
theorem State.freeJob_of_first (s : State) {n : Nat} (hn : n < 16) (hfree : s.job? n = none) (hbelow : ∀ m < n, s.job? m ≠ none) :
    s.freeJob = some n := by
  have hjob {m : Nat} (hm : m < s.table.jobs.toList.length) : s.table.jobs.toList[m] = s.job? m := by
    have : m < 16 := by simpa using hm
    simp [State.job?, Vector.getElem?_eq_getElem this]
  rw [State.freeJob, List.findIdx?_eq_some_iff_getElem]
  refine ⟨by simpa using hn, by rw [hjob, hfree]; rfl, fun m hm => ?_⟩
  rw [hjob]
  simpa [Option.isNone_iff_eq_none] using hbelow m hm

theorem State.freeJob_of_full (s : State) (h : ∀ n < 16, s.job? n ≠ none) : s.freeJob = none := by
  rw [State.freeJob, List.findIdx?_eq_none_iff]
  intro x hx
  obtain ⟨n, hn, rfl⟩ := List.getElem_of_mem hx
  have hlt : n < 16 := by simpa using hn
  have := h n hlt
  simp only [State.job?, Vector.getElem?_eq_getElem hlt, Option.join_some] at this
  simpa [Option.isNone_iff_eq_none, Option.isSome_iff_ne_none] using this

/-- The places at which a list meets a test, in ascending order. -/
theorem zipIdx_filter_map {α : Type} (l : List α) (f : α → Bool) :
    (l.zipIdx.filter fun xi => f xi.1).map (fun xi => xi.2) = (List.range l.length).filter fun n => (l[n]?).any f := by
  induction l using List.reverseRecOn with
  | nil => rfl
  | append_singleton l x ih =>
    have hbelow : (List.range l.length).filter (fun n => ((l ++ [x])[n]?).any f) =
        (List.range l.length).filter fun n => (l[n]?).any f := by
      refine List.filter_congr fun n hn => ?_
      rw [List.getElem?_append_left (List.mem_range.mp hn)]
    rw [List.zipIdx_append, List.filter_append, List.map_append, ih, List.length_append, List.length_singleton,
      List.range_succ, List.filter_append, hbelow]
    cases hx : f x <;> simp [hx]

theorem State.freeClips_eq (s : State) : s.freeClips = (List.range 512).filter fun n => (s.clip? n).isNone := by
  rw [State.freeClips, zipIdx_filter_map s.table.clips.toList fun x => x.isNone]
  have hlength : s.table.clips.toList.length = 512 := by simp
  rw [hlength]
  refine List.filter_congr fun n hn => ?_
  have hlt : n < 512 := List.mem_range.mp hn
  simp [State.clip?, hlt]

/-! ### The job allocated (R40) -/

theorem State.allocate_eq (s : State) (a : JobArgs) (source : EpName) (dests : List EpName) (job : Nat) (clips : List Nat) :
    s.allocate a source dests job clips =
      { s with table :=
          { clips := (clips.zip a.clips).foldl (fun v nc => v.setIfInBounds nc.1 (some (nc.2.record job dests))) s.table.clips
            jobs := s.table.jobs.setIfInBounds job (some (a.record source dests clips))
            admission := s.table.admission ++ [job] } } := by
  have hclips : (clips.zip a.clips).foldl (fun s nc => s.setClip nc.1 (some (nc.2.record job dests))) s = _ :=
    State.foldl_setClip (clips.zip a.clips) (·.1) (fun nc => some (nc.2.record job dests)) s
  rw [State.allocate]
  simp only [hclips]
  rfl

/-- The last check of JOB ADD and its effect, its destinations being free to take it (R39, R40). -/
def State.enrolRecords (s : State) (a : JobArgs) (source : EpName) (dests : List EpName) : Served :=
  match s.freeJob with
  | none => s.refuse .full
  | some job =>
    if s.freeClips.length < a.clips.length then s.refuse .full
    else
      (s.allocate a source dests job (s.freeClips.take a.clips.length)).done
        (byteOf job :: byteOf (s.freeClips.take a.clips.length).length ::
          ((s.freeClips.take a.clips.length).map fun n => beBytes 2 n).flatten)

/-- The second and third check of JOB ADD pass: the endpoints are there and of the right kinds (R39). -/
def State.knowsEnds (s : State) (source : EpName) (dests : List EpName) : Prop :=
  (∀ e ∈ source :: dests, s.endpoint? e ≠ none) ∧
    (∃ x, s.endpoint? source = some x ∧ x.kind = .source) ∧ ∀ e ∈ dests, ∃ x, s.endpoint? e = some x ∧ x.kind = .dest

section
variable (s : State) (a : JobArgs) (source : EpName) (dests : List EpName)

theorem State.enrol_of_missing (h : ∃ e ∈ source :: dests, s.endpoint? e = none) :
    s.enrol a source dests = s.refuse .notFound := by
  rw [State.enrol, if_pos]
  rw [Bool.not_eq_true', List.all_eq_false]
  obtain ⟨e, he, hnone⟩ := h
  exact ⟨e, he, by simp [hnone]⟩

theorem State.enrol_of_there (h : ∀ e ∈ source :: dests, s.endpoint? e ≠ none) : s.enrol a source dests =
    if !(s.kindIs source .source && dests.all fun e => s.kindIs e .dest) then s.refuse .badArgument
    else if dests.any s.leaving then s.refuse .wrongState
    else s.enrolRecords a source dests := by
  have hall : ((source :: dests).all fun e => (s.endpoint? e).isSome) = true :=
    List.all_eq_true.mpr fun e he => Option.isSome_iff_ne_none.mpr (h e he)
  rw [State.enrol, hall, Bool.not_true, if_neg Bool.false_ne_true]
  rfl

theorem State.enrol_of_wrong_kind (h : ∀ e ∈ source :: dests, s.endpoint? e ≠ none)
    (hkind : (¬ ∃ x, s.endpoint? source = some x ∧ x.kind = .source) ∨
      ∃ e ∈ dests, ¬ ∃ x, s.endpoint? e = some x ∧ x.kind = .dest) :
    s.enrol a source dests = s.refuse .badArgument := by
  rw [State.enrol_of_there s a source dests h, if_pos]
  simp only [← State.kindIs_iff] at hkind
  simpa [← Bool.not_eq_true, imp_iff_not_or] using hkind

theorem State.enrol_of_known (h : s.knowsEnds source dests) : s.enrol a source dests =
    if dests.any s.leaving then s.refuse .wrongState
    else s.enrolRecords a source dests := by
  obtain ⟨hthere, hsource, hdests⟩ := h
  have hkinds : (s.kindIs source .source && dests.all fun e => s.kindIs e .dest) = true := by
    rw [Bool.and_eq_true, List.all_eq_true]
    exact ⟨(s.kindIs_iff _ _).mpr hsource, fun e he => (s.kindIs_iff _ _).mpr (hdests e he)⟩
  rw [State.enrol_of_there s a source dests hthere, hkinds, Bool.not_true, if_neg Bool.false_ne_true]

theorem State.enrol_of_leaving (h : s.knowsEnds source dests)
    (hleaving : ∃ e ∈ dests, ∃ x, s.endpoint? e = some x ∧ (x.state = .draining ∨ x.state = .released)) :
    s.enrol a source dests = s.refuse .wrongState := by
  simp only [← State.leaving_iff] at hleaving
  rw [State.enrol_of_known s a source dests h, if_pos (List.any_eq_true.mpr hleaving)]

theorem State.enrol_of_staying (h : s.knowsEnds source dests)
    (hstay : ∀ e ∈ dests, ¬ ∃ x, s.endpoint? e = some x ∧ (x.state = .draining ∨ x.state = .released)) :
    s.enrol a source dests =
      s.enrolRecords a source dests := by
  simp only [← State.leaving_iff] at hstay
  rw [State.enrol_of_known s a source dests h, if_neg]
  rw [List.any_eq_true]
  rintro ⟨e, he, hleaving⟩
  exact hstay e he hleaving

end

/-- Settles O24, check by check. -/
theorem jobAdd : Obligations.JobAdd := by
  unfold Obligations.JobAdd
  intro s p r h hn u
  have hexec := exec_serve_taking (c := .jobAdd) (rule := State.jobAdd) rfl h hn
  refine ⟨fun ha => ?_, fun a ha => ⟨fun hbad => ?_, fun hgood source dests hends => ?_⟩⟩
  · rw [hexec, State.jobAdd, ha]
    rfl
  · rw [hexec, State.jobAdd_of_not_admitted _ ha hbad]
    rfl
  · rw [State.jobAdd_of_admitted _ ha hgood hends] at hexec
    refine ⟨fun hmissing => ?_, fun hthere => ⟨fun hkind => ?_, fun hsource hdests => ⟨fun hleaving => ?_, fun hstay => ⟨?_, ?_⟩⟩⟩⟩
    · rw [hexec, State.enrol_of_missing (s.takeRequest p) a source dests hmissing]
      rfl
    · rw [hexec, State.enrol_of_wrong_kind (s.takeRequest p) a source dests hthere hkind]
      rfl
    · rw [hexec, State.enrol_of_leaving (s.takeRequest p) a source dests ⟨hthere, hsource, hdests⟩ hleaving]
      rfl
    · intro hfull
      rw [hexec, State.enrol_of_staying (s.takeRequest p) a source dests ⟨hthere, hsource, hdests⟩ hstay, State.enrolRecords]
      congr 1
      rcases hfull with hfull | hfull
      · rw [State.freeJob_of_full (s.takeRequest p) hfull]
        rfl
      · rw [← State.freeClips_eq] at hfull
        cases (s.takeRequest p).freeJob with
        | none => rfl
        | some job => exact congrArg _ (if_pos hfull)
    · intro job hjob hfree hbelow hroom clips
      have hclips : (s.takeRequest p).freeClips.take a.clips.length = clips := by
        rw [State.freeClips_eq]
        rfl
      have hroom' : ¬ (s.takeRequest p).freeClips.length < a.clips.length := by
        rw [State.freeClips_eq, Nat.not_lt]
        exact hroom
      rw [hexec, State.enrol_of_staying (s.takeRequest p) a source dests ⟨hthere, hsource, hdests⟩ hstay,
        State.enrolRecords, State.freeJob_of_first (s.takeRequest p) hjob hfree hbelow]
      simp only [if_neg hroom', hclips, State.answer_done, State.allocate_eq]
      rfl

end Sys2Proof.Machine
end

section
/-!
The supply monitor and the three restarts (chapter 12: R172 to R175, with R12, R47 and R92).
-/

namespace Sys2Proof.Machine

/-! ### The time base -/

section
variable (s : State) (t : Word64)

/-- Moving the time base on changes the time base alone (log entry 8). -/
theorem State.advanceTo_eq : s.advanceTo t =
    { s with supply := { s.supply with timeBase := if s.supply.timeBase.toNat < t.toNat then t else s.supply.timeBase } } := by
  unfold State.advanceTo State.now
  split <;> rfl

@[simp] theorem State.advanceTo_link : (s.advanceTo t).link = s.link := by rw [State.advanceTo_eq]
@[simp] theorem State.advanceTo_control : (s.advanceTo t).control = s.control := by rw [State.advanceTo_eq]
@[simp] theorem State.advanceTo_table : (s.advanceTo t).table = s.table := by rw [State.advanceTo_eq]
@[simp] theorem State.advanceTo_offload : (s.advanceTo t).offload = s.offload := by rw [State.advanceTo_eq]
@[simp] theorem State.advanceTo_look : (s.advanceTo t).look = s.look := by rw [State.advanceTo_eq]
@[simp] theorem State.advanceTo_review : (s.advanceTo t).review = s.review := by rw [State.advanceTo_eq]
@[simp] theorem State.advanceTo_spotter : (s.advanceTo t).spotter = s.spotter := by rw [State.advanceTo_eq]
@[simp] theorem State.advanceTo_pending : (s.advanceTo t).pending = s.pending := by rw [State.advanceTo_eq]
@[simp] theorem State.advanceTo_freeCount : (s.advanceTo t).freeCount = s.freeCount := by rw [State.advanceTo_eq]
@[simp] theorem State.advanceTo_supplyState : (s.advanceTo t).supply.state = s.supply.state := by rw [State.advanceTo_eq]
@[simp] theorem State.advanceTo_options : (s.advanceTo t).supply.options = s.supply.options := by rw [State.advanceTo_eq]
@[simp] theorem State.advanceTo_rail : (s.advanceTo t).supply.rail = s.supply.rail := by rw [State.advanceTo_eq]

end

/-! ### The supply monitor (R172) -/

/-- The three filters as the state and the rail make them run (R172). -/
theorem SupplyUnit.refreshFilters_eq (x : SupplyUnit) : x.refreshFilters =
    { x with
      warnEntry := if x.state ≠ .warn ∧ x.rail < x.options.warnMv then some (x.warnEntry.getD x.timeBase) else none
      warnClear := if x.state = .warn ∧ x.options.warnMv + 50 < x.rail then some (x.warnClear.getD x.timeBase) else none
      crit := if x.rail < x.options.critMv then some (x.crit.getD x.timeBase) else none } := by
  simp [SupplyUnit.refreshFilters, filterStart]

theorem resumeDelay_word (o : Options) : BitVec.ofNat 64 (resumeDelayUs o) = if o.resumeLong = true then 50000 else 1000 := by
  unfold resumeDelayUs
  split <;> rfl

theorem exec_whenRunning {f : State → State} {c : Instr} {s : State} (h : exec c s = .next (s.whenRunning f))
    (hrun : s.running = true) : exec c s = .next (f s) := by
  rw [h, State.whenRunning_running hrun]

/-- Every row but those of the rail and of two restarts acts only while the part runs (R173). -/
theorem exec_eq_whenRunning {c : Instr} (hrail : ∀ mv, c ≠ .railLevelChange mv) (hbrown : ∀ b, c ≠ .brownoutRestart b)
    (hpower : ∀ b, c ≠ .powerOnRestart b) : ∃ f, ∀ s, exec c s = .next (s.whenRunning f) := by
  cases c
  case railLevelChange mv => exact absurd rfl (hrail mv)
  case brownoutRestart b => exact absurd rfl (hbrown b)
  case powerOnRestart b => exact absurd rfl (hpower b)
  all_goals exact ⟨_, fun _ => rfl⟩

/-- Settles O53. -/
theorem supplyMonitor : Obligations.SupplyMonitor := by
  refine ⟨fun s hrun => ?_, fun s c hheld hrail hbrown hpower => ?_⟩
  · intro refreshed
    have hrefreshed (x : SupplyUnit) : x.refreshFilters = refreshed x := x.refreshFilters_eq
    have hoptions (x : SupplyUnit) : (refreshed x).options = x.options := rfl
    clear_value refreshed
    refine ⟨fun mv => ?_, fun h => ?_, fun time h => ?_, fun h => ?_, fun time h => ?_, fun h => ?_, fun time h hstate => ?_⟩
    · show Host.Outcome.next (s.modSupply _) = _
      simp only [hrun, if_true, hrefreshed]
      rfl
    · rw [exec_whenRunning (f := State.enterWarn) rfl hrun, State.enterWarn, h]
    · rw [exec_whenRunning (f := State.enterWarn) rfl hrun, State.enterWarn, h]
      simp only [State.setSupplyPause, State.modSupply, State.file_supply, hrefreshed, hoptions, State.advanceTo_options]
    · rw [exec_whenRunning (f := State.clearWarn) rfl hrun, State.clearWarn, h]
    · rw [exec_whenRunning (f := State.clearWarn) rfl hrun, State.clearWarn, h]
      simp only [State.setSupplyPause, State.modSupply, hrefreshed, hoptions, State.advanceTo_options, State.later, State.now,
        resumeDelay_word]
    · rw [exec_whenRunning (f := State.supplyResumes) rfl hrun, State.supplyResumes, h]
    · rw [exec_whenRunning (f := State.supplyResumes) rfl hrun, State.supplyResumes, h]
      simp only [State.modSupply, State.advanceTo_supplyState, hstate, if_true, hrefreshed]
  · obtain ⟨f, hf⟩ := exec_eq_whenRunning hrail hbrown hpower
    rw [hf, State.whenRunning_held hheld]

/-! ### The hold and the power-on restart (R172, R173, R175) -/

theorem State.running_of_held {s : State} {was : SupplyState} {since : Option Word64} (h : s.supply.power = .held was since) :
    s.running = false := by
  simp [State.running, h]

theorem State.power_of_running {s : State} (h : s.running = true) : s.supply.power = .running := by
  unfold State.running at h
  cases hp : s.supply.power with
  | running => rfl
  | held was since => simp [hp] at h

/-- Settles O54. -/
theorem holdAndPowerOn : Obligations.HoldAndPowerOn := by
  refine ⟨fun s => ⟨fun hrun h => ?_, fun time hrun h => ?_, fun was since mv h => ?_, fun block h => ?_, fun block h => ?_⟩,
    fun s block h => ?_⟩
  · rw [exec_whenRunning (f := State.beginBrownout) rfl hrun, State.beginBrownout, h]
  · rw [exec_whenRunning (f := State.beginBrownout) rfl hrun, State.beginBrownout, h]
    simp only [State.modSupply, SupplyUnit.refreshHold, filterStart, Bool.true_and, decide_eq_true_eq, Option.getD_none,
      State.advanceTo_supplyState, State.advanceTo_options, State.advanceTo_rail, State.advanceTo_link]
    rfl
  · show Host.Outcome.next (s.modSupply _) = _
    simp [State.running_of_held h, State.modSupply, SupplyUnit.refreshHold, h, filterStart]
  · show Host.Outcome.next (match s.supply.power with
      | .held was (some _) => s.brownout was block
      | .held _ none | .running => s) = _
    rcases h with h | ⟨was, h⟩
    · rw [State.power_of_running h]
    · rw [h]
  · exact congrArg Host.Outcome.next (if_neg (Nat.not_lt.mpr h))
  · intro o
    have hexec : exec (.powerOnRestart block) s = .next (s.powerOn block) := congrArg Host.Outcome.next (if_pos h)
    rw [hexec, State.powerOn, SupplyUnit.refreshFilters_eq]
    congr 2
    simp [SupplyUnit.reset, o, optionsInUse, optionsDefaulted]
    rfl

/-! ### What the other restarts keep (R12, R47, R92, R173, R174) -/

theorem Endpoint.restart_eq (e : Endpoint) : e.restart =
    { e with state := if e.state = .released ∨ e.state = .draining then .released else .offline } := by
  unfold Endpoint.restart
  split <;> simp_all

theorem Endpoint.restart_name (e : Endpoint) : e.restart.name = e.name := by rw [Endpoint.restart_eq]

theorem JobRecord.restart_eq (j : JobRecord) : j.restart =
    if j.state = .identifying ∨ j.state = .active then
      { j with state := .suspended, suspend := some .restart, standing := none }
    else j := by
  unfold JobRecord.restart
  cases h : j.state <;> simp [JobState.busy]

/-- A restart makes no job CANCELLED and lets none be so no more (R47). -/
theorem JobRecord.restart_cancelled (j : JobRecord) : j.restart.state = .cancelled ↔ j.state = .cancelled := by
  rw [JobRecord.restart_eq]
  split
  · next h => rcases h with h | h <;> simp [h]
  · rfl

section
variable (s : State) (o : Options) (defaulted : Bool) (cause : ResetCause)

/-- The state between R47's changes and R92's: every block restarted, no record deferred yet. -/
def State.restarted : State where
  link := s.link.restart
  control := ControlUnit.reset o.noticePort
  table := s.table.restart
  offload := OffloadEngine.reset
  look := LookEngine.reset
  review := Vector.replicate 2 (Stream.closed StreamParams.none)
  spotter := s.spotter.restart
  supply := s.supply.restart o defaulted cause
  pending := s.pending
  freeCount := s.freeCount

theorem State.restartBlocks_eq : s.restartBlocks o defaulted cause = (s.restarted o defaulted cause).deferTable := rfl

theorem State.restarted_endpoint? (e : EpName) :
    (s.restarted o defaulted cause).endpoint? e = (s.endpoint? e).map Endpoint.restart := by
  show (s.link.endpoints.map Endpoint.restart).find? _ = _
  rw [List.find?_map]
  congr 2
  funext x
  simp [Endpoint.restart_name]

theorem State.restarted_released (e : EpName) : (s.restarted o defaulted cause).released e = true ↔
    ∃ x, s.endpoint? e = some x ∧ (x.state = .released ∨ x.state = .draining) := by
  rw [State.released, State.restarted_endpoint?]
  cases s.endpoint? e with
  | none => simp
  | some x => by_cases hx : x.state = .released ∨ x.state = .draining <;> simp [Endpoint.restart_eq, hx]

theorem State.restarted_job? (n : Nat) : (s.restarted o defaulted cause).job? n = (s.job? n).map JobRecord.restart := by
  show ((s.table.jobs.map (·.map JobRecord.restart))[n]?).join = _
  rw [Vector.getElem?_map, State.job?]
  cases s.table.jobs[n]? <;> simp

theorem State.restarted_clip? (n : Nat) : (s.restarted o defaulted cause).clip? n = (s.clip? n).map ClipRecord.restart := by
  show ((s.table.clips.map (·.map ClipRecord.restart))[n]?).join = _
  rw [Vector.getElem?_map, State.clip?]
  cases s.table.clips[n]? <;> simp

theorem State.restarted_jobCancelled (n : Nat) : (s.restarted o defaulted cause).jobCancelled n = true ↔
    ∃ j, s.job? n = some j ∧ j.state = .cancelled := by
  rw [State.jobCancelled, State.restarted_job?]
  cases s.job? n <;> simp [JobRecord.restart_cancelled]

theorem State.deferTable_clip? (t : State) (n : Nat) : t.deferTable.clip? n = (t.clip? n).map t.deferReleased := by
  show ((t.table.clips.map (·.map t.deferReleased))[n]?).join = _
  rw [Vector.getElem?_map, State.clip?]
  cases t.table.clips[n]? <;> simp

theorem State.deferReleased_eq (t : State) (c : ClipRecord) : t.deferReleased c =
    { c with dests := c.dests.map fun r =>
        if (t.jobCancelled c.job = false ∧ r.state = .pending) ∧ t.released r.endpoint = true then r.defer none else r } := by
  unfold State.deferReleased
  cases h : t.jobCancelled c.job <;> simp

/-- A destination record after a restart, in a job and at an endpoint of given standing (R47, R92). -/
def DestRecord.restarted (d : DestRecord) (cancelled released : Bool) : DestRecord :=
  if (cancelled = false ∧ d.restart.state = .pending) ∧ released = true then d.restart.defer none else d.restart

theorem State.restartBlocks_clip? {k : Nat} {c : ClipRecord} (h : s.clip? k = some c) :
    (s.restartBlocks o defaulted cause).clip? k = some { c with
      copyState := if c.copyState = .copying then .waiting else c.copyState
      currentStreams := #v[false, false]
      dests := c.dests.map fun d => d.restarted ((s.restarted o defaulted cause).jobCancelled c.job)
        ((s.restarted o defaulted cause).released d.endpoint) } := by
  rw [State.restartBlocks_eq, State.deferTable_clip?, State.restarted_clip?, h, Option.map_some, Option.map_some,
    State.deferReleased_eq]
  simp only [ClipRecord.restart, List.map_map]
  rfl

theorem DestRecord.restart_pending (d : DestRecord) : d.restart.state = .pending ↔ d.state = .pending ∨ d.state = .inProgress := by
  unfold DestRecord.restart
  cases d.state <;> simp

/-- What a brownout and a soft restart have in common (R173, R174). -/
theorem State.restartBlocks_keeps :
    let t := s.restartBlocks o defaulted cause
    (∀ p : Port, t.port p = PortState.reset .training (s.port p).roles) ∧
    t.link.endpoints = s.link.endpoints.map (fun e =>
      { e with state := if e.state = .released ∨ e.state = .draining then .released else .offline }) ∧
    (∀ n, t.job? n = (s.job? n).map fun j =>
      if j.state = .identifying ∨ j.state = .active then
        { j with state := .suspended, suspend := some .restart, standing := none }
      else j) ∧
    ∀ k c, s.clip? k = some c → ∃ ds : List DestRecord, t.clip? k = some { c with
        copyState := if c.copyState = .copying then .waiting else c.copyState
        currentStreams := #v[false, false]
        dests := ds } ∧ ds.length = c.dests.length ∧
      ∀ (i : Nat) (d : DestRecord), c.dests[i]? = some d →
        let unfinished : Prop := d.state = .pending ∨ d.state = .inProgress
        let cancelled : Prop := ∃ j, s.job? c.job = some j ∧ j.state = .cancelled
        let released (e : EpName) : Prop :=
          ∃ x, s.endpoint? e = some x ∧ (x.state = .released ∨ x.state = .draining)
        (unfinished → released d.endpoint → ¬ cancelled →
          ds[i]? = some { d with state := .deferred, reason := none, attempts := 0 }) ∧
        (unfinished → (¬ released d.endpoint ∨ cancelled) → ds[i]? = some { d with state := .pending, attempts := 0 }) ∧
        (¬ unfinished → ds[i]? = some { d with attempts := 0 }) := by
  refine ⟨fun p => ?_, ?_, fun n => ?_, fun k c hc => ⟨_, s.restartBlocks_clip? o defaulted cause hc, by simp, fun i d hd => ?_⟩⟩
  · show (s.link.ports.map _)[p] = _
    simp [State.port]
  · exact List.map_congr_left fun e _ => e.restart_eq
  · rw [← funext JobRecord.restart_eq]
    exact s.restarted_job? o defaulted cause n
  · simp only [List.getElem?_map, hd, Option.map_some, Option.some.injEq, ← State.restarted_released s o defaulted cause,
      ← State.restarted_jobCancelled s o defaulted cause, ← DestRecord.restart_pending]
    refine ⟨fun hopen hreleased hlive => ?_, fun hopen hkept => ?_, fun hdone => ?_⟩
    · have hlive' : (s.restarted o defaulted cause).jobCancelled c.job = false := by simpa using hlive
      rw [DestRecord.restarted, if_pos ⟨⟨hlive', hopen⟩, hreleased⟩]
      rfl
    · rw [DestRecord.restarted, if_neg]
      · rw [← hopen]
        rfl
      · rintro ⟨⟨hlive, -⟩, hreleased⟩
        exact hkept.elim (fun h => h hreleased) (fun h => by simp [hlive] at h)
    · rw [DestRecord.restarted, if_neg fun h => hdone h.1.2]
      have hstate : d.state ≠ .inProgress := fun h => hdone (d.restart_pending.mpr (Or.inr h))
      rw [DestRecord.restart, if_neg hstate]

end

theorem exec_softRestart_ready {s : State} (hrun : s.running = true) (h : s.control.softRestart = .ready) :
    exec .softRestartExecute s = .next s.softRestarts := by
  rw [exec_whenRunning (f := fun s => if s.control.softRestart = .ready then s.softRestarts else s) rfl hrun, if_pos h]

/-- A filing without a stream or a clip is a log entry and nothing else (R160). -/
theorem State.file_plain (s : State) {f : Filing} (hst : f.stream = none) (hclip : f.clip = none) :
    s.file f = { s with spotter := s.spotter.filed (f.entry s.now) } := by
  rw [State.file, State.reportFault, hst, State.countFault, hclip, State.logFault_eq]

theorem State.brownout_eq (s : State) (was : SupplyState) (block : Option (List Byte)) :
    let t := s.restartBlocks (optionsInUse block) (optionsDefaulted block) { s.supply.resetCause with brownout := true }
    s.brownout was block =
      { t with
        supply := { t.supply with timeBase := Config.brownoutFilingTime s.freeCount }
        freeCount := s.freeCount + 1
        spotter := t.spotter.filed
          ⟨.brownout, Config.brownoutFilingTime s.freeCount, none, none, none, none, none, BitVec.ofNat 32 was.code, false⟩ } := by
  rw [State.brownout, State.fileBrownout, State.file_plain _ rfl rfl]
  rfl

theorem exec_brownoutRestart_timed {s : State} {was : SupplyState} {time : Word64} (h : s.supply.power = .held was (some time))
    (block : Option (List Byte)) : exec (.brownoutRestart block) s = .next (s.brownout was block) := by
  show Host.Outcome.next (match s.supply.power with
    | .held was (some _) => s.brownout was block
    | .held _ none | .running => s) = _
  rw [h]

/-- Settles O55: the restarted blocks are common to both restarts, and a brownout adds one log entry. -/
theorem restartKeeps : Obligations.RestartKeeps := by
  intro s released kept
  have hkept (o : Options) (defaulted : Bool) (cause : ResetCause) : kept (s.restartBlocks o defaulted cause) := by
    obtain ⟨hports, hendpoints, hjobs, hclips⟩ := s.restartBlocks_keeps o defaulted cause
    exact ⟨hports, hendpoints, hjobs, hclips, rfl, rfl, rfl, rfl, rfl, rfl, rfl, rfl, rfl, rfl, rfl, rfl⟩
  refine ⟨fun hrun h => ⟨s.softRestarts, exec_softRestart_ready hrun h, hkept _ _ _, rfl, rfl, rfl, rfl, rfl, rfl, rfl⟩,
    fun was time block h => ⟨_, exec_brownoutRestart_timed h block, ?_⟩⟩
  rw [State.brownout_eq]
  refine ⟨?_, rfl, rfl, rfl, rfl, rfl, fun hroom => ?_⟩
  · obtain ⟨hports, hendpoints, hjobs, hclips, hadmission, hmap, hlook, hreview, hoffload, hstreams, hholds, hcontrol, hstate,
      hrail, hrunning, hpending⟩ := hkept (optionsInUse block) (optionsDefaulted block) { s.supply.resetCause with brownout := true }
    exact ⟨hports, hendpoints, hjobs, hclips, hadmission, (FaultSpotter.filed_defectMap _ _).trans hmap, hlook, hreview, hoffload,
      (FaultSpotter.filed_streams _ _).trans hstreams, (FaultSpotter.filed_holds _ _).trans hholds, hcontrol, hstate, hrail,
      hrunning, hpending⟩
  · have hlog : (s.restartBlocks (optionsInUse block) (optionsDefaulted block)
        { s.supply.resetCause with brownout := true }).spotter.log = s.spotter.log := rfl
    rw [FaultSpotter.filed_of_room (hlog ▸ hroom)]
    rfl

end Sys2Proof.Machine
end

section
/-!
The link unit's frames (chapter 1: R4 to R9, R16 to R20): what arrives, what leaves, and the asks the frames carry.
-/

namespace Sys2Proof.Machine

/-! ### Ports -/

theorem State.modPort_modPort (s : State) (p : Port) (f g : PortState → PortState) :
    (s.modPort p f).modPort p g = s.modPort p fun x => g (f x) := by
  simp [State.modPort, State.port]

/-- A change of a port is known by what it makes of that port's state. -/
theorem State.modPort_congr {s : State} {p : Port} {f g : PortState → PortState} (h : f (s.port p) = g (s.port p)) :
    s.modPort p f = s.modPort p g := by
  simp only [State.modPort, h]

theorem State.modPort_isUp {s : State} {p : Port} {f : PortState → PortState} (h : (f (s.port p)).link = (s.port p).link) :
    (s.modPort p f).isUp p = s.isUp p := by
  simp only [State.isUp, State.port_modPort, h]

/-- Whether the credit of a freed buffer returns: of a RASTER's only while its stream is open with its decoder on the
port (R6, R7). -/
def State.creditReturns (s : State) (p : Port) : PacketClass → Bool
  | .control | .bulk => true
  | .raster st => s.grantsRaster st p

theorem State.freeBuffer_of_up {s : State} {p : Port} (hup : s.isUp p = true) (c : PacketClass) :
    s.freeBuffer p c = if s.creditReturns p c then s.modPort p (·.grant c) else s := by
  cases c with
  | control => simp [State.freeBuffer, State.creditReturns, hup]
  | bulk => simp [State.freeBuffer, State.creditReturns, hup]
  | raster st =>
    rw [State.freeBuffer, State.freeRaster, hup, Bool.and_true]
    rfl

theorem PortState.grant_countReceived (x : PortState) (c : PacketClass) :
    (x.countReceived c).grant c =
      { x with
        receive := x.receive.set c.index.val ⟨x.receive[c.index].total + 1, x.receive[c.index].count + 1⟩ c.index.isLt
        creditDue := true } := by
  simp [PortState.grant, PortState.countReceived]

/-! ### Frames that arrive (R4, R5) -/

section
variable {s : State} {p : Port}

theorem State.receiveFrame_of_not_up (h : s.isUp p = false) (frame : List Byte) : s.receiveFrame p frame = s := by
  simp [State.receiveFrame, h]

theorem State.receiveFrame_packet (hup : s.isUp p = true) {frame : List Byte} (ht : frameType frame = 1) :
    s.receiveFrame p frame = (parsePacket frame).elim (s.leavePort p .headerError) (s.receivePacket p) := by
  simp only [State.receiveFrame, hup, ht]
  cases parsePacket frame <;> rfl

theorem State.receiveFrame_credit (hup : s.isUp p = true) {frame : List Byte} (ht : frameType frame = 2) :
    s.receiveFrame p frame = (parseCredit frame).elim s fun t => s.modPort p (·.credited t) := by
  simp only [State.receiveFrame, hup, ht]
  cases parseCredit frame <;> rfl

/-- A frame of neither type is a header error (R4). -/
theorem State.receiveFrame_other (hup : s.isUp p = true) {frame : List Byte} (h1 : frameType frame ≠ 1)
    (h2 : frameType frame ≠ 2) : s.receiveFrame p frame = s.leavePort p .headerError := by
  simp [State.receiveFrame, hup, h1, h2]

/-- A packet of no kind or stream (R5 check 1). -/
theorem State.receivePacket_unknown {x : RxPacket}
    (h : (PacketKind.ofCode x.header.kind).bind (·.packetClass x.header.stream) = none) :
    s.receivePacket p x = s.file (protocolFiling p x.header.endpoint 1) := by
  unfold State.receivePacket
  cases hk : PacketKind.ofCode x.header.kind with
  | none => rfl
  | some k =>
    rw [hk, Option.bind_some] at h
    simp [h]

/-- A packet of a known class: without credit it is refused; else it is counted, and by its CRC-32 checked further or
its buffer freed (R4, R5 check 2). -/
theorem State.receivePacket_known {x : RxPacket} {k : PacketKind} {c : PacketClass}
    (hk : PacketKind.ofCode x.header.kind = some k) (hc : k.packetClass x.header.stream = some c) :
    s.receivePacket p x =
      if (s.port p).receive[c.index].total = (s.port p).receive[c.index].count then
        s.file (protocolFiling p x.header.endpoint 2)
      else if x.crcGood then (s.modPort p (·.countReceived c)).checkRole p k c x
      else (s.modPort p (·.countReceived c)).freeBuffer p c := by
  unfold State.receivePacket
  simp [hk, hc, PortState.partnerHolds]

/-- The partner's credit of the class is used up (R5 check 2). -/
theorem State.receivePacket_spent {x : RxPacket} {kind : PacketKind} {c : PacketClass} {k : Fin 4}
    (hk : PacketKind.ofCode x.header.kind = some kind) (hc : kind.packetClass x.header.stream = some c) (hi : c.index = k)
    (hspent : (s.port p).receive[k].total = (s.port p).receive[k].count) :
    s.receivePacket p x = s.file (protocolFiling p x.header.endpoint 2) := by
  subst hi
  rw [State.receivePacket_known hk hc, if_pos hspent]

/-- A counted packet goes on to check 3 of R5. -/
theorem State.receivePacket_whole {x : RxPacket} {kind : PacketKind} {c : PacketClass} {k : Fin 4}
    (hk : PacketKind.ofCode x.header.kind = some kind) (hc : kind.packetClass x.header.stream = some c) (hi : c.index = k)
    (hcredit : (s.port p).receive[k].total ≠ (s.port p).receive[k].count) (hgood : x.crcGood = true) :
    s.receivePacket p x = (s.modPort p (·.countReceived c)).checkRole p kind c x := by
  subst hi
  rw [State.receivePacket_known hk hc, if_neg hcredit, if_pos hgood]

/-- A packet of a wrong CRC-32 is counted, and its buffer freed (R4, R6, R7). -/
theorem State.receivePacket_damaged (hup : s.isUp p = true) {x : RxPacket} {kind : PacketKind} {c : PacketClass} {k : Fin 4}
    (hk : PacketKind.ofCode x.header.kind = some kind) (hc : kind.packetClass x.header.stream = some c) (hi : c.index = k)
    (hcredit : (s.port p).receive[k].total ≠ (s.port p).receive[k].count) (hbad : x.crcGood = false) :
    s.receivePacket p x = s.modPort p fun y =>
      if s.creditReturns p c then
        { y with
          receive := y.receive.set k.val ⟨y.receive[k].total + 1, y.receive[k].count + 1⟩ k.isLt
          creditDue := true }
      else { y with receive := y.receive.set k.val ⟨y.receive[k].total, y.receive[k].count + 1⟩ k.isLt } := by
  subst hi
  have hup' : (s.modPort p (·.countReceived c)).isUp p = true := by rw [State.modPort_isUp rfl, hup]
  have hsame : (s.modPort p (·.countReceived c)).creditReturns p c = s.creditReturns p c := by cases c <;> rfl
  rw [State.receivePacket_known hk hc, if_neg hcredit, hbad, if_neg Bool.false_ne_true, State.freeBuffer_of_up hup',
    State.modPort_modPort, hsame]
  by_cases hback : s.creditReturns p c = true
  · simp only [if_pos hback, PortState.grant_countReceived]
  · simp only [if_neg hback]
    rfl

/-- The kinds and streams that pass check 1 of R5, and the class of each. -/
theorem packetClass_of_known {kind stream : Nat} (h : 1 ≤ kind ∧ kind ≤ 7 ∧ (kind = 7 → stream ≤ 1)) :
    ∃ k c, PacketKind.ofCode kind = some k ∧ k.packetClass stream = some c ∧
      c.index = (if kind = 6 then 1 else if kind ≠ 7 then 0 else if stream = 0 then 2 else 3) ∧
      ∀ (s : State) (p : Port), s.creditReturns p c =
        (kind ≠ 7 || s.grantsRaster (if stream = 0 then 0 else 1) p) := by
  obtain ⟨hlow, hhigh, hraster⟩ := h
  by_cases h7 : kind = 7
  · subst h7
    obtain rfl | rfl : stream = 0 ∨ stream = 1 := by have := hraster rfl; omega
    · exact ⟨.raster, .raster 0, rfl, rfl, rfl, fun _ _ => rfl⟩
    · exact ⟨.raster, .raster 1, rfl, rfl, rfl, fun _ _ => rfl⟩
  · by_cases h6 : kind = 6
    · subst h6
      exact ⟨.block, .bulk, rfl, rfl, rfl, fun _ _ => rfl⟩
    · have hfive : kind ≤ 5 := by omega
      interval_cases kind
      · exact ⟨.control, .control, rfl, rfl, rfl, fun _ _ => rfl⟩
      · exact ⟨.reply, .control, rfl, rfl, rfl, fun _ _ => rfl⟩
      · exact ⟨.notice, .control, rfl, rfl, rfl, fun _ _ => rfl⟩
      · exact ⟨.ask, .control, rfl, rfl, rfl, fun _ _ => rfl⟩
      · exact ⟨.answer, .control, rfl, rfl, rfl, fun _ _ => rfl⟩

theorem packetClass_of_unknown {kind stream : Nat} (h : ¬ (1 ≤ kind ∧ kind ≤ 7 ∧ (kind = 7 → stream ≤ 1))) :
    (PacketKind.ofCode kind).bind (·.packetClass stream) = none := by
  by_cases h7 : kind = 7
  · subst h7
    have h0 : stream ≠ 0 := by omega
    have h1 : stream ≠ 1 := by omega
    simp [PacketKind.ofCode, PacketKind.packetClass, h0, h1]
  · have : PacketKind.ofCode kind = none := by
      unfold PacketKind.ofCode
      split <;> first | omega | rfl
    rw [this]
    rfl

end

theorem grantsRaster_iff (s : State) (st : StreamId) (p : Port) :
    s.grantsRaster st p = true ↔ (s.stream st).state ≠ .closed ∧ (s.stream st).params.decoder.port = p := by
  simp [State.grantsRaster]

/-- Settles O14: the checks of R4 and R5 that come before a packet's kind is looked at, in their order. -/
theorem badFrames : Obligations.BadFrames := by
  intro s p frame x hrun
  have hpacket := exec_whenRunning (c := .packetFrameReceived p frame) (f := fun t => t.receiveFrame p frame) rfl hrun
  have hcredit := exec_whenRunning (c := .creditFrameReceived p frame) (f := fun t => t.receiveFrame p frame) rfl hrun
  refine ⟨fun hdown => ?_, fun hup ht hparse => ?_, fun hup ht hparse => ?_⟩
  · rw [hpacket, hcredit, State.receiveFrame_of_not_up hdown]
    exact ⟨rfl, rfl⟩
  · rw [hcredit, State.receiveFrame_credit hup ht, hparse]
    rfl
  intro known k st
  rw [hpacket, State.receiveFrame_packet hup ht, hparse, Option.elim_some]
  refine ⟨fun hunknown => ?_, fun hknown => ?_, fun hknown => ?_⟩
  · rw [State.receivePacket_unknown (packetClass_of_unknown hunknown)]
    rfl
  · obtain ⟨kind, c, hkind, hclass, hindex, -⟩ := packetClass_of_known hknown
    intro hspent
    rw [State.receivePacket_spent hkind hclass hindex hspent]
    rfl
  · obtain ⟨kind, c, hkind, hclass, hindex, hreturns⟩ := packetClass_of_known hknown
    intro hcredit hbad
    rw [State.receivePacket_damaged hup hkind hclass hindex hcredit hbad, hreturns]
    simp only [Bool.or_eq_true, decide_eq_true_iff, grantsRaster_iff]
    rfl

/-! ### CONTROL packets and credit frames (R6, R8, R10, R20) -/

section
variable {s : State} {p : Port}

/-- A packet frame laid out whole arrives on an UP port as the packet that it lays out (R4). -/
theorem exec_packetFrame (hrun : s.running = true) (hup : s.isUp p = true) {kind endpoint stream tag : Nat}
    {payload : List Byte} (hk : kind < 256) (he : endpoint < 256) (hs : stream < 256) (ht : tag < 65536)
    (hl : payload.length ≤ 262144) :
    exec (.packetFrameReceived p (packetFrameBytes kind endpoint stream tag payload)) s =
      .next (s.receivePacket p ⟨⟨kind, endpoint, stream, tag, payload.length⟩, payload, true⟩) := by
  have hparse : parsePacket (packetFrameBytes kind endpoint stream tag payload) =
      some ⟨⟨kind, endpoint, stream, tag, payload.length⟩, payload, true⟩ :=
    (parsePacket_of_whole hk he hs ht hl (by rfl)).trans (by rw [decide_eq_true (by rfl)])
  rw [exec_whenRunning (f := fun t => t.receiveFrame p _) rfl hrun, State.receiveFrame_packet hup rfl, hparse]
  rfl

/-- A whole packet with credit goes on, counted, to check 3 of R5. -/
theorem exec_packetFrame_counted (hrun : s.running = true) (hup : s.isUp p = true) {kind endpoint stream tag : Nat}
    {payload : List Byte} (he : endpoint < 256) (hs : stream < 256) (ht : tag < 65536) (hl : payload.length ≤ 262144)
    {k : PacketKind} {c : PacketClass} {i : Fin 4} (hk : PacketKind.ofCode kind = some k)
    (hc : k.packetClass stream = some c) (hi : c.index = i)
    (hcredit : (s.port p).receive[i].total ≠ (s.port p).receive[i].count) :
    exec (.packetFrameReceived p (packetFrameBytes kind endpoint stream tag payload)) s =
      .next ((s.modPort p (·.countReceived c)).checkRole p k c
        ⟨⟨kind, endpoint, stream, tag, payload.length⟩, payload, true⟩) := by
  have hkind : kind < 256 := by
    by_contra h
    have : PacketKind.ofCode kind = none := by
      unfold PacketKind.ofCode
      split <;> first | omega | rfl
    exact absurd (hk.symm.trans this) (Option.some_ne_none k)
  rw [exec_packetFrame hrun hup hkind he hs ht hl, State.receivePacket_whole hk hc hi hcredit rfl]

theorem State.reply_isUp (q : Port) (tag n : Nat) (c : ReplyCode) (r : List Byte) : (s.reply q tag n c r).isUp p = s.isUp p := by
  unfold State.reply
  split
  · by_cases h : q = p
    · subst h
      rw [State.modPort_isUp rfl]
    · simp only [State.isUp, State.port_modPort_ne _ _ h]
  · rfl

theorem State.freeBuffer_control (hup : s.isUp p = true) : s.freeBuffer p .control = s.modPort p (·.grant .control) := by
  simp [State.freeBuffer, hup]

theorem State.freeBuffer_bulk (hup : s.isUp p = true) : s.freeBuffer p .bulk = s.modPort p (·.grant .bulk) := by
  simp [State.freeBuffer, hup]

theorem State.countReceived_isUp (c : PacketClass) : (s.modPort p (·.countReceived c)).isUp p = s.isUp p :=
  State.modPort_isUp rfl

theorem State.countReceived_roles (c : PacketClass) : ((s.modPort p (·.countReceived c)).port p).roles = (s.port p).roles := by
  rw [State.port_modPort]
  rfl

theorem controlForm_iff (payload : List Byte) :
    controlForm payload = true ↔ 4 ≤ payload.length ∧ beNat ((payload.drop 1).take 3) + 4 = payload.length := by
  simp only [controlForm, Bool.and_eq_true, decide_eq_true_iff, beq_iff_eq]
  omega

/-- A packet that no role admits and that is no CONTROL is discarded with reason 3 (R5 check 3). -/
theorem State.checkRole_of_not_admitted {k : PacketKind} (hrole : rolesAdmit (s.port p).roles k = false) (hk : k ≠ .control)
    (c : PacketClass) (x : RxPacket) : s.checkRole p k c x = s.rejectPacket p c x.header 3 := by
  simp [State.checkRole, hrole, hk]

theorem State.checkRole_of_admitted {k : PacketKind} (hrole : rolesAdmit (s.port p).roles k = true)
    (c : PacketClass) (x : RxPacket) : s.checkRole p k c x = s.deliver p k c x := by
  simp [State.checkRole, hrole]

/-- The CONTROL packet of an admitted port (R5 checks 4 and 5, R20). -/
theorem State.deliver_control (c : PacketClass) (x : RxPacket) :
    s.deliver p .control c x =
      if x.header.stream ≠ 0 ∨ x.header.endpoint ≠ 0 then s.rejectPacket p c x.header 4
      else if controlForm x.payload then s.placeControl p x.header x.payload
      else s.rejectPacket p c x.header 5 := by
  cases c <;> rfl

theorem head?_elim_zero (payload : List Byte) :
    (payload.head?.elim 0 (·.toNat)) = match payload with
      | [] => 0
      | b :: _ => b.toNat := by
  cases payload <;> rfl

end

/-- Settles O13. -/
theorem controlAndCreditFrames : Obligations.ControlAndCreditFrames := by
  refine ⟨?_, fun s p a b c d hrun => ⟨fun hup => ?_, ?_⟩⟩
  · intro s p endpoint stream tag payload hrun hup he hs ht hl hcredit counted freed rejected arrives number admitted formed
    have hcounted : s.modPort p (·.countReceived .control) = counted := rfl
    have hup' : counted.isUp p = true := hcounted ▸ (State.countReceived_isUp .control).trans hup
    have hroles : (counted.port p).roles = (s.port p).roles := hcounted ▸ State.countReceived_roles .control
    have hnumber : payload.head?.elim 0 (·.toNat) = number := head?_elim_zero payload
    have hreject (h : RxHeader) (hh : h.endpoint = endpoint) (n : Nat) :
        counted.rejectPacket p .control h n = rejected n := by
      rw [State.rejectPacket, State.freeBuffer_control (by simpa using hup'), hh]
      rfl
    have hreply (n : Nat) (c : ReplyCode) :
        (counted.reply p tag n c []).freeBuffer p .control = freed (counted.reply p tag n c []) :=
      State.freeBuffer_control ((State.reply_isUp ..).trans hup')
    have harrives {kind : Nat} {k : PacketKind} (hk : PacketKind.ofCode kind = some k)
        (hc : k.packetClass stream = some .control) : arrives kind = .next (counted.checkRole p k .control
          ⟨⟨kind, endpoint, stream, tag, payload.length⟩, payload, true⟩) :=
      hcounted ▸ exec_packetFrame_counted hrun hup he hs ht hl hk hc (i := 0) rfl hcredit
    have hcontrol (h : admitted) : arrives 1 = .next (counted.deliver p .control .control
        ⟨⟨1, endpoint, stream, tag, payload.length⟩, payload, true⟩) := by
      rw [harrives (k := .control) rfl rfl, State.checkRole_of_admitted (by rw [hroles]; exact h)]
    refine ⟨fun hno => ?_, fun hyes hfields => ?_, fun hyes hs0 he0 hform => ?_,
      fun hyes hs0 he0 hform => ⟨fun hroom => ?_, fun hfull => ?_⟩, fun kind hkind => ?_⟩
    · have hrole : rolesAdmit (counted.port p).roles .control = false := by rw [hroles]; exact Bool.eq_false_iff.mpr hno
      rw [harrives (k := .control) rfl rfl, State.checkRole, hrole, if_neg Bool.false_ne_true, if_pos rfl,
        State.refuseControl, hnumber, hreply]
    · rw [hcontrol hyes, State.deliver_control, if_pos hfields, hreject _ rfl]
    · rw [hcontrol hyes, State.deliver_control, if_neg (by simp [hs0, he0]), if_neg (mt (controlForm_iff payload).mp hform),
        hreject _ rfl]
    · rw [hcontrol hyes, State.deliver_control, if_neg (by simp [hs0, he0]), if_pos ((controlForm_iff payload).mpr hform),
        State.placeControl, hnumber, if_pos (show (counted.control.queues[p]).length < Config.requestQueueDepth from hroom)]
      refine congrArg Host.Outcome.next ((State.freeBuffer_control ?_).trans rfl)
      exact hup'
    · rw [hcontrol hyes, State.deliver_control, if_neg (by simp [hs0, he0]), if_pos ((controlForm_iff payload).mpr hform),
        State.placeControl, hnumber,
        if_neg (show ¬ (counted.control.queues[p]).length < Config.requestQueueDepth from Nat.not_lt.mpr hfull), hreply]
    · obtain rfl | rfl | rfl := hkind
      · rw [harrives (k := .reply) rfl rfl, State.checkRole_of_not_admitted rfl (by decide), hreject _ rfl]
      · rw [harrives (k := .notice) rfl rfl, State.checkRole_of_not_admitted rfl (by decide), hreject _ rfl]
      · rw [harrives (k := .ask) rfl rfl, State.checkRole_of_not_admitted rfl (by decide), hreject _ rfl]
  · have hparse : parseCredit (creditFrameBytes a b c d) = some (a, b, c, d) :=
      (parseCredit_of_whole a b c d (by rfl)).trans (if_pos rfl)
    rw [exec_whenRunning (f := fun t => t.receiveFrame p _) rfl hrun, State.receiveFrame_credit hup rfl, hparse]
    rfl
  · rw [exec_whenRunning (f := fun t => t.creditTimerEnds p) rfl hrun]
    unfold State.creditTimerEnds
    cases (s.port p).creditTimer <;> rfl

end Sys2Proof.Machine
end

section
/-!
Packets with payloads of their own (R5 checks 4 to 6): RASTERs (R129) and the ANSWERs and BLOCKs of an ask (R18).
-/

namespace Sys2Proof.Machine

/-! ### RASTERs (section 1.7, R129) -/

theorem beNat_beBytes_of_lt {n v : Nat} (h : v < 256 ^ n) : beNat (beBytes n v) = v := by
  rw [beNat_beBytes, Nat.mod_eq_of_lt h]

theorem pixelBytes_length (x : Rgb) : (pixelBytes x).length = 6 := rfl

/-- The low 12 bits of a pixel's codes (section 1.7). -/
def Rgb.low12 (c : Rgb) : Rgb := ⟨c.r % 4096, c.g % 4096, c.b % 4096⟩

/-- Whether each code of a pixel fits two bytes. -/
def Rgb.fits (c : Rgb) : Prop := c.r < 65536 ∧ c.g < 65536 ∧ c.b < 65536

theorem parsePixels_pixelBytes (xs : List Rgb) (h : ∀ c ∈ xs, c.fits) :
    parsePixels (xs.map pixelBytes).flatten = xs.map Rgb.low12 := by
  induction xs with
  | nil => rfl
  | cons c xs ih =>
    obtain ⟨hr, hg, hb⟩ := h c List.mem_cons_self
    have hfield {v : Nat} (hv : v < 65536) : beNat (beBytes 2 v) % 4096 = v % 4096 := by rw [beNat_beBytes_of_lt hv]
    have hc : parsePixels (pixelBytes c ++ (xs.map pixelBytes).flatten) =
        ⟨beNat (beBytes 2 c.r) % 4096, beNat (beBytes 2 c.g) % 4096, beNat (beBytes 2 c.b) % 4096⟩ ::
          parsePixels (xs.map pixelBytes).flatten := rfl
    rw [List.map_cons, List.flatten_cons, hc, ih fun x hx => h x (List.mem_cons_of_mem _ hx), hfield hr, hfield hg, hfield hb]
    rfl

/-- Lines of one width, laid one after another, are cut into themselves. -/
theorem splitLines_flatten (w : Nat) (lines : List (List Rgb)) (h : ∀ l ∈ lines, l.length = w) :
    splitLines w lines.length lines.flatten = lines := by
  induction lines with
  | nil => rfl
  | cons l ls ih =>
    have hl := h l List.mem_cons_self
    rw [List.length_cons, splitLines, List.flatten_cons, List.take_left' hl, List.drop_left' hl,
      ih fun x hx => h x (List.mem_cons_of_mem _ hx)]

theorem flags_of_code : ∀ a b c d : Bool, let x := byteOf (RasterFlags.code ⟨a, b, c, d⟩)
    x.getLsbD 0 = a ∧ x.getLsbD 1 = b ∧ x.getLsbD 2 = c := by decide

theorem length_pixels (lines : List (List Rgb)) (w : Nat) (h : ∀ l ∈ lines, l.length = w) :
    ((lines.flatten.map pixelBytes).flatten).length = 6 * lines.length * w := by
  have hsum : (lines.map List.length).sum = lines.length * w := by
    rw [List.map_congr_left h, List.map_const', List.sum_replicate_nat]
  have hsix : (lines.flatten.map pixelBytes).map List.length = List.replicate lines.flatten.length 6 := by
    rw [List.map_map, ← List.map_const']
    exact List.map_congr_left fun c _ => pixelBytes_length c
  rw [List.length_flatten, hsix, List.sum_replicate_nat, List.length_flatten, hsum, Nat.mul_comm, Nat.mul_assoc]

/-- A RASTER payload laid out reads as laid out, but for the DAMAGED flag and the high bits of each code (log entry 38). -/
theorem parseRaster_rasterPayload (p : Port) {clip first w : Nat} {frame : Word32} {flags : RasterFlags}
    {lines : List (List Rgb)} (hclip : clip < 65536) (hfirst : first < 65536) (hw : w < 65536)
    (hwidth : ∀ l ∈ lines, l.length = w) (hcodes : ∀ l ∈ lines, ∀ c ∈ l, c.fits) (hone : 1 ≤ lines.length)
    (height : lines.length ≤ 8) :
    parseRaster p (rasterPayload clip frame first w flags lines) =
      some ⟨p, clip, frame, first, w, flags.start, flags.finish, flags.clipEnd, lines.map (·.map Rgb.low12), false⟩ := by
  obtain ⟨hstart, hfinish, hend⟩ := flags_of_code flags.start flags.finish flags.clipEnd flags.damaged
  have hn : (byteOf lines.length).toNat = lines.length := by simp [byteOf]; omega
  have hwf : beNat (beBytes 2 w) = w := beNat_beBytes_of_lt hw
  have hcf : beNat (beBytes 2 clip) = clip := beNat_beBytes_of_lt hclip
  have hff : beNat (beBytes 2 first) = first := beNat_beBytes_of_lt hfirst
  have hframe : BitVec.ofNat 32 (beNat (beBytes 4 frame.toNat)) = frame := by
    rw [beNat_beBytes_of_lt frame.isLt, BitVec.ofNat_toNat, BitVec.setWidth_eq]
  have hpixels : splitLines w lines.length (parsePixels (lines.flatten.map pixelBytes).flatten) =
      lines.map (·.map Rgb.low12) := by
    have hmap : (lines.flatten.map Rgb.low12) = (lines.map (·.map Rgb.low12)).flatten := List.map_flatten
    have hlen : lines.length = (lines.map (·.map Rgb.low12)).length := (List.length_map _).symm
    rw [parsePixels_pixelBytes _ (by simpa using fun c l hl hc => hcodes l hl c hc), hmap, hlen]
    refine splitLines_flatten w _ fun l hl => ?_
    obtain ⟨m, hm, rfl⟩ := List.mem_map.mp hl
    rw [List.length_map, hwidth m hm]
  have hfit : 1 ≤ (byteOf lines.length).toNat ∧ (byteOf lines.length).toNat ≤ 8 ∧
      ((lines.flatten.map pixelBytes).flatten).length = 6 * (byteOf lines.length).toNat * beNat (beBytes 2 w) := by
    rw [hn, hwf, length_pixels lines w hwidth]
    exact ⟨hone, height, rfl⟩
  refine (if_pos hfit).trans (congrArg some ?_)
  show RasterPacket.mk p (beNat (beBytes 2 clip)) (BitVec.ofNat 32 (beNat (beBytes 4 frame.toNat))) (beNat (beBytes 2 first))
    (beNat (beBytes 2 w)) ((byteOf flags.code).getLsbD 0) ((byteOf flags.code).getLsbD 1) ((byteOf flags.code).getLsbD 2)
    (splitLines (beNat (beBytes 2 w)) (byteOf lines.length).toNat (parsePixels (lines.flatten.map pixelBytes).flatten))
    false = _
  rw [hcf, hframe, hff, hwf, hn, hpixels, hstart, hfinish, hend]

/-- The form of a RASTER payload (R5 check 5). -/
theorem parseRaster_eq_none_iff (p : Port) (payload : List Byte) :
    parseRaster p payload = none ↔
      ¬ (1 ≤ beNat ((payload.drop 8).take 1) ∧ beNat ((payload.drop 8).take 1) ≤ 8 ∧
        payload.length = 12 + 6 * beNat ((payload.drop 8).take 1) * beNat ((payload.drop 9).take 2)) := by
  by_cases hlong : 12 ≤ payload.length
  · obtain ⟨n, hn⟩ := Nat.exists_eq_add_of_le' hlong
    match payload, hn with
    | c1 :: c0 :: f3 :: f2 :: f1 :: f0 :: l1 :: l0 :: n :: w1 :: w0 :: flags :: pixels, _ =>
      have hcount : beNat [n] = n.toNat := by simp [beNat]
      simp only [parseRaster, List.drop_succ_cons, List.drop_zero, List.take_succ_cons, List.take_zero, hcount,
        List.length_cons, ite_eq_right_iff, reduceCtorEq, imp_false]
      omega
  · have hnone : parseRaster p payload = none := by
      unfold parseRaster
      split
      · simp at hlong
      · rfl
    simp only [hnone, true_iff]
    omega

section
variable {s : State} {p : Port}

/-- A change of a stream is known by what it makes of that stream's state. -/
theorem State.modStream_congr {st : StreamId} {f g : Stream → Stream} (h : f (s.stream st) = g (s.stream st)) :
    s.modStream st f = s.modStream st g := by
  simp only [State.modStream, h]

/-- A raster buffer freed: its credit returns while the stream is open with its decoder on the port (R7). -/
theorem State.freeBuffer_raster (hup : s.isUp p = true) (st : StreamId) :
    s.freeBuffer p (.raster st) =
      if (s.stream st).state ≠ .closed ∧ (s.stream st).params.decoder.port = p then s.modPort p (·.grant (.raster st))
      else s := by
  have hreturns : s.creditReturns p (.raster st) = s.grantsRaster st p := rfl
  rw [State.freeBuffer_of_up hup, hreturns]
  by_cases h : (s.stream st).state ≠ .closed ∧ (s.stream st).params.decoder.port = p
  · rw [if_pos h, if_pos ((grantsRaster_iff s st p).mpr h)]
  · rw [if_neg h, if_neg (mt (grantsRaster_iff s st p).mp h)]

theorem State.rasterArrives_eq (st : StreamId) (pk : RasterPacket) :
    s.rasterArrives st pk = s.modStream st fun y =>
      { y with
        queue := y.queue ++ [pk]
        stallTimer :=
          if (s.stream st).state = .held then (s.stream st).stallTimer
          else some (s.later ((s.stream st).params.stallMs * 1000)) } := by
  unfold State.rasterArrives State.restartStall
  simp only [State.stream_modStream]
  by_cases h : (s.stream st).state = .held
  · simp only [if_pos h]
    exact State.modStream_congr rfl
  · simp only [if_neg h, State.modStream_modStream]
    exact State.modStream_congr rfl

end

/-- Settles O16: what R5 and R129 do with a RASTER, check by check. -/
theorem rasterPackets : Obligations.RasterPackets := by
  intro s p st endpoint tag payload hrun hup he ht hl x k counted freed rejected arrives count width fits hcredit
  have hindex : (PacketClass.raster st).index = k := by fin_cases st <;> rfl
  have hclass : PacketKind.raster.packetClass st.val = some (.raster st) := by fin_cases st <;> rfl
  have hcounted : s.modPort p (·.countReceived (.raster st)) = counted := by
    fin_cases st <;> rfl
  have hup' : counted.isUp p = true := hcounted ▸ (State.countReceived_isUp _).trans hup
  have hroles : (counted.port p).roles = (s.port p).roles := hcounted ▸ State.countReceived_roles _
  have hfree (t : State) (hup : t.isUp p = true) (hst : t.stream st = x) : t.freeBuffer p (.raster st) = freed t := by
    rw [State.freeBuffer_raster hup, hst]
    fin_cases st <;> rfl
  have hreject (n : Nat) : counted.rejectPacket p (.raster st) ⟨7, endpoint, st.val, tag, payload.length⟩ n = rejected n :=
    hfree _ (by simpa using hup') (by
      rw [State.stream, State.file_review_of_none _ _ rfl]
      rfl)
  have harrives : arrives = .next (counted.checkRole p .raster (.raster st)
      ⟨⟨7, endpoint, st.val, tag, payload.length⟩, payload, true⟩) :=
    hcounted ▸ exec_packetFrame_counted hrun hup he (by omega) ht hl rfl hclass hindex hcredit
  have hdeliver (h : hasRole (s.port p).roles .decode = true) : arrives =
      .next (counted.takeRasterPacket p st ⟨7, endpoint, st.val, tag, payload.length⟩ payload) := by
    rw [harrives, State.checkRole_of_admitted (by rw [hroles]; exact h)]
    rfl
  refine ⟨fun hno => ?_, fun hyes hform => ?_, fun hyes hform => ?_⟩
  · rw [harrives, State.checkRole_of_not_admitted (by rw [hroles]; exact hno) (by decide), hreject]
  · rw [hdeliver hyes, State.takeRasterPacket, (parseRaster_eq_none_iff p payload).mpr hform, hreject]
  · obtain ⟨pk, hpk⟩ := Option.ne_none_iff_exists'.mp (mt (parseRaster_eq_none_iff p payload).mp (not_not.mpr hform))
    have htake : arrives = .next (if x.state = .closed then freed counted
        else if x.params.decoder = ⟨p, endpoint⟩ then counted.rasterArrives st pk else rejected 6) := by
      rw [hdeliver hyes, State.takeRasterPacket, hfree counted hup' rfl, hreject 6, hpk]
      rfl
    refine ⟨fun hclosed => ?_, fun hopen hother => ?_, fun hopen hdec => ?_⟩
    · rw [htake, if_pos hclosed]
      exact congrArg Host.Outcome.next (if_neg fun h => h.1 hclosed)
    · rw [htake, if_neg hopen, if_neg hother]
    · intro clip first w frame flags lines hpayload hclip hfirst hw hwidth hcodes height
      have hlines : 1 ≤ lines.length := by
        by_contra h0
        have hnil : lines = [] := List.length_eq_zero_iff.mp (by omega)
        have hzero : count = 0 := by
          simp only [count, hpayload, hnil]
          rfl
        exact absurd hform.1 (by omega)
      have hread := parseRaster_rasterPayload p (frame := frame) (flags := flags) hclip hfirst hw hwidth hcodes hlines height
      rw [← hpayload, hpk, Option.some_inj] at hread
      rw [htake, if_neg hopen, if_pos hdec, State.rasterArrives_eq, hread]
      rfl

/-! ### ANSWERs and BLOCKs (R18) -/

/-- The length of an OK ANSWER by the ask's kind (section 1.7). -/
def AskBody.okLength : AskBody → Nat
  | .identify => 13
  | .openFile _ => 17
  | .create _ _ _ => 9
  | .read _ _ _ => 9
  | .write _ _ _ => 5
  | .close _ => 5

/-- A field of a payload. -/
def payloadField (payload : List Byte) (a n : Nat) : Nat := beNat ((payload.drop a).take n)

/-- Whether an ANSWER has the form of its status and of its ask's kind (R5 check 5; log entry 23). -/
def AskBody.answerFits (body : AskBody) (payload : List Byte) : Prop :=
  ((payload.head?.map (·.toNat) = some 1 ∨ payload.head?.map (·.toNat) = some 2) ∧ payload.length = 5) ∨
    (payload.head?.map (·.toNat) = some 0 ∧ payload.length = body.okLength ∧
      ∀ h o n, body = .read h o n → payloadField payload 5 4 ≤ n)

/-- What an OK ANSWER tells the asker (R18). -/
def AskBody.okResult (body : AskBody) (received : Nat) (payload : List Byte) : AskEnd :=
  match body with
  | .identify => .ok (.identity (BitVec.ofNat 64 (payloadField payload 5 8)))
  | .openFile _ => .ok (.opened (BitVec.ofNat 32 (payloadField payload 5 4)) (payloadField payload 9 8))
  | .create _ _ _ => .ok (.created (BitVec.ofNat 32 (payloadField payload 5 4)))
  | .read _ _ _ => .ok (.count (min (payloadField payload 5 4) received))
  | .write _ _ _ => .ok .done
  | .close _ => .ok .done

section
variable {body : AskBody} {received : Nat} {payload : List Byte}

theorem parseAnswer_error (h : payload.head?.map (·.toNat) = some 1) :
    parseAnswer body received payload =
      if payload.length = 5 then some (.error (BitVec.ofNat 32 (payloadField payload 1 4))) else none := by
  simp only [parseAnswer, h]
  rfl

theorem parseAnswer_noMedium (h : payload.head?.map (·.toNat) = some 2) :
    parseAnswer body received payload = if payload.length = 5 then some .noMedium else none := by
  simp only [parseAnswer, h]

theorem parseAnswer_ok (h : payload.head?.map (·.toNat) = some 0)
    (hlen : payload.length = body.okLength) (hread : ∀ a o n, body = .read a o n → payloadField payload 5 4 ≤ n) :
    parseAnswer body received payload = some (body.okResult received payload) := by
  simp only [parseAnswer, h]
  cases body with
  | read a o n => exact if_pos ⟨hlen, hread a o n rfl⟩
  | _ => exact if_pos hlen

theorem parseAnswer_ok_none (h : payload.head?.map (·.toNat) = some 0)
    (hbad : ¬ (payload.length = body.okLength ∧ ∀ a o n, body = .read a o n → payloadField payload 5 4 ≤ n)) :
    parseAnswer body received payload = none := by
  simp only [parseAnswer, h]
  cases body with
  | read a o n =>
    refine if_neg fun hok => hbad ⟨hok.1, fun b p m hm => ?_⟩
    cases hm
    exact hok.2
  | _ => exact if_neg fun hlen => hbad ⟨hlen, fun _ _ _ hm => absurd hm (by simp)⟩

/-- What an ANSWER that fits tells the asker (R18). -/
theorem parseAnswer_of_fits (h : body.answerFits payload) :
    parseAnswer body received payload = some
      (if payload.head?.map (·.toNat) = some 1 then .error (BitVec.ofNat 32 (payloadField payload 1 4))
      else if payload.head?.map (·.toNat) = some 2 then .noMedium else body.okResult received payload) := by
  obtain ⟨hstatus | hstatus, hlen⟩ | ⟨hstatus, hlen, hread⟩ := h
  · rw [parseAnswer_error hstatus, if_pos hlen, if_pos hstatus]
  · rw [parseAnswer_noMedium hstatus, if_pos hlen, hstatus, if_neg (by decide), if_pos rfl]
  · rw [parseAnswer_ok hstatus hlen hread, hstatus, if_neg (by decide), if_neg (by decide)]

theorem parseAnswer_of_not_fits (h : ¬ body.answerFits payload) : parseAnswer body received payload = none := by
  by_cases h1 : payload.head?.map (·.toNat) = some 1
  · rw [parseAnswer_error h1, if_neg fun hlen => h (.inl ⟨.inl h1, hlen⟩)]
  by_cases h2 : payload.head?.map (·.toNat) = some 2
  · rw [parseAnswer_noMedium h2, if_neg fun hlen => h (.inl ⟨.inr h2, hlen⟩)]
  by_cases h0 : payload.head?.map (·.toNat) = some 0
  · exact parseAnswer_ok_none h0 fun hok => h (.inr ⟨h0, hok⟩)
  unfold parseAnswer
  dsimp only
  split
  · next heq => exact absurd heq h1
  · next heq => exact absurd heq h2
  · next heq => exact absurd heq h0
  · rfl

end

/-- The live ask that a tag names is in the entry of the tag's number, under the tag's generation (R16, R18). -/
theorem PortState.liveAsk_eq_some_iff (x : PortState) (tag : Nat) (l : LiveAsk) :
    x.liveAsk tag = some l ↔ x.asks[tag % 64]? = some ⟨tag / 64, some l⟩ := by
  unfold PortState.liveAsk
  cases h : x.asks[tag % 64]? with
  | none => simp
  | some e =>
    obtain ⟨g, live⟩ := e
    by_cases hg : g = tag / 64 <;> simp [hg]

theorem PortState.setLive_of_getElem? {x : PortState} {n : Nat} {e : AskEntry} (h : x.asks[n]? = some e)
    (l : Option LiveAsk) : x.setLive n l = { x with asks := x.asks.setIfInBounds n { e with live := l } } := by
  simp [PortState.setLive, h]

theorem LiveAsk.admits_iff (l : LiveAsk) (n : Nat) :
    l.admits n = true ↔ ∃ h o m, l.ask.body = .read h o m ∧ l.received.length + n ≤ m := by
  unfold LiveAsk.admits
  cases l.ask.body <;> simp

section
variable {s : State} {p : Port}

/-- The ANSWER of an admitted port (R5 check 4). -/
theorem State.deliver_answer (c : PacketClass) (x : RxPacket) :
    s.deliver p .answer c x =
      if x.header.stream ≠ 0 then s.rejectPacket p c x.header 4 else s.takeAnswer p x.header x.payload := by
  cases c <;> rfl

/-- The BLOCK of an admitted port (R5 check 4). -/
theorem State.deliver_block (c : PacketClass) (x : RxPacket) :
    s.deliver p .block c x =
      if x.header.stream ≠ 0 then s.rejectPacket p c x.header 4 else s.takeBlock p x.header x.payload := by
  cases c <;> rfl

theorem State.takeAnswer_of_none {h : RxHeader} (hl : (s.port p).liveAsk h.tag = none) (payload : List Byte) :
    s.takeAnswer p h payload = s.freeBuffer p .control := by
  simp [State.takeAnswer, hl]

theorem State.takeBlock_of_none {h : RxHeader} (hl : (s.port p).liveAsk h.tag = none) (payload : List Byte) :
    s.takeBlock p h payload = s.freeBuffer p .bulk := by
  simp [State.takeBlock, hl]

/-- An ANSWER of a live ask (R5 checks 5 and 6, R18). -/
theorem State.takeAnswer_of_some {h : RxHeader} {l : LiveAsk} (hl : (s.port p).liveAsk h.tag = some l)
    (payload : List Byte) : s.takeAnswer p h payload =
      (parseAnswer l.ask.body l.received.length payload).elim (s.rejectPacket p .control h 5) fun r =>
        if l.ask.endpoint.id = h.endpoint then (s.freeBuffer p .control).completeAsk p h.tag l r
        else s.rejectPacket p .control h 6 := by
  simp only [State.takeAnswer, hl]
  cases parseAnswer l.ask.body l.received.length payload <;> rfl

/-- A BLOCK of a live ask (R5 checks 5 and 6, R18). -/
theorem State.takeBlock_of_some {h : RxHeader} {l : LiveAsk} (hl : (s.port p).liveAsk h.tag = some l)
    (payload : List Byte) : s.takeBlock p h payload =
      if payload = [] ∨ Config.blockBytes < payload.length then s.rejectPacket p .bulk h 5
      else if l.ask.endpoint.id = h.endpoint then
        if l.admits payload.length then
          (s.modPort p (·.setLive (h.tag % 64) (some (l.append payload (s.later (s.timeoutUs l.ask.endpoint)))))).freeBuffer
            p .bulk
        else s.rejectPacket p .bulk h 5
      else s.rejectPacket p .bulk h 6 := by
  simp only [State.takeBlock, hl]

end

/-- The steps of a packet of an ask that R5 takes before its tag is looked at: role, then stream. -/
theorem State.checkRole_ask {s : State} {p : Port} {k : PacketKind} {c : PacketClass} {x : RxPacket}
    (hk : k = .answer ∧ c = .control ∨ k = .block ∧ c = .bulk) :
    s.checkRole p k c x =
      if (hasRole (s.port p).roles .source || hasRole (s.port p).roles .dest) = true then
        if x.header.stream ≠ 0 then s.rejectPacket p c x.header 4
        else if c = .control then s.takeAnswer p x.header x.payload else s.takeBlock p x.header x.payload
      else s.rejectPacket p c x.header 3 := by
  by_cases hrole : (hasRole (s.port p).roles .source || hasRole (s.port p).roles .dest) = true
  · rw [if_pos hrole]
    obtain ⟨rfl, rfl⟩ | ⟨rfl, rfl⟩ := hk
    · rw [State.checkRole_of_admitted (k := .answer) hrole, State.deliver_answer, if_pos rfl]
    · rw [State.checkRole_of_admitted (k := .block) hrole, State.deliver_block,
        if_neg (show ¬ PacketClass.bulk = .control by simp)]
  · rw [if_neg hrole]
    obtain ⟨rfl, rfl⟩ | ⟨rfl, rfl⟩ := hk
    · exact State.checkRole_of_not_admitted (k := .answer) (by simpa [rolesAdmit] using hrole) (by decide) _ _
    · exact State.checkRole_of_not_admitted (k := .block) (by simpa [rolesAdmit] using hrole) (by decide) _ _

/-- Settles O15: what R5 and R18 do with an ANSWER and with a BLOCK, check by check. -/
theorem answersAndBlocks : Obligations.AnswersAndBlocks := by
  intro s p endpoint stream tag payload hrun hup he hs ht hl admitted counted freed rejected arrives credit
  have hcounted0 : s.modPort p (·.countReceived .control) = counted 0 := rfl
  have hcounted1 : s.modPort p (·.countReceived .bulk) = counted 1 := rfl
  have hup' (k : Fin 4) : (counted k).isUp p = true := (State.modPort_isUp rfl).trans hup
  have hroles (k : Fin 4) : ((counted k).port p).roles = (s.port p).roles := by rw [State.port_modPort]
  have hasks (k : Fin 4) : ((counted k).port p).asks = (s.port p).asks := by rw [State.port_modPort]
  have hlive (k : Fin 4) (l : LiveAsk) :
      ((counted k).port p).liveAsk tag = some l ↔ (s.port p).asks[tag % 64]? = some ⟨tag / 64, some l⟩ := by
    rw [PortState.liveAsk_eq_some_iff, hasks]
  have hreject0 (kind n : Nat) :
      (counted 0).rejectPacket p .control ⟨kind, endpoint, stream, tag, payload.length⟩ n = rejected 0 n :=
    (State.freeBuffer_control (by simpa using hup' 0)).trans rfl
  have hreject1 (kind n : Nat) :
      (counted 1).rejectPacket p .bulk ⟨kind, endpoint, stream, tag, payload.length⟩ n = rejected 1 n :=
    (State.freeBuffer_bulk (by simpa using hup' 1)).trans rfl
  have hadmitted (k : Fin 4) : admitted ↔
      (hasRole ((counted k).port p).roles .source || hasRole ((counted k).port p).roles .dest) = true := by
    rw [hroles, Bool.or_eq_true]
  have hanswer (h : credit 0) : arrives 5 = .next ((counted 0).checkRole p .answer .control
      ⟨⟨5, endpoint, stream, tag, payload.length⟩, payload, true⟩) :=
    hcounted0 ▸ exec_packetFrame_counted hrun hup he hs ht hl rfl rfl (i := 0) rfl h
  have hblock (h : credit 1) : arrives 6 = .next ((counted 1).checkRole p .block .bulk
      ⟨⟨6, endpoint, stream, tag, payload.length⟩, payload, true⟩) :=
    hcounted1 ▸ exec_packetFrame_counted hrun hup he hs ht hl rfl rfl (i := 1) rfl h
  have htakeAnswer (h : credit 0) (hyes : admitted) (hs0 : stream = 0) : arrives 5 =
      .next ((counted 0).takeAnswer p ⟨5, endpoint, stream, tag, payload.length⟩ payload) := by
    rw [hanswer h, State.checkRole_ask (.inl ⟨rfl, rfl⟩), if_pos ((hadmitted 0).mp hyes), if_neg (not_not.mpr hs0), if_pos rfl]
  have htakeBlock (h : credit 1) (hyes : admitted) (hs0 : stream = 0) : arrives 6 =
      .next ((counted 1).takeBlock p ⟨6, endpoint, stream, tag, payload.length⟩ payload) := by
    rw [hblock h, State.checkRole_ask (.inr ⟨rfl, rfl⟩), if_pos ((hadmitted 1).mp hyes), if_neg (not_not.mpr hs0),
      if_neg (by simp)]
  refine ⟨fun k hk hcredit => ?_, fun l hyes hs0 hask => ⟨fun hcredit => ?_, fun hcredit => ?_⟩⟩
  · obtain rfl | rfl := hk
    · refine ⟨fun hno => ?_, fun hyes hs0 => ?_, fun hyes hs0 hnone => ?_⟩
      · rw [if_pos rfl, hanswer hcredit, State.checkRole_ask (.inl ⟨rfl, rfl⟩), if_neg (mt (hadmitted 0).mpr hno), hreject0]
      · rw [if_pos rfl, hanswer hcredit, State.checkRole_ask (.inl ⟨rfl, rfl⟩), if_pos ((hadmitted 0).mp hyes), if_pos hs0,
          hreject0]
      · have hdead : ((counted 0).port p).liveAsk tag = none :=
          Option.eq_none_iff_forall_ne_some.mpr fun l hl => hnone l ((hlive 0 l).mp hl)
        rw [if_pos rfl, htakeAnswer hcredit hyes hs0, State.takeAnswer_of_none hdead, State.freeBuffer_control (hup' 0)]
        rfl
    · refine ⟨fun hno => ?_, fun hyes hs0 => ?_, fun hyes hs0 hnone => ?_⟩
      · rw [if_neg (by decide), hblock hcredit, State.checkRole_ask (.inr ⟨rfl, rfl⟩), if_neg (mt (hadmitted 1).mpr hno),
          hreject1]
      · rw [if_neg (by decide), hblock hcredit, State.checkRole_ask (.inr ⟨rfl, rfl⟩), if_pos ((hadmitted 1).mp hyes),
          if_pos hs0, hreject1]
      · have hdead : ((counted 1).port p).liveAsk tag = none :=
          Option.eq_none_iff_forall_ne_some.mpr fun l hl => hnone l ((hlive 1 l).mp hl)
        rw [if_neg (by decide), htakeBlock hcredit hyes hs0, State.takeBlock_of_none hdead, State.freeBuffer_bulk (hup' 1)]
        rfl
  · intro field status okLength fits result
    have hlength : okLength = l.ask.body.okLength := by
      simp only [okLength]
      cases l.ask.body <;> rfl
    have hfits : fits ↔ l.ask.body.answerFits payload := by
      simp only [fits, hlength]
      rfl
    have hresult : result = if payload.head?.map (·.toNat) = some 1 then .error (BitVec.ofNat 32 (payloadField payload 1 4))
        else if payload.head?.map (·.toNat) = some 2 then .noMedium
        else l.ask.body.okResult l.received.length payload := by
      simp only [result]
      cases l.ask.body <;> rfl
    have htake : arrives 5 = .next ((counted 0).takeAnswer p ⟨5, endpoint, stream, tag, payload.length⟩ payload) :=
      htakeAnswer hcredit hyes hs0
    rw [State.takeAnswer_of_some (l := l) ((hlive 0 l).mpr hask)] at htake
    refine ⟨fun hform => ?_, fun hform hid => ?_, fun hform hid => ?_⟩
    · rw [htake, parseAnswer_of_not_fits (mt hfits.mpr hform), Option.elim_none, hreject0]
    · rw [htake, parseAnswer_of_fits (hfits.mp hform), Option.elim_some, if_neg hid, hreject0]
    · rw [htake, parseAnswer_of_fits (hfits.mp hform), Option.elim_some, if_pos hid, State.freeBuffer_control (hup' 0),
        ← hresult, State.completeAsk]
      congr 3
      refine State.modPort_congr ?_
      have hentry : ((freed 0 (counted 0)).port p).asks[tag % 64]? = some ⟨tag / 64, some l⟩ := by
        rw [State.port_modPort]
        exact (hasks 0).symm ▸ hask
      show (((freed 0 (counted 0)).port p).setLive (tag % 64) none).dropBlocks tag = _
      rw [PortState.setLive_of_getElem? hentry]
      rfl
  · intro sized room
    have hsized : sized ↔ ¬ (payload = [] ∨ Config.blockBytes < payload.length) := by
      rw [← List.length_eq_zero_iff]
      simp only [sized, Config.blockBytes]
      omega
    have hroom : room ↔ l.admits payload.length = true := (l.admits_iff payload.length).symm
    have htake : arrives 6 = .next ((counted 1).takeBlock p ⟨6, endpoint, stream, tag, payload.length⟩ payload) :=
      htakeBlock hcredit hyes hs0
    rw [State.takeBlock_of_some (l := l) ((hlive 1 l).mpr hask)] at htake
    refine ⟨fun hsize => ?_, fun hsize hid => ?_, fun hsize hid hfull => ?_, fun hsize hid hfits => ?_⟩
    · rw [htake, if_pos (not_not.mp (mt hsized.mpr hsize)), hreject1]
    · rw [htake, if_neg (hsized.mp hsize), if_neg hid, hreject1]
    · rw [htake, if_neg (hsized.mp hsize), if_pos hid, if_neg (mt hroom.mpr hfull), hreject1]
    · intro full
      have hentry : ((counted 1).port p).asks[tag % 64]? = some ⟨tag / 64, some l⟩ := (hasks 1).symm ▸ hask
      have hset (m : LiveAsk) : (counted 1).modPort p (·.setLive (tag % 64) (some m)) =
          (counted 1).modPort p fun x => { x with asks := x.asks.setIfInBounds (tag % 64) ⟨tag / 64, some m⟩ } :=
        State.modPort_congr (PortState.setLive_of_getElem? hentry (some m))
      rw [htake, if_neg (hsized.mp hsize), if_pos hid, if_pos (hroom.mp hfits), hset,
        State.freeBuffer_bulk ((State.modPort_isUp rfl).trans (hup' 1))]
      rfl

end Sys2Proof.Machine
end

section
/-!
The transmitter (R8, R9, R17, R29, R135), the answer timers and the waiting lists of asks (R16, R19).
-/

namespace Sys2Proof.Machine

/-! ### The outgoing packets of a stream (R132, R135, R136) -/

section
variable {s : State} {st : StreamId}

theorem State.rasterWaiting_modPort {p : Port} {f : PortState → PortState} (h : (f (s.port p)).queues = (s.port p).queues) :
    (s.modPort p f).rasterWaiting st = s.rasterWaiting st := by
  have hq (q : Port) : ((s.modPort p f).port q).queues = (s.port q).queues := by
    by_cases hpq : p = q
    · subst hpq
      rw [State.port_modPort, h]
    · rw [State.port_modPort_ne _ _ hpq]
  simp only [State.rasterWaiting, PortState.queueOf, hq]
  rfl

theorem State.rasterWaiting_modStream {f : Stream → Stream} (h : (f (s.stream st)).params = (s.stream st).params) :
    (s.modStream st f).rasterWaiting st = s.rasterWaiting st := by
  simp only [State.rasterWaiting, State.stream_modStream, h]
  rfl

theorem State.rasterWaiting_eq_false (h : ((s.port (s.stream st).params.output.port).queueOf (.raster st)) = []) :
    s.rasterWaiting st = false := by
  simp [State.rasterWaiting, h]

/-- A raster buffer freed: its credit returns while the stream is open with its decoder on the port, and that UP (R7). -/
theorem State.freeRaster_eq (p : Port) :
    s.freeRaster st p =
      if (s.stream st).state ≠ .closed ∧ (s.stream st).params.decoder.port = p ∧ (s.port p).link = .up then
        s.modPort p (·.grant (.raster st))
      else s := by
  unfold State.freeRaster
  congr 1
  simp only [Bool.and_eq_true, grantsRaster_iff, State.isUp_iff, and_assoc]

/-- The buffer of the last taken packet, once the packet of its lines has left the send queue (R7, R132; log entry 20). -/
theorem State.releaseInHand_of_gone (h : s.rasterWaiting st = false) :
    s.releaseInHand st =
      match (s.stream st).inHand with
      | none => s
      | some b =>
        if (s.stream st).state = .held then s.modStream st fun y => { y with inHand := some { b with outputGone := true } }
        else
          if (s.stream st).state ≠ .closed ∧ (s.stream st).params.decoder.port = b.port ∧ (s.port b.port).link = .up then
            (s.modStream st fun y => { y with inHand := none }).modPort b.port (·.grant (.raster st))
          else s.modStream st fun y => { y with inHand := none } := by
  cases hin : (s.stream st).inHand with
  | none => simp only [State.releaseInHand, hin]
  | some b =>
    simp only [State.releaseInHand, hin, h, Bool.and_false, if_neg Bool.false_ne_true, State.freeRaster_eq,
      State.stream_modStream]
    rfl

theorem State.releaseInHand_rasterWaiting (h : s.rasterWaiting st = false) : (s.releaseInHand st).rasterWaiting st = false := by
  rw [State.releaseInHand_of_gone h]
  split
  · exact h
  · split
    · rw [State.rasterWaiting_modStream rfl, h]
    · split
      · rw [State.rasterWaiting_modPort rfl, State.rasterWaiting_modStream rfl, h]
      · rw [State.rasterWaiting_modStream rfl, h]

/-- Freeing the buffer of the last taken packet leaves the send queues and the link states. -/
theorem State.releaseInHand_port (q : Port) : ((s.releaseInHand st).port q).queues = (s.port q).queues ∧
    ((s.releaseInHand st).port q).link = (s.port q).link := by
  unfold State.releaseInHand
  dsimp only
  split
  · exact ⟨rfl, rfl⟩
  · split
    · exact ⟨rfl, rfl⟩
    · split
      · exact ⟨rfl, rfl⟩
      · next b _ _ _ =>
        rw [State.freeRaster_eq]
        split
        · by_cases hq : b.port = q
          · subst hq
            rw [State.port_modPort]
            exact ⟨rfl, rfl⟩
          · rw [State.port_modPort_ne _ _ hq]
            exact ⟨rfl, rfl⟩
        · exact ⟨rfl, rfl⟩

/-- Freeing the buffer of the last taken packet leaves the rest of its stream (R132). -/
theorem State.releaseInHand_stream : ∃ b, (s.releaseInHand st).stream st = { s.stream st with inHand := b } := by
  unfold State.releaseInHand
  dsimp only
  split
  · exact ⟨_, rfl⟩
  · split
    · exact ⟨_, rfl⟩
    · split
      · exact ⟨_, State.stream_modStream ..⟩
      · refine ⟨none, ?_⟩
        rw [State.freeRaster_eq]
        split
        · show (s.modStream st fun y => { y with inHand := none }).stream st = _
          exact State.stream_modStream ..
        · exact State.stream_modStream ..

/-- The next packet of a stream's outgoing frame, with none waiting on its UP output port (R136). -/
theorem State.handNext_of_up (h : s.rasterWaiting st = false) {p : Port} (hp : (s.stream st).params.output.port = p)
    (hup : s.isUp p = true) :
    s.handNext st =
      match (s.stream st).presenting with
      | [] => s
      | next :: later =>
        (s.modStream st fun y => { y with presenting := later }).modPort p (·.enqueue (.raster st) next) := by
  subst hp
  cases hq : (s.stream st).presenting with
  | nil => simp only [State.handNext, h, hq, if_neg Bool.false_ne_true]
  | cons next later => simp only [State.handNext, h, hq, hup, if_neg Bool.false_ne_true, if_true]

end

/-! ### The transmitter (R8, R9) -/

section
variable {s : State} {p : Port}

theorem roundRobin_eq (q : Fin 4) : roundRobin q = [0, 1, 2, 3].map (q + 1 + ·) := by revert q; decide

theorem PortState.servable_iff (x : PortState) (k : Fin 4) :
    x.servable k = true ↔
      x.queues[k] ≠ [] ∧ x.send[k].total ≠ x.send[k].count ∧ (x.send[k].total - x.send[k].count).toNat ≤ 32767 := by
  simp [PortState.servable, Credit.available]

/-- The queue served next is the first in circular order that can be served (R9). -/
theorem find?_roundRobin_some {f : Fin 4 → Bool} {q j : Fin 4} (hj : f (q + 1 + j) = true)
    (hbefore : ∀ i : Fin 4, i < j → f (q + 1 + i) = false) : (roundRobin q).find? f = some (q + 1 + j) := by
  rw [roundRobin_eq, List.find?_map]
  generalize hg : f ∘ (q + 1 + ·) = g
  have hgj : g j = true := by rw [← hg]; exact hj
  have hgb (i : Fin 4) (hi : i < j) : g i = false := by rw [← hg]; exact hbefore i hi
  have hfind : ([0, 1, 2, 3] : List (Fin 4)).find? g = some j := by
    fin_cases j
    · simp_all
    · have := hgb 0 (by decide)
      simp_all
    · have := hgb 0 (by decide)
      have := hgb 1 (by decide)
      simp_all
    · have := hgb 0 (by decide)
      have := hgb 1 (by decide)
      have := hgb 2 (by decide)
      simp_all
  rw [hfind]
  rfl

/-- The packet at the head of a queue starts; the review unit is told of a RASTER (R9). -/
theorem State.servePacket_raster {k : Fin 4} {pk : Packet} {rest : List Packet} (h : (s.port p).queues[k] = pk :: rest)
    {st : StreamId} (howner : pk.owner = .raster st) :
    s.servePacket p k = (s.modPort p (·.startPacket k pk rest)).outputGone st := by
  simp only [State.servePacket, h, howner]

theorem State.servePacket_other {k : Fin 4} {pk : Packet} {rest : List Packet} (h : (s.port p).queues[k] = pk :: rest)
    (howner : ∀ st, pk.owner ≠ .raster st) : s.servePacket p k = s.modPort p (·.startPacket k pk rest) := by
  simp only [State.servePacket, h]
  split
  · next st heq => exact absurd heq (howner st)
  all_goals rfl

theorem State.startFrameOn_idle (h : (s.port p).link ≠ .up ∨ (s.port p).transmitting.isSome) : s.startFrameOn p = s := by
  simp only [State.startFrameOn, if_pos h]

theorem State.startFrameOn_credit (hup : (s.port p).link = .up) (hfree : (s.port p).transmitting = none)
    (hdue : (s.port p).creditDue = true) :
    s.startFrameOn p = s.modPort p (·.startCredit (s.later Config.creditIntervalUs)) := by
  simp only [State.startFrameOn, hup, hfree, hdue]
  rfl

theorem State.startFrameOn_packet (hup : (s.port p).link = .up) (hfree : (s.port p).transmitting = none)
    (hdue : (s.port p).creditDue = false) :
    s.startFrameOn p = ((roundRobin (s.port p).lastServed).find? (s.port p).servable).elim s (s.servePacket p) := by
  simp only [State.startFrameOn, hup, hfree, hdue]
  cases (roundRobin (s.port p).lastServed).find? (s.port p).servable <;> rfl

end

/-- Settles O17: the transmitter's next frame, by what the port has to send. -/
theorem transmitStart : Obligations.TransmitStart := by
  intro s p hrun x ready
  have hexec : exec (.frameTransmitStart p) s = .next (s.startFrameOn p) :=
    exec_whenRunning (f := fun t => t.startFrameOn p) rfl hrun
  have hready (k : Fin 4) : x.servable k = true ↔ ready k := x.servable_iff k
  refine ⟨fun hidle => ?_, fun hup hfree hdue => ?_, fun hup hfree hdue hnone => ?_,
    fun hup hfree hdue j pk rest hj hbefore hqueue => ?_⟩
  · rw [hexec, State.startFrameOn_idle]
    exact hidle.imp_right fun h => Option.isSome_iff_ne_none.mpr h
  · rw [hexec, State.startFrameOn_credit hup hfree hdue]
    rfl
  · have hfind : (roundRobin x.lastServed).find? x.servable = none :=
      List.find?_eq_none.mpr fun k _ hk => hnone k ((hready k).mp hk)
    rw [hexec, State.startFrameOn_packet hup hfree hdue, hfind]
    rfl
  · intro k t
    have hfind : (roundRobin x.lastServed).find? x.servable = some k :=
      find?_roundRobin_some ((hready _).mpr hj) fun i hi => Bool.eq_false_iff.mpr (mt (hready _).mp (hbefore i hi))
    have hstart : exec (.frameTransmitStart p) s = .next (s.servePacket p k) := by
      rw [hexec, State.startFrameOn_packet hup hfree hdue, hfind]
      rfl
    have ht : s.modPort p (·.startPacket k pk rest) = t := rfl
    refine ⟨fun hother => ?_, fun st howner hport hk hrest => ?_⟩
    · rw [hstart, State.servePacket_other hqueue hother, ht]
    · rw [hstart, State.servePacket_raster hqueue howner, ht]
      intro z v
      have hindex : (PacketClass.raster st).index = k := by
        rw [hk]
        fin_cases st <;> rfl
      have hlink (q : Port) : (t.port q).link = (s.port q).link := by
        by_cases hq : p = q
        · subst hq
          rw [State.port_modPort]
        · rw [State.port_modPort_ne _ _ hq]
      have hempty : (t.port p).queues[k] = [] := by
        rw [State.port_modPort]
        simp [hrest]
      have hgone : t.rasterWaiting st = false := by
        refine State.rasterWaiting_eq_false ?_
        show (t.port (s.stream st).params.output.port).queues[(PacketClass.raster st).index] = []
        simpa only [hport, hindex] using hempty
      have hgrant (y : PortState) : y.grant (.raster st) =
          { y with
            receive := y.receive.set k.val ⟨y.receive[k].total + 1, y.receive[k].count⟩ k.isLt, creditDue := true } := by
        simp only [PortState.grant, hindex]
      have hv : t.releaseInHand st = v := by
        rw [State.releaseInHand_of_gone hgone]
        simp only [hlink, hgrant]
        rfl
      obtain ⟨b, hb⟩ := t.releaseInHand_stream (st := st)
      obtain ⟨hqueues, hlinks⟩ := t.releaseInHand_port (st := st) p
      have hnext := State.handNext_of_up (State.releaseInHand_rasterWaiting hgone) (p := p)
        (by rw [hb]; exact hport) (by rw [State.isUp_iff, hlinks, hlink]; exact hup)
      show Host.Outcome.next ((t.releaseInHand st).handNext st) = _
      have hvempty : (v.port p).queues[k] = [] := by
        rw [← hv, hqueues]
        exact hempty
      rw [hnext, hb, hv]
      show Host.Outcome.next (match z.presenting with
        | [] => v
        | next :: later =>
          (v.modStream st fun y => { y with presenting := later }).modPort p (·.enqueue (.raster st) next)) = _
      cases z.presenting with
      | nil => rfl
      | cons next later =>
        refine congrArg Host.Outcome.next (State.modPort_congr ?_)
        show (v.port p).enqueue (.raster st) next = _
        simp only [PortState.enqueue, hindex, hvempty]
        rfl

/-! ### The end of a transmission (R9, R17, R29, R174) -/

theorem PortState.unsent_iff (x : PortState) (tag : Nat) :
    x.unsent tag = true ↔ ∃ k : Fin 4, ∃ q ∈ x.queues[k], q.owner = .ask tag := by
  simp only [PortState.unsent, List.any_eq_true, Vector.mem_toList_iff, Vector.mem_iff_getElem, beq_iff_eq, Fin.exists_iff,
    Fin.getElem_fin]
  constructor
  · rintro ⟨q, ⟨k, hk, rfl⟩, hq⟩
    exact ⟨k, hk, hq⟩
  · rintro ⟨k, hk, hq⟩
    exact ⟨_, ⟨k, hk, rfl⟩, hq⟩

theorem setIfInBounds_eq_set {α : Type} {n i : Nat} {v : Vector α n} (h : i < n) (x : α) :
    v.setIfInBounds i x = v.set i x h := by
  ext j hj
  simp [Vector.getElem_set, Vector.getElem_setIfInBounds]

/-- The last packet of a live ask has been sent (R17). -/
theorem State.askSent_of_live {s : State} {p : Port} {tag : Nat} {l : LiveAsk} (hsent : (s.port p).unsent tag = false)
    (h : tag % 64 < 64) (hl : (s.port p).asks[tag % 64] = ⟨tag / 64, some l⟩) :
    s.askSent p tag = s.modPort p fun x =>
      { x with
        asks := x.asks.set (tag % 64)
          ⟨tag / 64, some { l with phase := .awaiting (s.later (s.timeoutUs l.ask.endpoint)) }⟩ } := by
  have hentry : (s.port p).asks[tag % 64]? = some ⟨tag / 64, some l⟩ := by rw [Vector.getElem?_eq_getElem h, hl]
  simp only [State.askSent, hsent, (PortState.liveAsk_eq_some_iff _ _ _).mpr hentry, if_neg Bool.false_ne_true]
  refine State.modPort_congr ?_
  rw [PortState.setLive_of_getElem? hentry]
  simp only [setIfInBounds_eq_set h]

/-- Settles O18: what the owner of a packet is told when it has been sent. -/
theorem transmitEnd : Obligations.TransmitEnd := by
  intro s p hrun t
  have hexec : exec (.frameTransmitEnd p) s = .next (s.endFrameOn p) :=
    exec_whenRunning (f := fun t => t.endFrameOn p) rfl hrun
  refine ⟨fun hnone => ?_, fun a b c d hcredit => ?_, fun pk hpk => ?_⟩
  · simp only [hexec, State.endFrameOn, hnone]
  · simp only [hexec, State.endFrameOn, hcredit]
    rfl
  · have hsent : exec (.frameTransmitEnd p) s = .next (t.packetSent p pk.owner) := by
      simp only [hexec, State.endFrameOn, hpk]
      rfl
    rw [hsent]
    refine ⟨fun howner => ?_, fun howner => ?_, fun howner horphan => ?_, fun n e howner hcarrying hentry => ?_,
      fun tag howner => ⟨fun hmore => ?_, fun h l hlast hlive => ?_⟩⟩
    · obtain howner | ⟨st, howner⟩ := howner <;> rw [howner] <;> rfl
    · rw [howner]
      rfl
    · have hnotice : t.control.notice = .orphan := horphan
      rw [howner]
      simp only [State.packetSent, State.noticeSent, hnotice]
    · have hnotice : t.control.notice = .carrying n := hcarrying
      have hlog : t.spotter.log[n]? = some e := hentry
      rw [howner]
      simp only [State.packetSent, State.noticeSent, hnotice, markNoticed, hlog]
    · have hunsent : (t.port p).unsent tag = true := by
        rw [State.port_modPort]
        exact ((s.port p).unsent_iff tag).mpr hmore
      rw [howner, State.packetSent, State.askSent, if_pos hunsent]
    · have hunsent : (t.port p).unsent tag = false := by
        rw [State.port_modPort]
        exact Bool.eq_false_iff.mpr fun hu => by
          obtain ⟨k, q, hq, hown⟩ := ((s.port p).unsent_iff tag).mp hu
          exact hlast k q hq hown
      have hentry : (t.port p).asks[tag % 64] = ⟨tag / 64, some l⟩ := by simpa only [t, State.port_modPort] using hlive
      rw [howner, State.packetSent, State.askSent_of_live hunsent h hentry]
      rfl

/-! ### Making an ask (R16, R17) -/

/-- Packets handed to a send queue one after another (R9). -/
theorem PortState.foldl_enqueue_bulk (pks : List Packet) (x : PortState) :
    pks.foldl (fun y pk => y.enqueue .bulk pk) x = { x with queues := x.queues.set 1 (x.queues[1] ++ pks) } := by
  induction pks generalizing x with
  | nil => simp
  | cons pk pks ih =>
    rw [List.foldl_cons, ih]
    simp [PortState.enqueue, PacketClass.index]

/-- An ask takes an entry of an UP port (R16, R17). -/
theorem PortState.place_of_up {x : PortState} (hup : x.link = .up) (n : EntryId) (a : Ask) :
    let g := (x.asks[n].generation + 1) % 1024
    let tag := g * 64 + n.val
    x.place n a = { x with
      asks := x.asks.set n.val ⟨g, some ⟨a, .sending, []⟩⟩ n.isLt
      queues := (x.queues.set 0 (x.queues[0] ++
          [⟨.ask, a.endpoint.id, 0, tag, a.body.payload, .ask tag⟩])).set 1 (x.queues[1] ++
        a.body.blocks.map fun data => ⟨.block, a.endpoint.id, 0, tag, data, .ask tag⟩) } := by
  intro g tag
  have hentry : x.asks[n.val]? = some x.asks[n] := Vector.getElem?_eq_getElem n.isLt
  simp only [PortState.place, hentry, hup, if_true, PortState.foldl_enqueue_bulk, setIfInBounds_eq_set n.isLt]
  have hbulk (q : List Packet) : (x.queues.set 0 q)[1] = x.queues[1] := by simp
  have hqueues : ((x.queues.set 0 (x.queues[0] ++ [a.askPacket tag])).set 1
      ((x.queues.set 0 (x.queues[0] ++ [a.askPacket tag]))[1] ++ a.blockPackets tag)) =
      (x.queues.set 0 (x.queues[0] ++ [a.askPacket tag])).set 1 (x.queues[1] ++ a.blockPackets tag) := by rw [hbulk]
  exact congrArg (fun q => { x with
    link := .up, asks := x.asks.set n.val ⟨g, some ⟨a, .sending, []⟩⟩ n.isLt, queues := q }) hqueues

/-- On a port that is not UP the packets are dropped and the entry is free again (R9, R16). -/
theorem PortState.place_of_not_up {x : PortState} (hup : x.link ≠ .up) (n : EntryId) (a : Ask) :
    x.place n a = { x with asks := x.asks.set n.val ⟨(x.asks[n].generation + 1) % 1024, none⟩ n.isLt } := by
  have hentry : x.asks[n.val]? = some x.asks[n] := Vector.getElem?_eq_getElem n.isLt
  simp only [PortState.place, hentry, if_neg hup, setIfInBounds_eq_set n.isLt]

/-- The lowest-numbered free entry (R16). -/
theorem PortState.freeEntry_of_first {x : PortState} {n : EntryId} (hn : x.asks[n].live = none)
    (hbefore : ∀ m : EntryId, m < n → x.asks[m].live ≠ none) : x.freeEntry = some n.val := by
  have hlen : x.asks.toList.length = 64 := by simp
  rw [PortState.freeEntry, List.findIdx?_eq_some_iff_getElem]
  refine ⟨by omega, ?_, fun j hj => ?_⟩
  · simpa using hn
  · have := hbefore ⟨j, by omega⟩ hj
    simpa using this

theorem PortState.freeEntry_of_full {x : PortState} (h : ∀ n : EntryId, x.asks[n].live ≠ none) : x.freeEntry = none := by
  rw [PortState.freeEntry, List.findIdx?_eq_none_iff]
  intro e he
  obtain ⟨i, hi, rfl⟩ := Vector.mem_iff_getElem.mp (Vector.mem_toList_iff.mp he)
  exact Bool.eq_false_iff.mpr fun hnone => h ⟨i, hi⟩ (Option.isNone_iff_eq_none.mp hnone)

theorem State.askable_iff (s : State) (e : EpName) :
    s.askable e = true ↔ ∃ y, s.endpoint? e = some y ∧ (y.state = .online ∨ y.state = .draining) ∧
      hasRole (s.port e.port).roles y.kind.role = true := by
  unfold State.askable
  cases s.endpoint? e <;> simp

section
variable {s : State} {a : Ask}

theorem State.makeAsk_of_not_askable (h : ¬ s.askable a.endpoint = true) : s.makeAsk a = (s, true) := by
  simp [State.makeAsk, h]

/-- An ask that finds others waiting, or no free entry, waits (R16; log entry 24). -/
theorem State.makeAsk_waits (h : s.askable a.endpoint = true)
    (hwait : (s.port a.endpoint.port).waiting ≠ [] ∨ (s.port a.endpoint.port).freeEntry = none) :
    s.makeAsk a = (s.modPort a.endpoint.port fun x => { x with waiting := x.waiting ++ [a] }, false) := by
  simp only [State.makeAsk, h, Bool.not_true, if_neg Bool.false_ne_true]
  split
  · next hnil hentry =>
    obtain hw | hf := hwait
    · exact absurd hnil hw
    · exact absurd (hf.symm.trans hentry) (by simp)
  · rfl

theorem State.makeAsk_places (h : s.askable a.endpoint = true) {n : Nat} (hwait : (s.port a.endpoint.port).waiting = [])
    (hfree : (s.port a.endpoint.port).freeEntry = some n) :
    s.makeAsk a = (s.modPort a.endpoint.port (·.place n a), !s.isUp a.endpoint.port) := by
  simp only [State.makeAsk, h, hwait, hfree, Bool.not_true, if_neg Bool.false_ne_true]

end

/-! ### The answer timers and the waiting lists (R16, R19) -/

section
variable {s : State} {p : Port}

/-- The answer timer of an AWAITING ask ends (R19). -/
theorem State.expireAsk_of_awaiting {n : EntryId} {g : Nat} {a : Ask} {data : List Byte} {time : Word64}
    (h : (s.port p).asks[n] = ⟨g, some ⟨a, .awaiting time, data⟩⟩) :
    s.expireAsk p n =
      (((s.advanceTo time).modPort p fun x => { x with asks := x.asks.set n.val ⟨g, none⟩ n.isLt }).askEnded
        a.purpose data .timeout).engineSettle := by
  have hport : (s.advanceTo time).port p = s.port p := by simp [State.port]
  have hentry : ((s.advanceTo time).port p).asks[n.val]? = some ⟨g, some ⟨a, .awaiting time, data⟩⟩ := by
    rw [hport]
    exact (Vector.getElem?_eq_getElem n.isLt).trans (congrArg some h)
  have hset : (s.advanceTo time).modPort p (·.setLive n.val none) =
      (s.advanceTo time).modPort p fun x => { x with asks := x.asks.set n.val ⟨g, none⟩ n.isLt } := by
    refine State.modPort_congr ?_
    rw [PortState.setLive_of_getElem? hentry]
    simp only [setIfInBounds_eq_set n.isLt]
  simp only [State.expireAsk, h, AskEntry.awaiting?, hset]

theorem State.expireAsk_of_not_awaiting {n : EntryId} (h : ((s.port p).asks[n]).awaiting? = none) : s.expireAsk p n = s := by
  simp only [State.expireAsk, h]

theorem State.grantEntry_of_none (h : (s.port p).waiting = [] ∨ (s.port p).freeEntry = none) : s.grantEntry p = s := by
  unfold State.grantEntry
  split
  · next hw hf => exact absurd h (by simp [hw, hf])
  · rfl

/-- A free entry of an UP port goes to the ask that has waited longest (R16). -/
theorem State.grantEntry_of_up {a : Ask} {rest : List Ask} {n : Nat} (hup : s.isUp p = true)
    (hw : (s.port p).waiting = a :: rest) (hf : (s.port p).freeEntry = some n) :
    s.grantEntry p = (s.modPort p fun x => { x with waiting := rest }.place n a).engineSettle := by
  simp only [State.grantEntry, hw, hf, hup, if_true]

end

/-- Settles O19. -/
theorem askTableEvents : Obligations.AskTableEvents := by
  refine ⟨fun s a => ?_, fun s p hrun => ⟨fun n g a data time h => ?_, fun n h => ?_, fun n a rest hup hw hn hbefore => ?_,
    fun h => ?_⟩⟩
  · intro p usable
    have husable : usable ↔ s.askable a.endpoint = true := (s.askable_iff a.endpoint).symm
    refine ⟨fun hno => State.makeAsk_of_not_askable (mt husable.mpr hno), fun hyes hwait => ?_,
      fun hyes hwait n hn hbefore => ?_⟩
    · exact State.makeAsk_waits (husable.mp hyes) (hwait.imp_right PortState.freeEntry_of_full)
    · intro g tag
      have hplace := State.makeAsk_places (husable.mp hyes) hwait (PortState.freeEntry_of_first hn hbefore)
      refine ⟨fun hup => ?_, fun hdown => ?_⟩
      · rw [hplace, (s.isUp_iff _).mpr hup]
        exact congrArg (·, false) (State.modPort_congr (PortState.place_of_up hup n a))
      · rw [hplace, (s.isUp_eq_false _).mpr hdown]
        exact congrArg (·, true) (State.modPort_congr (PortState.place_of_not_up hdown n a))
  · rw [exec_whenRunning (f := fun t => t.expireAsk p n) rfl hrun, State.expireAsk_of_awaiting h]
  · rw [exec_whenRunning (f := fun t => t.expireAsk p n) rfl hrun, State.expireAsk_of_not_awaiting]
    obtain h | ⟨a, data, h⟩ := h <;> simp only [AskEntry.awaiting?, h]
  · intro g tag
    rw [exec_whenRunning (f := fun t => t.grantEntry p) rfl hrun,
      State.grantEntry_of_up ((s.isUp_iff p).mpr hup) hw (PortState.freeEntry_of_first hn hbefore)]
    exact congrArg (fun t : State => Host.Outcome.next t.engineSettle) (State.modPort_congr
      (PortState.place_of_up (x := { s.port p with waiting := rest }) hup n a))
  · rw [exec_whenRunning (f := fun t => t.grantEntry p) rfl hrun,
      State.grantEntry_of_none (h.imp_right PortState.freeEntry_of_full)]

end Sys2Proof.Machine
end

section
/-!
Rules of the offload engine's state: what the operations on channels, clips and asks leave alone (R54 to R58), the engine at
rest (R62), and returns that find nothing to take (R95).
-/

namespace Sys2Proof.Machine

/-! ### Channels and their bindings -/

section
variable {s : State} {c : ChannelId} {b : Binding}

theorem State.binding?_eq_some : s.binding? c = some b ↔ s.channel c = .bound b := by
  unfold State.binding?
  cases s.channel c <;> simp [Channel.binding?]

theorem State.binding?_of_bound (h : s.channel c = .bound b) : s.binding? c = some b := State.binding?_eq_some.mpr h

theorem State.binding?_of_free (h : s.channel c = .free) : s.binding? c = none := by rw [State.binding?, h]; rfl

theorem State.boundClip?_of_bound (h : s.channel c = .bound b) : s.boundClip? c = s.clip? b.clip := by
  rw [State.boundClip?, State.binding?_of_bound h]; rfl

theorem State.modBinding_of_bound (h : s.channel c = .bound b) (f : Binding → Binding) :
    s.modBinding c f = s.setChannel c (.bound (f b)) := by
  simp only [State.modBinding, State.binding?_of_bound h]

theorem mem_allChannels (c : ChannelId) : c ∈ allChannels := by revert c; decide

theorem allChannels_nodup : allChannels.Nodup := by decide

theorem State.mem_channelsOf (n : Nat) : c ∈ s.channelsOf n ↔ (s.channel c).job? = some n := by
  simp [State.channelsOf, mem_allChannels]

theorem State.channelsOf_nodup (n : Nat) : (s.channelsOf n).Nodup := allChannels_nodup.filter _

/-- A clip is bound to no channel exactly when no binding names it (R54). -/
theorem State.channelOf_eq_none {k : Nat} :
    s.channelOf k = none ↔ ∀ (c : ChannelId) (b : Binding), s.channel c = .bound b → b.clip ≠ k := by
  unfold State.channelOf
  rw [List.find?_eq_none]
  constructor
  · intro h c b hc hk
    exact h c (mem_allChannels c) (by simp [State.binding?_of_bound hc, hk])
  · intro h c _ hc
    obtain ⟨b, hb, hk⟩ := Option.map_eq_some_iff.mp (beq_iff_eq.mp hc)
    exact h c b (State.binding?_eq_some.mp hb) hk

end

/-! ### What the state's operations leave alone -/

section
variable (s : State) (c d : ChannelId) (x : Channel) (n m : Nat) (p : Purpose → Bool)

@[simp] theorem State.setChannel_clip? : (s.setChannel c x).clip? n = s.clip? n := rfl
@[simp] theorem State.setChannel_job? : (s.setChannel c x).job? n = s.job? n := rfl
@[simp] theorem State.setChannel_now : (s.setChannel c x).now = s.now := rfl
@[simp] theorem State.withdrawAsks_clip? : (s.withdrawAsks p).clip? n = s.clip? n := rfl
@[simp] theorem State.withdrawAsks_job? : (s.withdrawAsks p).job? n = s.job? n := rfl
@[simp] theorem State.withdrawAsks_channel : (s.withdrawAsks p).channel d = s.channel d := rfl
@[simp] theorem State.withdrawAsks_now : (s.withdrawAsks p).now = s.now := rfl
@[simp] theorem State.setIdentify_clip? (y : Identify) : (s.setIdentify m y).clip? n = s.clip? n := rfl
@[simp] theorem State.setIdentify_job? (y : Identify) : (s.setIdentify m y).job? n = s.job? n := rfl
@[simp] theorem State.setIdentify_channel (y : Identify) : (s.setIdentify m y).channel d = s.channel d := rfl
@[simp] theorem State.setIdentify_now (y : Identify) : (s.setIdentify m y).now = s.now := rfl
@[simp] theorem State.setClip_job? (y : Option ClipRecord) : (s.setClip m y).job? n = s.job? n := rfl
@[simp] theorem State.setClip_channel (y : Option ClipRecord) : (s.setClip m y).channel d = s.channel d := rfl
@[simp] theorem State.setJob_clip? (y : Option JobRecord) : (s.setJob m y).clip? n = s.clip? n := rfl
@[simp] theorem State.setJob_channel (y : Option JobRecord) : (s.setJob m y).channel d = s.channel d := rfl

@[simp] theorem State.modClip_job? (f : ClipRecord → ClipRecord) : (s.modClip m f).job? n = s.job? n := by
  simp [State.job?]
@[simp] theorem State.modClip_channel (f : ClipRecord → ClipRecord) : (s.modClip m f).channel d = s.channel d := by
  simp [State.channel]
@[simp] theorem State.modClip_now (f : ClipRecord → ClipRecord) : (s.modClip m f).now = s.now := by simp [State.now]

@[simp] theorem State.modJob_link (f : JobRecord → JobRecord) : (s.modJob m f).link = s.link := by
  unfold State.modJob; split <;> rfl
@[simp] theorem State.modJob_control (f : JobRecord → JobRecord) : (s.modJob m f).control = s.control := by
  unfold State.modJob; split <;> rfl
@[simp] theorem State.modJob_offload (f : JobRecord → JobRecord) : (s.modJob m f).offload = s.offload := by
  unfold State.modJob; split <;> rfl
@[simp] theorem State.modJob_look (f : JobRecord → JobRecord) : (s.modJob m f).look = s.look := by
  unfold State.modJob; split <;> rfl
@[simp] theorem State.modJob_review (f : JobRecord → JobRecord) : (s.modJob m f).review = s.review := by
  unfold State.modJob; split <;> rfl
@[simp] theorem State.modJob_spotter (f : JobRecord → JobRecord) : (s.modJob m f).spotter = s.spotter := by
  unfold State.modJob; split <;> rfl
@[simp] theorem State.modJob_supply (f : JobRecord → JobRecord) : (s.modJob m f).supply = s.supply := by
  unfold State.modJob; split <;> rfl
@[simp] theorem State.modJob_clips (f : JobRecord → JobRecord) : (s.modJob m f).table.clips = s.table.clips := by
  unfold State.modJob; split <;> rfl
@[simp] theorem State.modJob_admission (f : JobRecord → JobRecord) : (s.modJob m f).table.admission = s.table.admission := by
  unfold State.modJob; split <;> rfl
@[simp] theorem State.modJob_clip? (f : JobRecord → JobRecord) : (s.modJob m f).clip? n = s.clip? n := by
  simp [State.clip?]
@[simp] theorem State.modJob_channel (f : JobRecord → JobRecord) : (s.modJob m f).channel d = s.channel d := by
  simp [State.channel]
@[simp] theorem State.modJob_now (f : JobRecord → JobRecord) : (s.modJob m f).now = s.now := by simp [State.now]

theorem State.channel_setChannel_eq : (s.setChannel c x).channel d = if d = c then x else s.channel d := by
  split
  · next h => rw [h, State.channel_setChannel]
  · next h => exact State.channel_setChannel_ne s x (Ne.symm h)

end

/-! ### The engine at rest (R62) -/

section
variable {s : State}

theorem State.pumpChannel_of_free {c : ChannelId} (h : s.channel c = .free) : s.pumpChannel c = s := by
  have hb := State.binding?_of_free h
  have hsource : s.pumpSource c = s := by
    simp only [State.pumpSource, State.pumpOpen, State.raiseReadPos, State.pumpRead, hb]
  simp only [State.pumpChannel, hsource, hb, Option.elim_none, List.map_nil, List.foldl_nil, State.pumpClosing, h]

theorem State.pumpIdentify_of_not_identifying {n : Nat} (h : ∀ j ∈ s.job? n, j.state ≠ .identifying) :
    s.pumpIdentify n = s := by
  have honce : State.pumpIdentifyOnce n s = s := by
    unfold State.pumpIdentifyOnce
    split
    · rfl
    · next j hj =>
      have := h j hj
      simp [this]
  have hrepeat (k : Nat) : Nat.repeat (State.pumpIdentifyOnce n) k s = s := by
    induction k with
    | zero => rfl
    | succ k ih => rw [Nat.repeat, ih, honce]
  exact hrepeat _

/-- A fold whose every step leaves the state as it is. -/
theorem foldl_of_fixed {α : Type} {f : State → α → State} {l : List α} (h : ∀ x ∈ l, f s x = s) : l.foldl f s = s := by
  induction l with
  | nil => rfl
  | cons x xs ih =>
    rw [List.foldl_cons, h x List.mem_cons_self, ih fun y hy => h y (List.mem_cons_of_mem x hy)]

theorem State.refreshEngine_of_running (hrun : s.offload.state = .running) (hpause : s.offload.paused = false) :
    s.refreshEngine = s := by
  simp only [State.refreshEngine, hrun, hpause]

theorem State.needsBuffer_of_none {c : ChannelId} (h : s.binding? c = none) : s.needsBuffer c = false := by
  simp only [State.needsBuffer, h]

theorem State.refreshPool_of_free (hfree : ∀ c : ChannelId, s.channel c = .free) (hwait : s.offload.bufferWaiting = []) :
    s.refreshPool = s := by
  have hneeds (c : ChannelId) : s.needsBuffer c = false := State.needsBuffer_of_none (State.binding?_of_free (hfree c))
  have hnew : (allChannels.filter fun c => s.needsBuffer c && !s.offload.bufferWaiting.contains c) = [] :=
    List.filter_eq_nil_iff.mpr fun c _ => by simp [hneeds]
  have hold : s.offload.bufferWaiting.filter s.needsBuffer = [] := by rw [hwait, List.filter_nil]
  show { s with
    offload := { s.offload with
      bufferWaiting := s.offload.bufferWaiting.filter s.needsBuffer ++
        allChannels.filter fun c => s.needsBuffer c && !s.offload.bufferWaiting.contains c } } = s
  rw [hnew, hold, List.append_nil, ← hwait]

/-- An engine with nothing to ask asks nothing (R16). -/
theorem State.engineSettle_of_quiet (h : s.engineQuiet) (hrun : s.offload.state = .running) (hpause : s.offload.paused = false) :
    s.engineSettle = s.refreshPool := by
  obtain ⟨hfree, hjobs⟩ := h
  have hidentify : (List.range 16).foldl (fun s n => s.pumpIdentify n) s = s :=
    foldl_of_fixed fun n hn => State.pumpIdentify_of_not_identifying (hjobs ⟨n, List.mem_range.mp hn⟩)
  have hchannels : allChannels.foldl (fun s c => s.pumpChannel c) s = s :=
    foldl_of_fixed fun c _ => State.pumpChannel_of_free (hfree c)
  have hengine := State.refreshEngine_of_running hrun hpause
  simp only [State.engineSettle, hengine, hidentify, hchannels]

/-- A still engine stays as it is (R62, R72). -/
theorem State.engineSettle_of_still (h : s.engineStill) : s.engineSettle = s := by
  obtain ⟨hquiet, hrun, hsupply, hoperator, hwait⟩ := h
  rw [State.engineSettle_of_quiet hquiet hrun (by simp [OffloadEngine.paused, hsupply, hoperator]),
    State.refreshPool_of_free hquiet.1 hwait]

/-! ### Returns (R95) -/

theorem ClipRecord.deferredAt_isSome (c : ClipRecord) (e : EpName) :
    (c.deferredAt e).isSome = c.dests.any fun d => d.state == .deferred && d.endpoint == e := by
  rw [ClipRecord.deferredAt, List.findIdx?_isSome]

/-- The clips a return reaches (R95). -/
theorem State.returning_eq (s : State) (e : EpName) :
    s.returning e = (s.table.jobs.toList.filterMap id).flatMap fun j =>
      if j.state = .cancelled then [] else j.clips.filter fun k => (s.clip? k).any fun c =>
        c.dests.any fun d => d.state == .deferred && d.endpoint == e := by
  unfold State.returning
  simp only [State.clipIs_eq, ClipRecord.deferredAt_isSome]

theorem State.takeReturn_of_none {e : EpName}
    (h : ∀ n c, s.clip? n = some c → ∀ d ∈ c.dests, d.endpoint = e → d.state ≠ .deferred) : s.takeReturn e = s := by
  have hnone : s.returning e = [] := by
    rw [State.returning_eq, List.flatMap_eq_nil_iff]
    intro j _
    split
    · rfl
    · refine List.filter_eq_nil_iff.mpr fun k _ hk => ?_
      cases hc : s.clip? k with
      | none => simp [hc] at hk
      | some c =>
        rw [hc, Option.any_some] at hk
        obtain ⟨d, hd, hdef⟩ := List.any_eq_true.mp hk
        rw [Bool.and_eq_true, beq_iff_eq, beq_iff_eq] at hdef
        exact h k c hc d hd hdef.2 hdef.1
  rw [State.takeReturn, hnone]
  rfl

end

end Sys2Proof.Machine
end

section
/-!
Ports that enter and leave UP, and what the loss of a port spreads to (R1 to R3, R12, R25, R58, R92, R93, R95).
-/

namespace Sys2Proof.Machine

/-! ### Entering UP (R3, R95) -/

/-- A port that has entered UP, and its endpoints, before any return is taken (R3). -/
def State.cameUp (s : State) (p : Port) : State :=
  (s.modPort p (·.enterUp (s.rasterGrant 0 p) (s.rasterGrant 1 p))).setEndpoints (s.link.endpoints.map (Endpoint.comeUp p))

theorem State.enterUp_eq (s : State) (p : Port) :
    s.enterUp p = (((s.cameUp p).returnsOn p).foldl (fun t e => t.takeReturn e) (s.cameUp p)).engineSettle := rfl

theorem Endpoint.comeUp_eq (p : Port) (e : Endpoint) :
    e.comeUp p = if e.name.port = p ∧ e.state = .offline then { e with state := .online } else e := by
  simp [Endpoint.comeUp]

theorem State.rasterGrant_eq (s : State) (st : StreamId) (p : Port) :
    BitVec.ofNat 16 (s.rasterGrant st p) =
      if (s.stream st).state ≠ .closed ∧ (s.stream st).params.decoder.port = p then
        BitVec.ofNat 16 (16 - (s.stream st).buffersOn p)
      else 0 := by
  unfold State.rasterGrant
  simp only [grantsRaster_iff]
  split <;> rfl

/-- Settles O10. -/
theorem linkEvents : Obligations.LinkEvents := by
  refine ⟨fun s p hrun => ⟨?_, fun hlink => ?_, fun hlink => ?_, fun hlink => ?_⟩, fun s e => ?_, fun s p hrun hlink => ?_⟩
  · rw [exec_whenRunning (c := .partnerDetected p) rfl hrun]
    split <;> rfl
  · rw [exec_whenRunning (c := .linkUp p) rfl hrun, if_neg hlink]
  · rw [exec_whenRunning (c := .linkDown p) rfl hrun, hlink]
  · rw [exec_whenRunning (c := .linkDown p) rfl hrun, hlink]
  · intro returning
    rw [State.takeReturn, State.returning_eq]
  · intro raster u back
    have hu : s.cameUp p = u := by
      have hends : s.link.endpoints.map (Endpoint.comeUp p) = u.link.endpoints :=
        List.map_congr_left fun e _ => Endpoint.comeUp_eq p e
      have hport : (s.port p).enterUp (s.rasterGrant 0 p) (s.rasterGrant 1 p) =
          { s.port p with
            link := .up
            receive := #v[⟨4, 0⟩, ⟨64, 0⟩, ⟨raster 0, 0⟩, ⟨raster 1, 0⟩]
            send := Vector.replicate 4 ⟨0, 0⟩
            creditDue := true
            creditTimer := none
            lastServed := 3 } := by
        simp only [PortState.enterUp, Credit.granted, State.rasterGrant_eq]
        rfl
      simp only [State.cameUp, State.modPort, hends, hport]
      rfl
    have hexec : exec (.linkUp p) s = .next (back.foldl (fun (t : State) e => t.takeReturn e) u).engineSettle := by
      rw [exec_whenRunning (c := .linkUp p) rfl hrun, if_pos hlink, State.enterUp_eq, hu]
      rfl
    refine ⟨hexec, fun hstill hnone => ?_⟩
    have hback : back.foldl (fun (t : State) e => t.takeReturn e) u = u := by
      refine foldl_of_fixed fun e he => State.takeReturn_of_none fun n c hc d hd hde => ?_
      obtain ⟨y, hy, rfl⟩ := List.mem_map.mp he
      have hport : y.name.port = p := by
        have := (List.mem_filter.mp hy).2
        simp only [Bool.and_eq_true, beq_iff_eq] at this
        exact this.1.1
      exact hnone n c hc d hd (by rw [hde, hport])
    rw [hexec, hback, State.engineSettle_of_still (s := u) hstill]

end Sys2Proof.Machine
end

section
/-!
The fault log of the offload engine: its operations only add entries at the tail (R160), so that what stands at the front
stays. One lemma for each operation, as for the ports that are not UP.
-/

namespace Sys2Proof.Machine

/-- The log begins with some entries. -/
def State.logged (front : List FaultEntry) (s : State) : Prop := front <+: s.spotter.log

/-! ### The state's operations -/

section
variable {s : State} {front : List FaultEntry}

@[simp] theorem setClip_logged (n : Nat) (c : Option ClipRecord) : (s.setClip n c).logged front ↔ s.logged front := Iff.rfl
@[simp] theorem setJob_logged (n : Nat) (c : Option JobRecord) : (s.setJob n c).logged front ↔ s.logged front := Iff.rfl
@[simp] theorem setChannel_logged (c : ChannelId) (x : Channel) : (s.setChannel c x).logged front ↔ s.logged front := Iff.rfl
@[simp] theorem setIdentify_logged (n : Nat) (x : Identify) : (s.setIdentify n x).logged front ↔ s.logged front := Iff.rfl
@[simp] theorem refreshPool_logged : s.refreshPool.logged front ↔ s.logged front := Iff.rfl
@[simp] theorem withdrawAsks_logged (p : Purpose → Bool) : (s.withdrawAsks p).logged front ↔ s.logged front := Iff.rfl
@[simp] theorem modPort_logged (p : Port) (f : PortState → PortState) : (s.modPort p f).logged front ↔ s.logged front := Iff.rfl
@[simp] theorem modStream_logged (st : StreamId) (f : Stream → Stream) : (s.modStream st f).logged front ↔ s.logged front :=
  Iff.rfl

@[simp] theorem modClip_logged (n : Nat) (f : ClipRecord → ClipRecord) : (s.modClip n f).logged front ↔ s.logged front := by
  simp [State.logged]
@[simp] theorem modJob_logged (n : Nat) (f : JobRecord → JobRecord) : (s.modJob n f).logged front ↔ s.logged front := by
  simp [State.logged]
@[simp] theorem modDest_logged (n d : Nat) (f : DestRecord → DestRecord) : (s.modDest n d f).logged front ↔ s.logged front :=
  modClip_logged _ _
@[simp] theorem modBinding_logged (c : ChannelId) (f : Binding → Binding) : (s.modBinding c f).logged front ↔ s.logged front := by
  unfold State.modBinding; split <;> rfl
@[simp] theorem modLane_logged (c : ChannelId) (d : Nat) (f : Lane → Lane) : (s.modLane c d f).logged front ↔ s.logged front :=
  modBinding_logged _ _
@[simp] theorem refreshEngine_logged : s.refreshEngine.logged front ↔ s.logged front := by
  unfold State.refreshEngine; dsimp only; split <;> rfl

@[simp] theorem makeAsk_logged (a : Ask) (h : s.logged front) : (s.makeAsk a).1.logged front := by
  unfold State.makeAsk
  split
  · exact h
  · dsimp only
    split <;> exact h

@[simp] theorem reply_logged (p : Port) (tag n : Nat) (c : ReplyCode) (r : List Byte) (h : s.logged front) :
    (s.reply p tag n c r).logged front := by
  unfold State.reply
  split <;> exact h

/-- A filing adds its entry at the tail, or none (R160). -/
@[simp] theorem file_logged (f : Filing) (h : s.logged front) : (s.file f).logged front := by
  rw [State.logged, State.file_log, FaultSpotter.filed]
  split
  · exact h.trans (List.prefix_append _ _)
  · exact h

/-- A fold of operations that keep a property of the state keeps it. -/
theorem foldl_logged {α : Type} (f : State → α → State) (hf : ∀ s x, s.logged front → (f s x).logged front) (l : List α)
    {s : State} (h : s.logged front) : (l.foldl f s).logged front := by
  induction l generalizing s with
  | nil => exact h
  | cons x xs ih => exact ih (hf s x h)

theorem repeat_logged (f : State → State) (hf : ∀ s, s.logged front → (f s).logged front) (n : Nat) {s : State}
    (h : s.logged front) : (Nat.repeat f n s).logged front := by
  induction n with
  | zero => exact h
  | succ n ih => exact hf _ ih

end

/-! ### The offload engine's log -/

section
variable {s : State} {front : List FaultEntry} (h : s.logged front)
include h

@[simp] theorem settleJob_logged (n : Nat) : (s.settleJob n).logged front := by simp [State.settleJob, h]

@[simp] theorem trySettleJob_logged (n : Nat) : (s.trySettleJob n).logged front := by
  unfold State.trySettleJob
  repeat' split
  all_goals simp [h]

@[simp] theorem settleRecord_logged (n : Nat) : (s.settleRecord n).logged front := by simp [State.settleRecord, h]

@[simp] theorem returnToJob_logged (n d : Nat) (e : EpName) : (s.returnToJob n d e).logged front := by
  unfold State.returnToJob
  repeat' split
  all_goals simp [h]

@[simp] theorem returnClip_logged (n : Nat) (e : EpName) : (s.returnClip n e).logged front := by
  unfold State.returnClip
  repeat' split
  all_goals simp [h]

@[simp] theorem releaseExtents_logged (c : ChannelId) : (s.releaseExtents c).logged front := by
  unfold State.releaseExtents
  split <;> simp [h]

@[simp] theorem takeNotes_logged (n : Nat) (l : List EpName) : (s.takeNotes n l).logged front :=
  foldl_logged _ (fun _ _ hs => returnClip_logged hs _ _) _ h

@[simp] theorem settleClip_logged (c : ChannelId) : (s.settleClip c).logged front := by
  unfold State.settleClip
  split
  · exact h
  · exact takeNotes_logged (trySettleJob_logged (settleRecord_logged (by simp [h]) _) _) _ _

@[simp] theorem checkSettle_logged (c : ChannelId) : (s.checkSettle c).logged front := by
  unfold State.checkSettle
  repeat' split
  all_goals simp [h]

@[simp] theorem unbind_logged (c : ChannelId) : (s.unbind c).logged front := by
  unfold State.unbind
  simp only []
  repeat' split
  all_goals simp [h]

@[simp] theorem suspendRecord_logged (n : Nat) (r : SuspendReason) :
    (s.suspendRecord n r).logged front := by simp [State.suspendRecord, h]

@[simp] theorem loseSource_logged (n : Nat) : (s.loseSource n).logged front := by
  unfold State.loseSource
  split
  · exact h
  · refine foldl_logged _ (fun s c hs => ?_) _ (suspendRecord_logged h _ _)
    split <;> simp [hs]

@[simp] theorem loseDataSource_logged (c : ChannelId) : (s.loseDataSource c).logged front := by
  unfold State.loseDataSource
  repeat' split
  all_goals simp [h]

@[simp] theorem endLane_logged (c : ChannelId) (d : Nat) : (s.endLane c d).logged front :=
  checkSettle_logged (releaseExtents_logged (by simp [h]) c) c

@[simp] theorem closeLane_logged (c : ChannelId) (d : Nat) (f : DestRecord → DestRecord) (x : Option Filing) :
    (s.closeLane c d f x).logged front := by
  unfold State.closeLane
  simp only []
  repeat' split
  all_goals simp [h]

@[simp] theorem countAttempt_logged (c : ChannelId) (d : Nat) (k : FaultKind) (b : Bool) (f : Lane → Lane) :
    (s.countAttempt c d k b f).logged front := by
  unfold State.countAttempt
  simp only []
  repeat' split
  all_goals simp [h]

@[simp] theorem loseLane_logged (c : ChannelId) (d : Nat) : (s.loseLane c d).logged front := by
  unfold State.loseLane
  repeat' split
  all_goals simp [h]

@[simp] theorem failBinding_logged (c : ChannelId) (k : FaultKind) (n : Nat) : (s.failBinding c k n).logged front := by
  unfold State.failBinding
  simp only []
  repeat' split
  all_goals simp [h]

@[simp] theorem failSource_logged (c : ChannelId) (n : Nat) : (s.failSource c n).logged front := by
  unfold State.failSource
  repeat' split
  all_goals simp [h]

@[simp] theorem identifyExhausted_logged (n : Nat) : (s.identifyExhausted n).logged front := by
  unfold State.identifyExhausted
  simp only []
  repeat' split
  all_goals simp [h]

@[simp] theorem identifyFailed_logged (n : Nat) : (s.identifyFailed n).logged front := by
  unfold State.identifyFailed
  simp only []
  repeat' split
  all_goals simp [h]

@[simp] theorem changeMedium_logged (e : EpName) (n : Nat) : (s.changeMedium e n).logged front := by
  unfold State.changeMedium
  repeat' split
  all_goals simp [h]

@[simp] theorem identifyAnswered_logged (n : Nat) (m : Word64) : (s.identifyAnswered n m).logged front := by
  have hfold (l : List Nat) (e : EpName) {t : State} (ht : t.logged front) :
      (l.foldl (fun s k => s.changeMedium e k) t).logged front := foldl_logged _ (fun _ _ hs => changeMedium_logged hs _ _) l ht
  unfold State.identifyAnswered
  simp only []
  repeat' split
  all_goals simp [h, hfold]

@[simp] theorem identifyEnd_logged (n : Nat) (r : AskEnd) : (s.identifyEnd n r).logged front := by
  unfold State.identifyEnd
  repeat' split
  all_goals simp [h]

@[simp] theorem sourceOpened_logged (c : ChannelId) (w : Word32) : (s.sourceOpened c w).logged front := by
  unfold State.sourceOpened
  simp only []
  repeat' split
  all_goals simp [h]

@[simp] theorem sizeMismatch_logged (c : ChannelId) (w : Word32) (n : Nat) :
    (s.sizeMismatch c w n).logged front := by simp [State.sizeMismatch, h]

@[simp] theorem openFailed_logged (c : ChannelId) : (s.openFailed c).logged front := by
  unfold State.openFailed
  simp only []
  repeat' split
  all_goals simp [h]

@[simp] theorem openEnd_logged (c : ChannelId) (r : AskEnd) : (s.openEnd c r).logged front := by
  unfold State.openEnd
  repeat' split
  all_goals simp [h]

@[simp] theorem readFailed_logged (c : ChannelId) (k : Nat) (n : Option Nat) : (s.readFailed c k n).logged front := by
  unfold State.readFailed
  simp only []
  repeat' split
  all_goals simp [h]

@[simp] theorem readSucceeded_logged (c : ChannelId) (k : Nat) (d : List Byte) : (s.readSucceeded c k d).logged front := by
  unfold State.readSucceeded
  simp only []
  repeat' split
  all_goals simp [h]

@[simp] theorem readEnd_logged (c : ChannelId) (d : List Byte) (r : AskEnd) : (s.readEnd c d r).logged front := by
  unfold State.readEnd
  repeat' split
  all_goals simp [h]

@[simp] theorem checkSucceeded_logged (c : ChannelId) (d : List Byte) :
    (s.checkSucceeded c d).logged front := by simp [State.checkSucceeded, h]

@[simp] theorem checkEnd_logged (c : ChannelId) (d : List Byte) (r : AskEnd) : (s.checkEnd c d r).logged front := by
  unfold State.checkEnd
  repeat' split
  all_goals simp [h]

@[simp] theorem channelClosed_logged (c : ChannelId) : (s.channelClosed c).logged front := by
  unfold State.channelClosed
  split <;> simp [h]

@[simp] theorem createEnd_logged (c : ChannelId) (d : Nat) (r : AskEnd) : (s.createEnd c d r).logged front := by
  unfold State.createEnd
  repeat' split
  all_goals simp [h]

@[simp] theorem writeEnd_logged (c : ChannelId) (d k : Nat) (r : AskEnd) : (s.writeEnd c d k r).logged front := by
  unfold State.writeEnd
  simp only []
  repeat' split
  all_goals simp [h]

@[simp] theorem takeUpFailure_logged (c : ChannelId) (d : Nat) : (s.takeUpFailure c d).logged front := by
  unfold State.takeUpFailure
  repeat' split
  all_goals simp [h]

@[simp] theorem verified_logged (c : ChannelId) (d n : Nat) : (s.verified c d n).logged front := by simp [State.verified, h]

@[simp] theorem verifyEnd_logged (c : ChannelId) (d k : Nat) (x : List Byte) (r : AskEnd) :
    (s.verifyEnd c d k x r).logged front := by
  unfold State.verifyEnd
  simp only []
  repeat' split
  all_goals simp [h]

@[simp] theorem laneCloseEnd_logged (c : ChannelId) (d : Nat) (r : AskEnd) : (s.laneCloseEnd c d r).logged front := by
  unfold State.laneCloseEnd
  repeat' split
  all_goals simp [h]

@[simp] theorem askEnded_logged (p : Purpose) (d : List Byte) (r : AskEnd) : (s.askEnded p d r).logged front := by
  unfold State.askEnded
  cases p <;> simp [h]

@[simp] theorem ask_logged (a : Ask) : (s.ask a).logged front := by
  unfold State.ask
  simp only []
  split <;> simp [h]

@[simp] theorem pumpOpen_logged (c : ChannelId) : (s.pumpOpen c).logged front := by
  unfold State.pumpOpen
  repeat' split
  all_goals simp [h]

@[simp] theorem raiseReadPos_logged (c : ChannelId) : (s.raiseReadPos c).logged front := by
  unfold State.raiseReadPos
  repeat' split
  all_goals simp [h]

@[simp] theorem pumpRead_logged (c : ChannelId) : (s.pumpRead c).logged front := by
  unfold State.pumpRead
  repeat' split
  all_goals simp [h]

@[simp] theorem pumpSource_logged (c : ChannelId) : (s.pumpSource c).logged front :=
  pumpRead_logged (raiseReadPos_logged (pumpOpen_logged h c) c) c

@[simp] theorem pumpCreate_logged (c : ChannelId) (d : Nat) : (s.pumpCreate c d).logged front := by
  unfold State.pumpCreate
  repeat' split
  all_goals simp [h]

@[simp] theorem pumpVerify_logged (c : ChannelId) (d : Nat) : (s.pumpVerify c d).logged front := by
  unfold State.pumpVerify
  repeat' split
  all_goals simp [h]

@[simp] theorem pumpWrite_logged (c : ChannelId) (d : Nat) : (s.pumpWrite c d).logged front := by
  unfold State.pumpWrite
  repeat' split
  all_goals simp [h]

@[simp] theorem checkWholeFile_logged (c : ChannelId) (d : Nat) : (s.checkWholeFile c d).logged front := by
  unfold State.checkWholeFile
  repeat' split
  all_goals simp [h]

@[simp] theorem pumpClose_logged (c : ChannelId) (d : Nat) : (s.pumpClose c d).logged front := by
  unfold State.pumpClose
  repeat' split
  all_goals simp [h]

@[simp] theorem pumpLane_logged (c : ChannelId) (d : Nat) : (s.pumpLane c d).logged front :=
  pumpClose_logged (pumpWrite_logged (pumpVerify_logged (pumpCreate_logged (checkWholeFile_logged h c d) c d) c d) c d) c d

@[simp] theorem pumpClosing_logged (c : ChannelId) : (s.pumpClosing c).logged front := by
  unfold State.pumpClosing
  repeat' split
  all_goals simp [h]

@[simp] theorem pumpChannel_logged (c : ChannelId) : (s.pumpChannel c).logged front := by
  unfold State.pumpChannel
  exact pumpClosing_logged (pumpSource_logged (foldl_logged _ (fun _ _ hs => pumpLane_logged hs _ _) _ (pumpSource_logged h _)) _) _

@[simp] theorem pumpIdentifyOnce_logged (n : Nat) : (State.pumpIdentifyOnce n s).logged front := by
  unfold State.pumpIdentifyOnce
  simp only []
  repeat' split
  all_goals simp [h]

@[simp] theorem pumpIdentify_logged (n : Nat) : (s.pumpIdentify n).logged front :=
  repeat_logged _ (fun _ hs => pumpIdentifyOnce_logged hs _) _ h

@[simp] theorem deferLane_logged (k : Option FaultKind) (x : Reached) : (s.deferLane k x).logged front := by
  unfold State.deferLane
  simp only []
  repeat' split
  all_goals simp [h]

@[simp] theorem settleUnbound_logged (l : List Nat) (n : Nat) : (s.settleUnbound l n).logged front := by
  unfold State.settleUnbound
  repeat' split
  all_goals simp [h]

@[simp] theorem deferRecords_logged (p : EpName → Bool) (k : Option FaultKind) : (s.deferRecords p k).logged front := by
  unfold State.deferRecords
  refine foldl_logged _ (fun s x hs => ?_) _ (foldl_logged _ (fun s x hs => deferLane_logged hs _ _) _
    (foldl_logged _ (fun s x hs => by simp [hs]) _ h))
  split <;> simp [hs]

@[simp] theorem answerDrain_logged (e : EpName) (r : DrainResult) (n : Nat) : (s.answerDrain e r n).logged front := by
  unfold State.answerDrain
  split
  · exact h
  · exact reply_logged _ _ _ _ _ (h)

/-- The engine's asks keep the log's front (R16). -/
@[simp] theorem engineSettle_logged : s.engineSettle.logged front := by
  have hidentify (l : List Nat) {t : State} (ht : t.logged front) : (l.foldl (fun s n => s.pumpIdentify n) t).logged front :=
    foldl_logged _ (fun _ _ hs => pumpIdentify_logged hs _) l ht
  have hchannels (l : List ChannelId) {t : State} (ht : t.logged front) : (l.foldl (fun s c => s.pumpChannel c) t).logged front :=
    foldl_logged _ (fun _ _ hs => pumpChannel_logged hs _) l ht
  have hstart : s.refreshEngine.logged front := refreshEngine_logged.mpr h
  simp only [State.engineSettle, refreshPool_logged, refreshEngine_logged]
  exact hchannels _ (hidentify _ hstart)

end


/-! ### The outgoing packets -/

section
variable {s : State} {front : List FaultEntry} (h : s.logged front)
include h

theorem outputGone_logged (st : StreamId) : (s.outputGone st).logged front := by
  have hrelease : (s.releaseInHand st).logged front := by
    unfold State.releaseInHand State.freeRaster
    dsimp only
    repeat' split
    all_goals exact h
  unfold State.outputGone State.handNext
  dsimp only
  repeat' split
  all_goals exact hrelease

end

end Sys2Proof.Machine
end

section
/-!
The loss of a port (R2, R12, R25, R58, R92, R93) and what it leaves of the part.
-/

namespace Sys2Proof.Machine

/-! ### The part that a loss leaves behind -/

/-- Each port's link state and roles, and the supply unit: what no response to a loss changes. -/
def State.footing (s : State) : Vector (LinkState × BitVec 5) 4 × SupplyUnit :=
  (s.link.ports.map fun x => (x.link, x.roles), s.supply)

theorem State.footing_port {s t : State} (h : s.footing = t.footing) (q : Port) :
    (s.port q).link = (t.port q).link ∧ (s.port q).roles = (t.port q).roles := by
  have hports : (s.footing.1)[q] = (t.footing.1)[q] := by rw [h]
  have hpair : ((s.port q).link, (s.port q).roles) = ((t.port q).link, (t.port q).roles) := by
    simpa [State.footing, State.port] using hports
  exact Prod.mk.inj hpair

theorem State.footing_of_fixed {s t : State} (h : s.fixed = t.fixed) : s.footing = t.footing := by
  have hports := congrArg (fun x : Fixed => x.ports.map fun y => (y.link, y.roles)) h
  have hsupply := congrArg Fixed.supply h
  have heq (u : State) : (u.fixed.ports.map fun y => (y.link, y.roles)) = u.link.ports.map fun x => (x.link, x.roles) := by
    show (u.link.ports.map PortState.fixed).map _ = _
    rw [Vector.map_map]
    rfl
  rw [heq, heq] at hports
  exact Prod.ext hports hsupply

theorem State.footing_modPort {s : State} {p : Port} {f : PortState → PortState}
    (hlink : (f (s.port p)).link = (s.port p).link) (hroles : (f (s.port p)).roles = (s.port p).roles) :
    (s.modPort p f).footing = s.footing := by
  refine Prod.ext ?_ rfl
  ext i hi : 1
  simp only [State.footing, State.modPort, Vector.getElem_map, Vector.getElem_set]
  split
  · next h =>
    subst h
    exact Prod.ext hlink hroles
  · rfl

theorem State.outputGone_footing (s : State) (st : StreamId) : (s.outputGone st).footing = s.footing := by
  have hrelease : (s.releaseInHand st).footing = s.footing := by
    unfold State.releaseInHand State.freeRaster
    dsimp only
    repeat' split
    all_goals first | rfl | exact State.footing_modPort rfl rfl
  unfold State.outputGone State.handNext
  dsimp only
  repeat' split
  all_goals first | exact hrelease | exact (State.footing_modPort rfl rfl).trans hrelease

theorem engineSettle_footing (s : State) : s.engineSettle.footing = s.footing := by
  have hfixed := engineSettle_fixed s
  have hports := congrArg (fun x : Fixed => x.ports.map fun y => (y.link, y.roles)) hfixed
  have hsupply := congrArg Fixed.supply hfixed
  have heq (u : State) : (u.fixed.ports.map fun y => (y.link, y.roles)) = u.link.ports.map fun x => (x.link, x.roles) := by
    show (u.link.ports.map PortState.fixed).map _ = _
    rw [Vector.map_map]
    rfl
  refine Prod.ext ?_ hsupply
  exact ((heq s.engineSettle).symm.trans hports).trans (heq s)

/-! ### A port leaves UP (R2) -/

/-- A port that left UP, before the response of the engine and the review unit (R2, R25). -/
def State.lostPort (s : State) (p : Port) (cause : LossCause) : State :=
  let t := s.file { kind := .linkDown, detail := p.val + 256 * cause.code }
  let t := (t.setEndpoints (t.link.endpoints.map (Endpoint.lose p))).modPort p (·.lose cause.next)
  { t with control := t.control.lose p (s.port p).owners }

/-- The DRAINING endpoints of a port. -/
def State.drainingOn (s : State) (p : Port) : List EpName :=
  (s.link.endpoints.filter fun e => e.name.port == p && e.state == .draining).map (·.name)

/-- The response of the engine and the review unit to a lost port (R58, R92, R93, R141; log entry 19). -/
def State.spreadLoss (s : State) (p : Port) (failing : List EndedAsk) (draining : List EpName) : State :=
  let s := s.loseDestinations p draining
  let s := (s.losingJobs p).foldl (fun s n => s.loseSource n) s
  let s := failing.foldl (fun s a => s.askEnded a.1 a.2 .lost) s
  let s := (s.outputsOn p).foldl (fun s st => s.outputGone st) s
  s.engineSettle

theorem State.leavePort_eq (s : State) (p : Port) (cause : LossCause) :
    s.leavePort p cause = (s.lostPort p cause).spreadLoss p (s.port p).failing (s.drainingOn p) := rfl

section
variable (s : State) (p : Port) (failing : List EndedAsk) (draining : List EpName)

theorem spreadLoss_footing : (s.spreadLoss p failing draining).footing = s.footing := by
  unfold State.spreadLoss
  dsimp only
  rw [engineSettle_footing, foldl_keeps State.footing _ (fun t st => t.outputGone_footing st),
    foldl_keeps State.footing _ (fun _ _ => State.footing_of_fixed (askEnded_fixed _ _ _ _)),
    foldl_keeps State.footing _ (fun _ _ => State.footing_of_fixed (loseSource_fixed _ _)), State.loseDestinations,
    foldl_keeps State.footing _ (fun _ _ => State.footing_of_fixed (answerDrain_fixed _ _ _ _)),
    State.footing_of_fixed (deferRecords_fixed _ _ _)]

theorem spreadLoss_logged {s : State} {front : List FaultEntry} (h : s.logged front) :
    (s.spreadLoss p failing draining).logged front := by
  refine engineSettle_logged (foldl_logged _ (fun _ _ hs => outputGone_logged hs _) _ ?_)
  refine foldl_logged _ (fun _ _ hs => askEnded_logged hs _ _ _) _ ?_
  refine foldl_logged _ (fun _ _ hs => loseSource_logged hs _) _ ?_
  exact foldl_logged _ (fun _ _ hs => answerDrain_logged hs _ _ _) _ (deferRecords_logged h _ _)

end

/-- What a loss does at once to the ports (R1, R2). -/
theorem State.lostPort_port (s : State) (p q : Port) (cause : LossCause) :
    (s.lostPort p cause).port q = if q = p then (s.port p).lose cause.next else s.port q := by
  have hfile : ((s.file { kind := .linkDown, detail := p.val + 256 * cause.code }).setEndpoints
      ((s.file { kind := .linkDown, detail := p.val + 256 * cause.code }).link.endpoints.map (Endpoint.lose p))).port q =
      s.port q := State.file_port _ _ q
  split
  · next h =>
    subst h
    exact (State.port_modPort _ q (·.lose cause.next)).trans (congrArg (·.lose cause.next) hfile)
  · next h => exact (State.port_modPort_ne _ (·.lose cause.next) (Ne.symm h)).trans hfile

theorem Endpoint.lose_eq (p : Port) (e : Endpoint) :
    e.lose p = { e with state :=
      if e.name.port = p ∧ (e.state = .online ∨ e.state = .draining) then .offline else e.state } := by
  by_cases h : e.name.port = p ∧ (e.state = .online ∨ e.state = .draining)
  · simp [Endpoint.lose, h]
  · rw [if_neg h, Endpoint.lose, if_neg]
    simpa using h

/-- A frame that is neither a packet frame nor a credit frame, or whose header cannot be read, is a header error (R4). -/
theorem State.receiveFrame_headerError {s : State} {p : Port} (hup : s.isUp p = true) {frame : List Byte}
    (h : (frame.head? ≠ some 1 ∧ frame.head? ≠ some 2) ∨
      (∃ (header rest : List Byte) (check : Byte), frame = header ++ check :: rest ∧ header.length = 10 ∧
        header.head? = some 1 ∧ (crc8 header ≠ check ∨ 262144 < beNat (header.drop 6)))) :
    s.receiveFrame p frame = s.leavePort p .headerError := by
  obtain ⟨h1, h2⟩ | ⟨header, rest, check, rfl, hlen, hhead, hbad⟩ := h
  · cases frame with
    | nil => exact State.receiveFrame_other hup (by decide) (by decide)
    | cons b bs =>
      refine State.receiveFrame_other hup (fun h => h1 ?_) (fun h => h2 ?_)
      · exact congrArg some (BitVec.eq_of_toNat_eq h)
      · exact congrArg some (BitVec.eq_of_toNat_eq h)
  · match header, hlen with
    | [t, k, e, x, t1, t0, l3, l2, l1, l0], _ =>
      obtain rfl : t = 1 := Option.some.inj hhead
      have hnone : parsePacket ([1, k, e, x, t1, t0, l3, l2, l1, l0] ++ check :: rest) = none := by
        have hif : ¬ (crc8 [1, k, e, x, t1, t0, l3, l2, l1, l0] = check ∧ beNat [l3, l2, l1, l0] ≤ 262144) := by
          rintro ⟨hcrc, hle⟩
          exact hbad.elim (absurd hcrc) fun hlt => absurd hle (Nat.not_le.mpr hlt)
        have hheader : parseHeader ([1, k, e, x, t1, t0, l3, l2, l1, l0] ++ check :: rest) = none := if_neg hif
        rw [parsePacket, hheader]
      rw [State.receiveFrame_packet hup rfl, hnone]
      rfl

theorem exec_linkDown_up {s : State} {p : Port} (hrun : s.running = true) (hup : (s.port p).link = .up) :
    exec (.linkDown p) s = .next (s.leavePort p .linkDown) := by
  rw [exec_whenRunning (c := .linkDown p) rfl hrun, hup]

/-- Settles O11: what stands after a loss, by what its response leaves alone. -/
theorem portLeavesUp : Obligations.PortLeavesUp := by
  intro s p hrun hidle hup leaves
  have hloss (c : Instr) (cause : LossCause) (hc : exec c s = .next (s.leavePort p cause)) :
      leaves c cause.next cause.code := by
    have hcalm := leavePort_calm s p cause
    have hfooting : (s.leavePort p cause).footing = (s.lostPort p cause).footing := by
      rw [State.leavePort_eq, spreadLoss_footing]
    have hquiet := leavePort_quiet hidle p cause
    have hfront : s.spotter.log.length < 128 → (s.leavePort p cause).logged (s.spotter.log ++
        [⟨.linkDown, s.supply.timeBase, none, none, none, none, none, BitVec.ofNat 32 (p.val + 256 * cause.code), false⟩]) := by
      intro hroom
      rw [State.leavePort_eq]
      refine spreadLoss_logged p (s.port p).failing (s.drainingOn p) ?_
      have hlog : (s.lostPort p cause).spotter.log = _ := State.file_log s _
      rw [FaultSpotter.filed_of_room hroom] at hlog
      rw [State.logged, hlog]
      exact List.prefix_refl _
    generalize s.leavePort p cause = t at hc hcalm hfooting hquiet hfront
    have hport (q : Port) := State.footing_port hfooting q
    have hlink : (t.port p).link = cause.next := by
      rw [(hport p).1, State.lostPort_port, if_pos rfl]
      rfl
    refine ⟨t, hc, hlink, ?_, fun q hq => ?_, fun q => ?_, fun q => ?_, ?_, ?_, ?_, ?_, fun hroom => ?_⟩
    · refine hquiet p ?_
      rw [hlink]
      cases cause <;> decide
    · rw [(hport q).1, State.lostPort_port, if_neg hq]
    · rw [(hport q).2, State.lostPort_port]
      split
      · next h =>
        subst h
        rfl
      · rfl
    · have hqueues : t.control.queues = s.control.queues.set p.val [] p.isLt := congrArg Calm.requests hcalm
      simp only [hqueues, Fin.getElem_fin, Vector.getElem_set, Fin.val_inj, eq_comm (a := p)]
    · exact (congrArg Calm.endpoints hcalm).trans (List.map_congr_left fun e _ => Endpoint.lose_eq p e)
    · exact congrArg Calm.defectMap hcalm
    · exact congrArg Calm.pending hcalm
    · exact (congrArg Prod.snd hfooting).trans (State.file_supply s _)
    · obtain ⟨rest, hrest⟩ := hfront hroom
      rw [← hrest, List.append_assoc, List.getElem?_append_right (Nat.le_refl _)]
      simp
  refine ⟨hloss _ .linkDown (exec_linkDown_up hrun hup), fun frame hframe => hloss _ .headerError ?_⟩
  rw [exec_whenRunning (c := .packetFrameReceived p frame) (f := fun t => t.receiveFrame p frame) rfl hrun,
    State.receiveFrame_headerError ((s.isUp_iff p).mpr hup) hframe]

end Sys2Proof.Machine
end

section
/-!
What the loss of a port spreads to (R24, R25, R29, R58, R92, R93, R174): the responses in their order, the answer of a drain,
and a job that loses its source.
-/

namespace Sys2Proof.Machine

/-! ### The answer of a drain (R24) -/

theorem State.answerDrain_of_none {s : State} {e : EpName} (h : ∀ y ∈ s.control.deferred, y.endpoint ≠ e) (r : DrainResult)
    (n : Nat) : s.answerDrain e r n = s := by
  have hfind : s.control.deferred.find? (fun x => x.endpoint == e) = none :=
    List.find?_eq_none.mpr fun y hy => by simpa using h y hy
  simp only [State.answerDrain, hfind]

/-- The first entry of the endpoint is answered (R24). -/
theorem State.answerDrain_of_first {s : State} {e : EpName} {before after : List Deferred} {x : Deferred}
    (hlist : s.control.deferred = before ++ x :: after) (hx : x.endpoint = e) (hbefore : ∀ y ∈ before, y.endpoint ≠ e)
    (r : DrainResult) (n : Nat) :
    s.answerDrain e r n =
      State.reply { s with control := { s.control with deferred := s.control.deferred.filter fun y => y ≠ x } }
        x.port x.tag x.number .done (byteOf (if r = .released then 0 else 1) :: beBytes 2 n) := by
  have hnone : before.find? (fun x => x.endpoint == e) = none :=
    List.find?_eq_none.mpr fun y hy => by simpa using hbefore y hy
  have hfind : s.control.deferred.find? (fun x => x.endpoint == e) = some x := by
    rw [hlist, List.find?_append, hnone]
    simp [hx]
  have hcode : r.code = if r = .released then 0 else 1 := by cases r <;> rfl
  have hfilter : (s.control.deferred.filter fun y => y != x) = s.control.deferred.filter fun y => y ≠ x :=
    List.filter_congr fun y _ => by rw [Bool.eq_iff_iff, bne_iff_ne, decide_eq_true_iff]
  simp only [State.answerDrain, hfind, hcode, hfilter]

/-! ### Unbinding a channel (R57, R88) -/

section
variable {s : State} {c : ChannelId} {b : Binding}

theorem State.unbind_of_none (h : s.binding? c = none) :
    s.unbind c = (s.withdrawAsks (Purpose.ofChannel c)).setChannel c .free := by
  simp only [State.unbind, h]

theorem State.unbind_of_bound (h : s.channel c = .bound b) :
    s.unbind c = (((s.withdrawAsks (Purpose.ofChannel c)).setChannel c .free).modClip b.clip (·.unbind)).takeNotes b.clip
      b.notes := by
  simp only [State.unbind, State.binding?_of_bound h]

/-- A channel without noted returns is unbound (R57). -/
theorem State.unbind_of_no_notes (h : s.channel c = .bound b) (hnotes : b.notes = []) :
    s.unbind c = ((s.withdrawAsks (Purpose.ofChannel c)).setChannel c .free).modClip b.clip (·.unbind) := by
  rw [State.unbind_of_bound h, hnotes]
  rfl

end

/-! ### A job that loses its source (R58) -/

/-- What the loss of a job's source does to one of its channels (R57, R58). -/
def State.loseChannel (source : EpName) (s : State) (c : ChannelId) : State :=
  match s.binding? c with
  | none => s.unbind c
  | some b => (s.file (copyFiling .endpointLost b.clip source 0)).unbind c

theorem State.loseSource_eq {s : State} {n : Nat} {j : JobRecord} (h : s.job? n = some j) :
    s.loseSource n = (s.channelsOf n).foldl (State.loseChannel j.source) (s.suspendRecord n .sourceUnavailable) := by
  simp only [State.loseSource, h]
  rfl

/-- A clip whose channel its job's source has been lost under: unbound, with one more copy fault (R57, R58). -/
def ClipRecord.lostSource (x : ClipRecord) : ClipRecord := (x.countFault .copy).unbind

section
variable {s : State} {source : EpName} {c : ChannelId}

/-- A state whose bindings have noted no return. -/
def State.noNotes (s : State) : Prop := ∀ (c : ChannelId) (b : Binding), s.channel c = .bound b → b.notes = []

/-- What the loss leaves of a channel, with no return noted (R57, R58). -/
theorem State.loseChannel_eq (h : s.noNotes) :
    s.loseChannel source c = match s.binding? c with
      | none => (s.withdrawAsks (Purpose.ofChannel c)).setChannel c .free
      | some b => (((s.file (copyFiling .endpointLost b.clip source 0)).withdrawAsks (Purpose.ofChannel c)).setChannel c
          .free).modClip b.clip (·.unbind) := by
  unfold State.loseChannel
  cases hb : s.binding? c with
  | none => exact State.unbind_of_none hb
  | some b =>
    have hbound : (s.file (copyFiling .endpointLost b.clip source 0)).channel c = .bound b := by
      simpa using State.binding?_eq_some.mp hb
    exact State.unbind_of_no_notes hbound (h c b (State.binding?_eq_some.mp hb))

theorem State.loseChannel_job? (h : s.noNotes) (m : Nat) : (s.loseChannel source c).job? m = s.job? m := by
  rw [State.loseChannel_eq h]
  split <;> simp

theorem State.loseChannel_now (h : s.noNotes) : (s.loseChannel source c).now = s.now := by
  rw [State.loseChannel_eq h]
  split <;> simp

theorem State.loseChannel_channel (h : s.noNotes) (d : ChannelId) :
    (s.loseChannel source c).channel d = if d = c then .free else s.channel d := by
  rw [State.loseChannel_eq h]
  split <;> simp [State.channel_setChannel_eq]

theorem State.loseChannel_noNotes (h : s.noNotes) : (s.loseChannel source c).noNotes := by
  intro d b hd
  rw [State.loseChannel_channel h] at hd
  split at hd
  · exact nomatch hd
  · exact h d b hd

/-- The log entry of a channel's loss (R58). -/
def State.lostEntry (s : State) (source : EpName) (c : ChannelId) : Option FaultEntry :=
  (s.binding? c).map fun b => ⟨.endpointLost, s.supply.timeBase, some b.clip, none, some source, none, none, 0, false⟩

theorem State.loseChannel_log (h : s.noNotes) (hroom : s.spotter.log.length < 128) :
    (s.loseChannel source c).spotter.log = s.spotter.log ++ (s.lostEntry source c).toList := by
  rw [State.loseChannel_eq h, State.lostEntry]
  cases s.binding? c with
  | none => simp
  | some b =>
    simp only [State.modClip_spotter, State.setChannel_spotter, State.withdrawAsks_spotter, State.file_log,
      FaultSpotter.filed_of_room hroom]
    rfl

theorem State.loseChannel_clip?_ne (h : s.noNotes) {k : Nat} (hk : ∀ b, s.channel c = .bound b → b.clip ≠ k) :
    (s.loseChannel source c).clip? k = s.clip? k := by
  rw [State.loseChannel_eq h]
  cases hb : s.binding? c with
  | none => simp
  | some b =>
    have hne := hk b (State.binding?_eq_some.mp hb)
    simp [State.clip?_modClip, State.file_clip?, copyFiling, hne]

theorem State.loseChannel_clip?_eq (h : s.noNotes) {b : Binding} (hb : s.channel c = .bound b) :
    (s.loseChannel source c).clip? b.clip = (s.clip? b.clip).map ClipRecord.lostSource := by
  rw [State.loseChannel_eq h, State.binding?_of_bound hb]
  simp [State.clip?_modClip, State.file_clip?, copyFiling, FaultKind.faultClass]
  rfl

theorem State.loseChannel_lostEntry_ne (h : s.noNotes) {d : ChannelId} (hd : d ≠ c) :
    (s.loseChannel source c).lostEntry source d = s.lostEntry source d := by
  have hchannel : (s.loseChannel source c).channel d = s.channel d := by rw [State.loseChannel_channel h, if_neg hd]
  have hnow : (s.loseChannel source c).supply.timeBase = s.supply.timeBase := State.loseChannel_now h
  simp only [State.lostEntry, State.binding?, hchannel, hnow]

end

/-! #### All channels of the job -/

section
variable {source : EpName}

theorem foldl_loseChannel_job? (l : List ChannelId) {s : State} (h : s.noNotes) (m : Nat) :
    (l.foldl (State.loseChannel source) s).job? m = s.job? m := by
  induction l generalizing s with
  | nil => rfl
  | cons c l ih => rw [List.foldl_cons, ih (State.loseChannel_noNotes h), State.loseChannel_job? h]

theorem foldl_loseChannel_channel (l : List ChannelId) {s : State} (h : s.noNotes) (d : ChannelId) :
    (l.foldl (State.loseChannel source) s).channel d = if d ∈ l then .free else s.channel d := by
  induction l generalizing s with
  | nil => simp
  | cons c l ih =>
    rw [List.foldl_cons, ih (State.loseChannel_noNotes h), State.loseChannel_channel h]
    by_cases hdc : d = c <;> by_cases hdl : d ∈ l <;> simp [hdc, hdl]

theorem foldl_loseChannel_log {l : List ChannelId} (hl : l.Nodup) {s : State} (h : s.noNotes)
    (hroom : s.spotter.log.length + l.length ≤ 128) :
    (l.foldl (State.loseChannel source) s).spotter.log = s.spotter.log ++ l.filterMap (s.lostEntry source) := by
  induction l generalizing s with
  | nil => simp
  | cons c l ih =>
    rw [List.length_cons] at hroom
    have hlog := State.loseChannel_log (source := source) (c := c) h (by omega)
    have hlen : (s.loseChannel source c).spotter.log.length + l.length ≤ 128 := by
      have : (s.lostEntry source c).toList.length ≤ 1 := by cases s.lostEntry source c <;> simp
      rw [hlog, List.length_append]
      omega
    have hrest : l.filterMap ((s.loseChannel source c).lostEntry source) = l.filterMap (s.lostEntry source) :=
      List.filterMap_congr fun d hd => State.loseChannel_lostEntry_ne h fun e => (List.nodup_cons.mp hl).1 (e ▸ hd)
    rw [List.foldl_cons, ih (List.nodup_cons.mp hl).2 (State.loseChannel_noNotes h) hlen, hlog, hrest, List.append_assoc]
    cases hc : s.lostEntry source c <;> simp [hc]

theorem foldl_loseChannel_clip?_ne (l : List ChannelId) {s : State} (h : s.noNotes) {k : Nat}
    (hk : ∀ c ∈ l, ∀ b, s.channel c = .bound b → b.clip ≠ k) : (l.foldl (State.loseChannel source) s).clip? k = s.clip? k := by
  induction l generalizing s with
  | nil => rfl
  | cons c l ih =>
    rw [List.foldl_cons, ih (State.loseChannel_noNotes h), State.loseChannel_clip?_ne h (hk c List.mem_cons_self)]
    intro d hd b hb
    rw [State.loseChannel_channel h] at hb
    split at hb
    · exact nomatch hb
    · exact hk d (List.mem_cons_of_mem _ hd) b hb

/-- The one channel of the list that is bound to a clip ends the clip's copying (R57, R58). -/
theorem foldl_loseChannel_clip?_eq {l : List ChannelId} (hl : l.Nodup) {s : State} (h : s.noNotes) {c : ChannelId} (hc : c ∈ l)
    {b : Binding} (hb : s.channel c = .bound b)
    (honly : ∀ (a : ChannelId) (y : Binding), s.channel a = .bound y → y.clip = b.clip → a = c) :
    (l.foldl (State.loseChannel source) s).clip? b.clip = (s.clip? b.clip).map ClipRecord.lostSource := by
  induction l generalizing s with
  | nil => exact absurd hc List.not_mem_nil
  | cons a l ih =>
    obtain ⟨hal, hnodup⟩ := List.nodup_cons.mp hl
    have hstill {d : ChannelId} {y : Binding} (hd : (s.loseChannel source a).channel d = .bound y) :
        d ≠ a ∧ s.channel d = .bound y := by
      rw [State.loseChannel_channel h] at hd
      split at hd
      · exact nomatch hd
      · next hne => exact ⟨hne, hd⟩
    rw [List.foldl_cons]
    by_cases hac : a = c
    · subst hac
      rw [foldl_loseChannel_clip?_ne l (State.loseChannel_noNotes h), State.loseChannel_clip?_eq h hb]
      intro d hd y hy hclip
      obtain ⟨hne, hbound⟩ := hstill hy
      exact hne (honly d y hbound hclip)
    · have hcl : c ∈ l := (List.mem_cons.mp hc).resolve_left (Ne.symm hac)
      have hbound : (s.loseChannel source a).channel c = .bound b := by
        rw [State.loseChannel_channel h, if_neg (Ne.symm hac), hb]
      rw [ih hnodup (State.loseChannel_noNotes h) hcl hbound fun d y hd hclip => honly d y (hstill hd).2 hclip,
        State.loseChannel_clip?_ne h]
      exact fun y hy hclip => hac (honly a y hy hclip)

end

section
variable {s : State} {n : Nat}

theorem State.suspendRecord_channel (r : SuspendReason) (c : ChannelId) : (s.suspendRecord n r).channel c = s.channel c := by
  simp [State.suspendRecord]

theorem State.suspendRecord_clip? (r : SuspendReason) (k : Nat) : (s.suspendRecord n r).clip? k = s.clip? k := by
  simp [State.suspendRecord]

theorem State.suspendRecord_job? (r : SuspendReason) (m : Nat) :
    (s.suspendRecord n r).job? m =
      if n = m then (s.job? m).map fun j => { j with state := .suspended, suspend := some r, standing := none } else s.job? m := by
  simp [State.suspendRecord, State.job?_modJob]

theorem State.suspendRecord_spotter (r : SuspendReason) : (s.suspendRecord n r).spotter = s.spotter := by
  simp [State.suspendRecord]

theorem State.suspendRecord_supply (r : SuspendReason) : (s.suspendRecord n r).supply = s.supply := by
  simp [State.suspendRecord]

end

theorem ClipRecord.lostSource_eq (x : ClipRecord) : x.lostSource = { x with
    copyState := .waiting
    dests := x.dests.map fun r =>
      if r.state = .inProgress then { r with state := .pending, attempts := 0, reason := none } else r
    copyFaults := min (x.copyFaults + 1) 65535
    qc := if x.qc = .clean then .flagged else x.qc } := rfl

/-! ### The responses to a loss, in their order -/

theorem exists_mem_flatten_iff {α : Type} {k : Nat} (v : Vector (List α) k) (f : α → Prop) :
    (∃ x ∈ v.toList.flatten, f x) ↔ ∃ i : Fin k, ∃ x ∈ v[i], f x := by
  constructor
  · rintro ⟨x, hx, hf⟩
    obtain ⟨l, hl, hxl⟩ := List.mem_flatten.mp hx
    obtain ⟨i, hi, rfl⟩ := Vector.mem_iff_getElem.mp (Vector.mem_toList_iff.mp hl)
    exact ⟨⟨i, hi⟩, x, hxl, hf⟩
  · rintro ⟨i, x, hx, hf⟩
    exact ⟨x, List.mem_flatten.mpr ⟨_, Vector.mem_toList_iff.mpr (Vector.getElem_mem i.isLt), hx⟩, hf⟩

/-- The owners of a port's packets (R2). -/
theorem PortState.owners_contains (x : PortState) (o : Owner) :
    x.owners.contains o = true ↔
      (∃ k : Fin 4, ∃ q ∈ x.queues[k], q.owner = o) ∨ ∃ q, x.transmitting = some (.packet q) ∧ q.owner = o := by
  rw [List.contains_iff_mem, PortState.owners, List.mem_append, List.mem_map, exists_mem_flatten_iff]
  refine or_congr Iff.rfl ?_
  cases x.transmitting with
  | none => simp
  | some f => cases f <;> simp [eq_comm]

theorem State.losingJobs_eq (s : State) (p : Port) :
    s.losingJobs p = (List.range 16).filter fun n => (s.job? n).any fun j =>
      j.state == .active && j.standing == some .confirmed && j.source.port == p := by
  rw [State.losingJobs, State.activeJobs, List.filter_filter]
  refine List.filter_congr fun n _ => ?_
  cases s.job? n with
  | none => rfl
  | some j =>
    simp only [Option.any_some]
    rw [Bool.and_comm, Bool.and_assoc]

/-- Settles O12. -/
theorem lossSpreads : Obligations.LossSpreads := by
  refine ⟨fun s p hrun hup => ⟨exec_linkDown_up hrun hup, fun frame hframe => ?_⟩, fun s p cause => ?_,
    fun s e r n => ⟨fun h => State.answerDrain_of_none h r n, fun before x after hlist hx hbefore =>
      State.answerDrain_of_first hlist hx hbefore r n⟩, fun s n j hj hnotes => ?_⟩
  · rw [exec_whenRunning (c := .packetFrameReceived p frame) (f := fun t => t.receiveFrame p frame) rfl hrun,
      State.receiveFrame_headerError ((s.isUp_iff p).mpr hup) hframe]
  · intro x dropped failing draining jobs
    have hplain : s.file { kind := .linkDown, detail := p.val + 256 * cause.code } = _ := s.file_plain rfl rfl
    have hport (q : Port) := s.lostPort_port p q cause
    have hself : (s.lostPort p cause).port p = x.lose cause.next := by rw [hport, if_pos rfl]
    have hnext : cause.next = if cause = .linkDown then .down else .training := by cases cause <;> rfl
    have howners (o : Owner) : x.owners.contains o = true ↔ dropped o := x.owners_contains o
    have hcontrol : (s.lostPort p cause).control = s.control.lose p x.owners := by
      show (s.file _).control.lose p x.owners = _
      rw [State.file_control]
    refine ⟨s.lostPort p cause, ?_, ⟨?_, ?_, ?_, fun q hq => ?_⟩, ?_, ?_, ?_⟩
    · refine ⟨?_, s.file_offload _, s.file_review_of_none _ rfl, s.file_look _, s.file_supply _, s.file_pending _, rfl⟩
      show (s.file _).table = s.table
      rw [hplain]
    · rw [hself]
      exact PortState.lose_idle _ _
    · rw [hself, ← hnext]
      rfl
    · rw [hself]
      rfl
    · rw [hport, if_neg hq]
    · show (s.file _).link.endpoints.map (Endpoint.lose p) = _
      rw [State.file_link]
      exact List.map_congr_left fun e _ => Endpoint.lose_eq p e
    · rw [hcontrol]
      refine ⟨?_, rfl, fun h => if_pos ((howners _).mpr h), fun h => if_neg (mt (howners _).mp h),
        fun h => if_pos ((howners _).mpr h), fun h => if_neg (mt (howners _).mp h), rfl, rfl⟩
      exact List.filter_congr fun y _ => by rw [Bool.eq_iff_iff, bne_iff_ne, decide_eq_true_iff]
    · have hjobs (t : State) : t.losingJobs p = jobs t := t.losingJobs_eq p
      rw [State.leavePort_eq, State.spreadLoss]
      simp only [hjobs]
      rfl
  · intro t
    have hrecord : (s.suspendRecord n .sourceUnavailable).noNotes := fun c b hb =>
      hnotes c b ((s.suspendRecord_channel _ c).symm.trans hb)
    have ht : t = (s.channelsOf n).foldl (State.loseChannel j.source) (s.suspendRecord n .sourceUnavailable) :=
      State.loseSource_eq hj
    refine ⟨?_, fun m hm => ?_, fun c => ?_, fun hroom => ?_, fun c b x hc hbn hx honly => ?_, fun k hk => ?_⟩
    · rw [ht, foldl_loseChannel_job? _ hrecord, State.suspendRecord_job?, if_pos rfl, hj]
      rfl
    · rw [ht, foldl_loseChannel_job? _ hrecord, State.suspendRecord_job?, if_neg (Ne.symm hm)]
    · rw [ht, foldl_loseChannel_channel _ hrecord, State.suspendRecord_channel]
      simp only [State.mem_channelsOf]
    · have hlength : (s.channelsOf n).length ≤ 8 := List.length_filter_le _ _
      rw [ht, foldl_loseChannel_log (s.channelsOf_nodup n) hrecord (by rw [State.suspendRecord_spotter]; omega),
        State.suspendRecord_spotter]
      congr 1
      refine List.filterMap_congr fun c _ => ?_
      simp only [State.lostEntry, State.binding?, State.suspendRecord_channel, State.suspendRecord_supply]
    · have hmem : c ∈ s.channelsOf n := (s.mem_channelsOf n).mpr (by rw [hc, ← hbn]; rfl)
      have hc' : (s.suspendRecord n .sourceUnavailable).channel c = .bound b := (s.suspendRecord_channel _ c).trans hc
      rw [ht, foldl_loseChannel_clip?_eq (s.channelsOf_nodup n) hrecord hmem hc', State.suspendRecord_clip?, hx,
        Option.map_some, ClipRecord.lostSource_eq]
      exact fun a y hy hclip => honly a y ((s.suspendRecord_channel _ a).symm.trans hy) hclip
    · rw [ht, foldl_loseChannel_clip?_ne _ hrecord, State.suspendRecord_clip?]
      intro c hc b hb
      rw [State.suspendRecord_channel] at hb
      refine hk c b hb ?_
      have := (s.mem_channelsOf n).mp hc
      rw [hb] at this
      exact Option.some.inj this

end Sys2Proof.Machine
end

section
/-!
Jobs cancelled, paused and suspended by the operator (R57, R60, R64, R65), with what the withdrawal of asks leaves (R19).
-/

namespace Sys2Proof.Machine

/-! ### Asks withdrawn (R19) -/

theorem State.port_withdrawAsks (s : State) (p : Purpose → Bool) (q : Port) :
    (s.withdrawAsks p).port q = (s.port q).withdraw fun a => p a.purpose := by
  simp [State.port, State.withdrawAsks]

theorem AskEntry.withdraw_live (p : Ask → Bool) (e : AskEntry) :
    (e.withdraw p).live = e.live.bind fun l => if p l.ask then none else some l := by
  obtain ⟨g, live⟩ := e
  cases live with
  | none => rfl
  | some l => by_cases hp : p l.ask = true <;> simp [AskEntry.withdraw, hp]

/-- The asks left after a withdrawal are those that did not meet its condition (R19). -/
theorem PortState.mem_allAsks_withdraw (x : PortState) (p : Ask → Bool) (a : Ask) :
    a ∈ (x.withdraw p).allAsks ↔ a ∈ x.allAsks ∧ p a = false := by
  have hheld : (∃ e ∈ x.asks.toList.map (AskEntry.withdraw p), e.live.map (·.ask) = some a) ↔
      (∃ e ∈ x.asks.toList, e.live.map (·.ask) = some a) ∧ p a = false := by
    simp only [List.mem_map, exists_exists_and_eq_and, AskEntry.withdraw_live, Option.map_eq_some_iff, Option.bind_eq_some_iff]
    constructor
    · rintro ⟨e, he, l, ⟨m, hm, hl⟩, rfl⟩
      split at hl
      · exact nomatch hl
      · next hp =>
        obtain rfl := Option.some.inj hl
        exact ⟨⟨e, he, m, hm, rfl⟩, Bool.eq_false_iff.mpr hp⟩
    · rintro ⟨⟨e, he, l, hl, rfl⟩, hp⟩
      exact ⟨e, he, l, ⟨l, hl, by simp [hp]⟩, rfl⟩
  simp only [PortState.allAsks, List.mem_append, List.mem_filterMap, PortState.withdraw, Vector.toList_map, hheld,
    List.mem_filter, Bool.not_eq_true']
  exact or_and_right.symm

/-! ### Returns and channels (R88, R95) -/

section
variable (s : State) (n d : Nat) (e : EpName) (c : ChannelId)

theorem State.returnToJob_channel : (s.returnToJob n d e).channel c = s.channel c := by
  unfold State.returnToJob
  repeat' split
  all_goals simp [State.modDest]

theorem State.returnClip_channel : (s.returnClip n e).channel c = s.channel c := by
  unfold State.returnClip
  repeat' split
  all_goals simp [State.returnToJob_channel]

theorem State.takeNotes_channel (notes : List EpName) : (s.takeNotes n notes).channel c = s.channel c :=
  foldl_keeps (fun t => t.channel c) _ (fun t e => t.returnClip_channel n e c) notes s

/-- A return leaves a SUSPENDED job as it is (R95). -/
theorem State.returnToJob_suspended {m : Nat} {j : JobRecord} (hj : s.job? m = some j) (hsus : j.state = .suspended) :
    (s.returnToJob n d e).job? m = some j := by
  unfold State.returnToJob
  split
  · exact hj
  · next x _ =>
    split
    · exact hj
    · next y hy =>
      by_cases hm : x.job = m
      · have hyj : y = j := Option.some.inj (hy.symm.trans (hm ▸ hj))
        rw [hyj, hsus]
        exact hj
      · repeat' split
        all_goals simp [State.job?_modJob, State.modDest, hm, hj]

theorem State.returnClip_suspended {m : Nat} {j : JobRecord} (hj : s.job? m = some j) (hsus : j.state = .suspended) :
    (s.returnClip n e).job? m = some j := by
  unfold State.returnClip
  repeat' split
  all_goals first | exact hj | exact State.returnToJob_suspended _ _ _ _ hj hsus

end

theorem State.takeNotes_suspended (n : Nat) (notes : List EpName) {s : State} {m : Nat} {j : JobRecord} (hj : s.job? m = some j)
    (hsus : j.state = .suspended) : (s.takeNotes n notes).job? m = some j := by
  induction notes generalizing s with
  | nil => exact hj
  | cons e notes ih => exact ih (State.returnClip_suspended s n e hj hsus)

/-! ### The suspension of a job (R57, R64) -/

theorem State.unbind_channel (s : State) (c d : ChannelId) :
    (s.unbind c).channel d = if d = c then .free else s.channel d := by
  cases hb : s.binding? c with
  | none =>
    rw [State.unbind_of_none hb, State.channel_setChannel_eq]
    rfl
  | some b =>
    rw [State.unbind_of_bound (State.binding?_eq_some.mp hb), State.takeNotes_channel, State.modClip_channel,
      State.channel_setChannel_eq]
    rfl

theorem State.unbind_suspended {s : State} {m : Nat} {j : JobRecord} (hj : s.job? m = some j) (hsus : j.state = .suspended)
    (c : ChannelId) : (s.unbind c).job? m = some j := by
  cases hb : s.binding? c with
  | none =>
    rw [State.unbind_of_none hb]
    exact hj
  | some b =>
    rw [State.unbind_of_bound (State.binding?_eq_some.mp hb)]
    exact State.takeNotes_suspended _ _ (by simpa using hj) hsus

theorem foldl_unbind_channel (l : List ChannelId) (s : State) (d : ChannelId) :
    (l.foldl (fun s c => s.unbind c) s).channel d = if d ∈ l then .free else s.channel d := by
  induction l generalizing s with
  | nil => simp
  | cons c l ih =>
    rw [List.foldl_cons, ih, State.unbind_channel]
    by_cases hdc : d = c <;> by_cases hdl : d ∈ l <;> simp [hdc, hdl]

theorem foldl_unbind_suspended (l : List ChannelId) {s : State} {m : Nat} {j : JobRecord} (hj : s.job? m = some j)
    (hsus : j.state = .suspended) : (l.foldl (fun s c => s.unbind c) s).job? m = some j := by
  induction l generalizing s with
  | nil => exact hj
  | cons c l ih => exact ih (State.unbind_suspended hj hsus c)

/-! ### The cancellation of a job (R60) -/

/-- What a cancellation makes of a clip record (R60). -/
theorem ClipRecord.cancel_eq (x : ClipRecord) : x.cancel = { x with
    dests := x.dests.map fun d =>
      if d.state = .inProgress then { d with state := .pending, attempts := 0, reason := none } else d
    copyState :=
      if ∀ d ∈ x.dests, d.state = .verified then .complete
      else if ∃ d ∈ x.dests, d.state = .verified then .partialCopy
      else if x.copyState = .failed then .failed
      else .cancelled } := by
  have hverified (d : DestRecord) : ((if d.state = .inProgress then d.pend else d).state == .verified) = (d.state == .verified) := by
    split
    · next h => simp [DestRecord.pend, h]
    · rfl
  have hall : (x.mapIn .inProgress DestRecord.pend).allVerified = x.dests.all fun d => d.state == .verified := by
    simp only [ClipRecord.allVerified, ClipRecord.mapIn, List.all_map]
    exact congrArg (x.dests.all ·) (funext hverified)
  have hany : (x.mapIn .inProgress DestRecord.pend).anyIn .verified = x.dests.any fun d => d.state == .verified := by
    simp only [ClipRecord.anyIn, ClipRecord.mapIn, List.any_map]
    exact congrArg (x.dests.any ·) (funext hverified)
  unfold ClipRecord.cancel
  simp only [hall, hany, List.all_eq_true, List.any_eq_true, beq_iff_eq]
  rfl

theorem ClipRecord.cancel_cancel (x : ClipRecord) : x.cancel.cancel = x.cancel := by
  let pended (d : DestRecord) : DestRecord :=
    if d.state = .inProgress then { d with state := .pending, attempts := 0, reason := none } else d
  have hdests : x.cancel.dests = x.dests.map pended := by rw [ClipRecord.cancel_eq]
  have hpended (d : DestRecord) : pended (pended d) = pended d := by
    by_cases h : d.state = .inProgress <;> simp [pended, h]
  have hverified (d : DestRecord) : (pended d).state = .verified ↔ d.state = .verified := by
    by_cases h : d.state = .inProgress <;> simp [pended, h]
  have hagain : x.cancel.dests.map pended = x.cancel.dests := by
    rw [hdests, List.map_map]
    exact List.map_congr_left fun d _ => hpended d
  have hall : (∀ d ∈ x.cancel.dests, d.state = .verified) ↔ ∀ d ∈ x.dests, d.state = .verified := by
    simp only [hdests, List.forall_mem_map, hverified]
  have hany : (∃ d ∈ x.cancel.dests, d.state = .verified) ↔ ∃ d ∈ x.dests, d.state = .verified := by
    simp only [hdests, List.mem_map, exists_exists_and_eq_and, hverified]
  have hcopy : x.cancel.copyState =
      if ∀ d ∈ x.dests, d.state = .verified then .complete
      else if ∃ d ∈ x.dests, d.state = .verified then .partialCopy
      else if x.copyState = .failed then .failed
      else .cancelled := by rw [ClipRecord.cancel_eq]
  have hsame : (if ∀ d ∈ x.cancel.dests, d.state = .verified then CopyState.complete
      else if ∃ d ∈ x.cancel.dests, d.state = .verified then .partialCopy
      else if x.cancel.copyState = .failed then .failed
      else .cancelled) = x.cancel.copyState := by
    simp only [hall, hany]
    split
    · next h => rw [hcopy, if_pos h]
    · next h =>
      split
      · next h' => rw [hcopy, if_neg h, if_pos h']
      · next h' =>
        rw [hcopy, if_neg h, if_neg h']
        by_cases hf : x.copyState = .failed <;> simp [hf]
  rw [ClipRecord.cancel_eq x.cancel, hsame]
  exact congrArg (fun l => { x.cancel with dests := l }) hagain

/-- The clips of a cancelled job (R60). -/
theorem foldl_cancel_clip? (l : List Nat) (s : State) (k : Nat) :
    (l.foldl (fun s k => s.modClip k (·.cancel)) s).clip? k =
      if k ∈ l then (s.clip? k).map (·.cancel) else s.clip? k := by
  induction l generalizing s with
  | nil => simp
  | cons n l ih =>
    rw [List.foldl_cons, ih, State.clip?_modClip]
    by_cases hn : n = k
    · subst hn
      by_cases hl : n ∈ l <;> simp [hl, Function.comp_def, ClipRecord.cancel_cancel]
    · by_cases hl : k ∈ l <;> simp [hl, hn, Ne.symm hn]

/-- The channels of a job dropped: FREE, their asks withdrawn (R60). -/
theorem foldl_dropChannel_channel (l : List ChannelId) (s : State) (d : ChannelId) :
    (l.foldl (fun s c => s.dropChannel c) s).channel d = if d ∈ l then .free else s.channel d := by
  induction l generalizing s with
  | nil => simp
  | cons c l ih =>
    rw [List.foldl_cons, ih, State.dropChannel, State.channel_setChannel_eq, State.withdrawAsks_channel]
    by_cases hdc : d = c <;> by_cases hdl : d ∈ l <;> simp [hdc, hdl]

theorem foldl_dropChannel_clip? (l : List ChannelId) (s : State) (k : Nat) :
    (l.foldl (fun s c => s.dropChannel c) s).clip? k = s.clip? k :=
  foldl_keeps (fun t => t.clip? k) (fun s c => s.dropChannel c) (fun _ _ => rfl) l s

theorem foldl_dropChannel_asks (l : List ChannelId) (s : State) (q : Port) (a : Ask) :
    a ∈ ((l.foldl (fun s c => s.dropChannel c) s).port q).allAsks ↔
      a ∈ (s.port q).allAsks ∧ ∀ c ∈ l, a.purpose.channel ≠ some c := by
  induction l generalizing s with
  | nil => simp
  | cons c l ih =>
    have hdrop : a ∈ ((s.dropChannel c).port q).allAsks ↔ a ∈ (s.port q).allAsks ∧ a.purpose.channel ≠ some c := by
      have hport : (s.dropChannel c).port q = (s.withdrawAsks (Purpose.ofChannel c)).port q := rfl
      rw [hport, State.port_withdrawAsks, PortState.mem_allAsks_withdraw]
      simp [Purpose.ofChannel]
    rw [List.foldl_cons, ih, hdrop, List.forall_mem_cons, and_assoc]

/-- What a cancellation leaves alone: the jobs, and the tables and units that it does not speak of (R60). -/
structure State.CancelFrame (s t : State) : Prop where
  jobs : t.table.jobs = s.table.jobs
  admission : t.table.admission = s.table.admission
  spotter : t.spotter = s.spotter
  look : t.look = s.look
  review : t.review = s.review
  supply : t.supply = s.supply
  endpoints : t.link.endpoints = s.link.endpoints
  control : t.control = s.control

theorem foldl_dropChannel_frame (l : List ChannelId) (s : State) : s.CancelFrame (l.foldl (fun s c => s.dropChannel c) s) := by
  induction l generalizing s with
  | nil => exact ⟨rfl, rfl, rfl, rfl, rfl, rfl, rfl, rfl⟩
  | cons c l ih =>
    obtain ⟨h1, h2, h3, h4, h5, h6, h7, h8⟩ := ih (s.dropChannel c)
    exact ⟨h1, h2, h3, h4, h5, h6, h7, h8⟩

theorem foldl_cancel_frame (l : List Nat) (s : State) :
    s.CancelFrame (l.foldl (fun s k => s.modClip k (·.cancel)) s) := by
  induction l generalizing s with
  | nil => exact ⟨rfl, rfl, rfl, rfl, rfl, rfl, rfl, rfl⟩
  | cons n l ih =>
    obtain ⟨h1, h2, h3, h4, h5, h6, h7, h8⟩ := ih (s.modClip n (·.cancel))
    exact ⟨by simpa using h1, by simpa using h2, by simpa using h3, by simpa using h4, by simpa using h5,
      by simpa using h6, by simpa using h7, by simpa using h8⟩

theorem foldl_cancel_channel (l : List Nat) (s : State) (c : ChannelId) :
    (l.foldl (fun s k => s.modClip k (·.cancel)) s).channel c = s.channel c :=
  foldl_keeps (fun t => t.channel c) _ (fun t k => t.modClip_channel c k _) l s

theorem foldl_cancel_port (l : List Nat) (s : State) (q : Port) :
    (l.foldl (fun s k => s.modClip k (·.cancel)) s).port q = s.port q :=
  foldl_keeps (fun t => t.port q) _ (fun t k => by simp [State.port]) l s

section
variable {s : State} {n : Nat} {j : JobRecord}

/-- The state after a job's record is CANCELLED and its IDENTIFY withdrawn (R60). -/
def State.cancelRecord (s : State) (n : Nat) : State :=
  ((s.modJob n fun j => { j with state := .cancelled, suspend := none, standing := none, reseed := false }).withdrawAsks
    (Purpose.ofIdentify n)).setIdentify n ⟨0, false⟩

theorem State.cancelJob_eq (s : State) (n : Nat) (j : JobRecord) :
    s.cancelJob n j = j.clips.foldl (fun s k => s.modClip k (·.cancel))
      ((s.channelsOf n).foldl (fun s c => s.dropChannel c) (s.cancelRecord n)) := rfl

theorem State.cancelJob_job? (hj : s.job? n = some j) (m : Nat) :
    (s.cancelJob n j).job? m =
      if m = n then some { j with state := .cancelled, suspend := none, standing := none, reseed := false }
      else s.job? m := by
  have hjobs : (s.cancelJob n j).table.jobs = (s.cancelRecord n).table.jobs := by
    rw [State.cancelJob_eq, (foldl_cancel_frame _ _).jobs, (foldl_dropChannel_frame _ _).jobs]
  have hm : (s.cancelJob n j).job? m = (s.cancelRecord n).job? m := by simp only [State.job?, hjobs]
  rw [hm, State.cancelRecord, State.setIdentify_job?, State.withdrawAsks_job?, State.job?_modJob]
  by_cases h : n = m
  · subst h
    simp [hj]
  · rw [if_neg h, if_neg (Ne.symm h)]

theorem State.cancelJob_clip? (k : Nat) :
    (s.cancelJob n j).clip? k = if k ∈ j.clips then (s.clip? k).map (·.cancel) else s.clip? k := by
  have hrecord : (s.cancelRecord n).clip? k = s.clip? k := by simp [State.cancelRecord]
  rw [State.cancelJob_eq, foldl_cancel_clip?, foldl_dropChannel_clip?, hrecord]

theorem State.cancelJob_channel (c : ChannelId) :
    (s.cancelJob n j).channel c = if (s.channel c).job? = some n then .free else s.channel c := by
  rw [State.cancelJob_eq, foldl_cancel_channel, foldl_dropChannel_channel]
  simp [State.mem_channelsOf, State.cancelRecord]

/-- No ask of a cancelled job is left (R60). -/
theorem State.cancelJob_asks {q : Port} {a : Ask} (h : a ∈ ((s.cancelJob n j).port q).allAsks) :
    a.purpose ≠ .identify n ∧ ∀ c : ChannelId, a.purpose.channel = some c → (s.channel c).job? ≠ some n := by
  rw [State.cancelJob_eq, foldl_cancel_port, foldl_dropChannel_asks] at h
  obtain ⟨hmem, hchannels⟩ := h
  have hport : (s.cancelRecord n).port q = ((s.modJob n _).withdrawAsks (Purpose.ofIdentify n)).port q := rfl
  rw [hport, State.port_withdrawAsks, PortState.mem_allAsks_withdraw] at hmem
  refine ⟨fun hpurpose => ?_, fun c hc hjob => hchannels c ((s.mem_channelsOf n).mpr hjob) hc⟩
  rw [hpurpose] at hmem
  simp [Purpose.ofIdentify] at hmem

theorem State.cancelJob_frame :
    (s.cancelJob n j).table.admission = s.table.admission ∧ (s.cancelJob n j).spotter = s.spotter ∧
      (s.cancelJob n j).look = s.look ∧ (s.cancelJob n j).review = s.review ∧ (s.cancelJob n j).supply = s.supply ∧
      (s.cancelJob n j).link.endpoints = s.link.endpoints ∧ (s.cancelJob n j).control = s.control := by
  obtain ⟨_, ha, hs, hl, hr, hp, he, hc⟩ := foldl_cancel_frame j.clips
    ((s.channelsOf n).foldl (fun s c => s.dropChannel c) (s.cancelRecord n))
  obtain ⟨_, ha', hs', hl', hr', hp', he', hc'⟩ := foldl_dropChannel_frame (s.channelsOf n) (s.cancelRecord n)
  refine ⟨ha.trans (ha'.trans ?_), hs.trans (hs'.trans ?_), hl.trans (hl'.trans ?_), hr.trans (hr'.trans ?_),
    hp.trans (hp'.trans ?_), he.trans (he'.trans ?_), hc.trans (hc'.trans ?_)⟩
  all_goals simp [State.cancelRecord]

theorem State.suspendJob_job? (hj : s.job? n = some j) :
    (s.suspendJob n).job? n = some { j with state := .suspended, suspend := some .operator, standing := none } :=
  foldl_unbind_suspended _ (by rw [State.suspendRecord_job?, if_pos rfl, hj]; rfl) rfl

theorem State.suspendJob_channel {c : ChannelId} (hc : (s.channel c).job? = some n) : (s.suspendJob n).channel c = .free := by
  rw [State.suspendJob, foldl_unbind_channel, if_pos ((s.mem_channelsOf n).mpr hc)]

end

theorem JobState.suspendable_iff (x : JobState) :
    x.suspendable = true ↔ x = .queued ∨ x = .identifying ∨ x = .active := by
  cases x <;> simp [JobState.suspendable]

/-- Settles O25. -/
theorem jobCancelAndPause : Obligations.JobCancelAndPause := by
  refine ⟨fun s p r h hn => ?_, fun s p r h => ?_⟩
  · intro u
    rw [exec_serve_taking (rule := State.jobCancel) rfl h hn]
    refine ⟨fun a hargs => ?_, fun hargs => ?_⟩
    · rw [hargs, State.jobCancel, parseOne, withArgs_some]
      refine ⟨fun ha => ?_, fun ha hfree => ?_, fun j hj => ?_⟩
      · rw [State.onJob_of_gt _ ha]
        rfl
      · rw [State.onJob_of_free (s.takeRequest p) (Nat.not_lt.mpr ha) hfree]
        rfl
      · have ha : ¬ 15 < a.toNat := by have := State.job?_lt hj; omega
        have hj' : u.job? a.toNat = some j := hj
        rw [State.onJob_of_some u ha hj']
        refine ⟨fun hfinished => ?_, fun hbusy => ⟨u.cancelJob a.toNat j, ?_, fun m => State.cancelJob_job? hj' m,
          fun k c hc hk => ?_, fun k c hc hk => ?_, fun c => State.cancelJob_channel c, fun q x hx => State.cancelJob_asks (s := u) hx,
          State.cancelJob_frame⟩⟩
        · rw [if_pos ((JobState.finished_iff _).mpr hfinished)]
          rfl
        · rw [if_neg (mt (JobState.finished_iff _).mp hbusy)]
          rfl
        · rw [State.cancelJob_clip?, if_neg hk]
          exact hc
        · rw [State.cancelJob_clip?, if_pos hk]
          exact (congrArg (Option.map _) hc).trans (congrArg some c.cancel_eq)
    · rw [State.jobCancel, parseOne_eq_none hargs]
      rfl
  · intro u reasons on off
    have hon : (s.takeRequest p).setOperator true = on := rfl
    have hoff : (s.takeRequest p).setOperator false = off := rfl
    have hbytes (t : State) : t.engineBytes = reasons t := rfl
    refine ⟨fun hn => ?_, fun hn => ?_, fun n j hj => ⟨State.suspendJob_job? hj, fun c hc => State.suspendJob_channel hc⟩⟩
    · rw [exec_serve_taking (rule := State.offloadPause) rfl h hn]
      refine congrArg Host.Outcome.next ?_
      split
      case h_1 a hargs =>
        rw [hargs, State.offloadPause, parseOne, withArgs_some]
        by_cases ha : a = 255
        · have h255 : a.toNat = 255 := by rw [ha]; rfl
          rw [if_pos ha, if_pos h255]
          simp only [State.answer_done, hon, hbytes]
        · have h255 : a.toNat ≠ 255 := fun h => ha (BitVec.eq_of_toNat_eq h)
          rw [if_neg ha, if_neg h255]
          split
          case isTrue hbig => rw [State.onJob_of_gt _ hbig]; rfl
          case isFalse hsmall =>
            cases hj : s.job? a.toNat with
            | none => rw [State.onJob_of_free u hsmall hj]; rfl
            | some j =>
              rw [State.onJob_of_some u hsmall hj]
              simp only [State.answer_ite, State.answer_refuse, State.answer_done, JobState.suspendable_iff]
              rfl
      case h_2 hargs => rw [State.offloadPause, parseOne_eq_none hargs]; rfl
    · rw [exec_serve_taking (rule := State.offloadContinue) rfl h hn]
      refine congrArg Host.Outcome.next ?_
      split
      case h_1 hargs =>
        rw [hargs, State.offloadContinue, parseNone, withArgs_some]
        simp only [State.answer_done, hoff, hbytes]
      case h_2 hargs => rw [State.offloadContinue, parseNone_eq_none hargs]; rfl

end Sys2Proof.Machine
end

section
/-!
Destinations released and reclaimed (R24, R88 to R91, R94, R95).
-/

namespace Sys2Proof.Machine

/-! ### DEST RELEASE and DRAIN COMPLETE (R89 to R91) -/

theorem State.endpoint?_setEndpointState {s : State} {e : EpName} {x : Endpoint} (h : s.endpoint? e = some x) (y : EndpointState) :
    (s.setEndpointState e y).endpoint? e = some { x with state := y } := by
  have hfind : (s.link.endpoints.map fun ep => if ep.name = e then { ep with state := y } else ep).find?
      (fun (z : Endpoint) => z.name == e) =
      (s.link.endpoints.find? (fun (z : Endpoint) => z.name == e)).map fun ep => if ep.name = e then { ep with state := y } else ep := by
    rw [List.find?_map]
    congr 2
    funext ep
    by_cases hep : ep.name = e <;> simp [hep]
  have hname : x.name = e := by simpa using List.find?_some h
  show List.find? (fun (z : Endpoint) => z.name == e) (s.link.endpoints.map _) = _
  rw [hfind]
  exact (congrArg (Option.map _) h).trans (by simp [hname])

theorem State.draining_iff (s : State) (e : EpName) :
    s.draining e = true ↔ ∃ x, s.endpoint? e = some x ∧ x.state = .draining := by
  unfold State.draining
  cases s.endpoint? e <;> simp

theorem State.asksTo_eq_zero_iff (s : State) (e : EpName) :
    s.asksTo e = 0 ↔ ∀ y ∈ (s.port e.port).allAsks, y.endpoint ≠ e := by
  simp [State.asksTo]

/-- Whether a drain can complete (R90). -/
theorem State.drained_iff (s : State) (e : EpName) :
    s.drained e = true ↔ (∃ x, s.endpoint? e = some x ∧ x.state = .draining) ∧
      ∀ y ∈ (s.port e.port).allAsks, y.endpoint ≠ e := by
  rw [State.drained, Bool.and_eq_true, State.draining_iff, beq_iff_eq, State.asksTo_eq_zero_iff]

/-- A release that is accepted (R89, R90; log entry 16). -/
theorem State.release_eq {s : State} {e : EpName} {x : Endpoint} (hx : s.endpoint? e = some x) (p : Port) (r : Request)
    {entries : List Endpoint} {replies : List Deferred} {asks : List Ask} (hentries : s.link.endpoints = entries)
    (hreplies : s.control.deferred = replies) (hasks : (s.port e.port).allAsks = asks) :
    let t : State :=
      { s with
        link := { s.link with endpoints := entries.map fun (y : Endpoint) =>
          if y.name = e then { y with state := .draining } else y }
        control := { s.control with deferred := replies ++ [⟨p, r.tag, r.number, e⟩] } }
    s.release p r e = (if ∃ y ∈ asks, y.endpoint = e then t else t.completeDrain e).engineSettle := by
  subst hentries hreplies hasks
  intro t
  have hdraining : t.endpoint? e = some { x with state := .draining } := State.endpoint?_setEndpointState hx .draining
  have hiff : t.drained e = true ↔ ¬ ∃ y ∈ (s.port e.port).allAsks, y.endpoint = e := by
    rw [State.drained_iff]
    push Not
    exact and_iff_right ⟨_, hdraining, rfl⟩
  show (if t.drained e then t.completeDrain e else t).engineSettle = _
  by_cases h : ∃ y ∈ (s.port e.port).allAsks, y.endpoint = e
  · rw [if_pos h, if_neg fun hd => hiff.mp hd h]
  · rw [if_neg h, if_pos (hiff.mpr h)]

/-- Settles O29. -/
theorem destRelease : Obligations.DestRelease := by
  refine ⟨fun s p r h hn => ?_, fun s q id hrun => ?_⟩
  · intro u
    have hexec : exec .destRelease s = .next (u.destRelease p r) := by
      show Host.Outcome.next (s.carryOut 0x19 State.destRelease) = _
      rw [← hn, State.carryOut_taking h]
    rw [hexec]
    refine congrArg Host.Outcome.next ?_
    split
    case h_1 a i hargs =>
      rw [State.destRelease, hargs, parseTwo]
      by_cases ha : a.toNat < 4 ∧ 1 ≤ i.toNat ∧ i.toNat ≤ 15
      · rw [dif_pos ha]
        simp only [State.judgeRelease, nameOf_of_range ha.1 ha.2]
        cases hx : s.endpoint? ⟨⟨a.toNat, ha.1⟩, i.toNat⟩ with
        | none =>
          have hx' : u.endpoint? ⟨⟨a.toNat, ha.1⟩, i.toNat⟩ = none := hx
          simp only [hx']
          rfl
        | some x =>
          have hx' : u.endpoint? ⟨⟨a.toNat, ha.1⟩, i.toNat⟩ = some x := hx
          simp only [hx']
          by_cases hkind : x.kind ≠ .dest
          · simp only [if_pos hkind]
            rfl
          · simp only [if_neg hkind]
            by_cases hstate : x.state = .online
            · simp only [if_pos hstate, if_neg (not_not.mpr hstate)]
              exact State.release_eq hx' p r rfl rfl rfl
            · simp only [if_neg hstate, if_pos hstate]
              rfl
      · rw [dif_neg ha]
        simp only [State.judgeRelease, nameOf_of_not_range ha]
        rfl
    case h_2 hargs =>
      rw [State.destRelease, parseTwo_eq_none hargs]
      rfl
  · intro e
    rw [exec_whenRunning (c := .drainComplete q id) (f := fun t => t.finishDrain ⟨q, id⟩) rfl hrun]
    refine ⟨fun hdraining hasks => ?_, fun hno => ?_⟩
    · rw [State.finishDrain, if_pos ((s.drained_iff e).mpr ⟨hdraining, hasks⟩)]
    · rw [State.finishDrain, if_neg]
      rintro hd
      obtain ⟨⟨x, hx, hstate⟩, hasks⟩ := (s.drained_iff e).mp hd
      rcases hno with hno | ⟨y, hy, hye⟩
      · exact hno x hx hstate
      · exact hasks y hy hye

/-! ### Returns (R88, R95) -/

theorem State.setClip_setClip (s : State) (n : Nat) (c d : Option ClipRecord) : (s.setClip n c).setClip n d = s.setClip n d := by
  have hclips : (s.table.clips.setIfInBounds n c).setIfInBounds n d = s.table.clips.setIfInBounds n d := by
    ext i hi : 1
    simp only [Vector.getElem_setIfInBounds]
    split <;> rfl
  simp only [State.setClip, hclips]

theorem State.setChannel_self {s : State} {c : ChannelId} {x : Channel} (h : s.channel c = x) : s.setChannel c x = s := by
  have hset : s.offload.channels.set c.val x c.isLt = s.offload.channels := by
    subst h
    exact Vector.set_getElem_self c.isLt
  simp only [State.setChannel, hset]

theorem ClipRecord.modDest_of_some {c : ClipRecord} {d : Nat} {r : DestRecord} (h : c.dests[d]? = some r)
    (f : DestRecord → DestRecord) : c.modDest d f = { c with dests := c.dests.set d (f r) } := by
  simp only [ClipRecord.modDest, h]

/-- The first DEFERRED record that names the endpoint (R95). -/
theorem ClipRecord.deferredAt_of_first {c : ClipRecord} {e : EpName} {d : Nat} {x : DestRecord} (hx : c.dests[d]? = some x)
    (hstate : x.state = .deferred) (hname : x.endpoint = e)
    (hbefore : ∀ i y, i < d → c.dests[i]? = some y → ¬ (y.state = .deferred ∧ y.endpoint = e)) : c.deferredAt e = some d := by
  obtain ⟨hlt, hget⟩ := List.getElem?_eq_some_iff.mp hx
  rw [ClipRecord.deferredAt, List.findIdx?_eq_some_iff_getElem]
  refine ⟨hlt, by simp [hget, hstate, hname], fun i hi => ?_⟩
  have := hbefore i _ hi (List.getElem?_eq_getElem (by omega))
  simpa using this

section
variable {s : State} {k d : Nat} {e : EpName} {c : ClipRecord} {x : DestRecord} {j : JobRecord}

/-- Whether a clip revives, by its fields (R95). -/
theorem ClipRecord.revives_iff (c : ClipRecord) :
    c.revives = true ↔ c.copyState = .failed ∧ c.fileCrc = none ∧
      ∀ y ∈ c.dests, y.reason ≠ some .sourceReadFailed ∧ y.reason ≠ some .sizeMismatch ∧ y.reason ≠ some .noSource := by
  simp [ClipRecord.revives, and_assoc]

theorem State.jobCancelled_of_some {n : Nat} (hj : s.job? n = some j) : s.jobCancelled n = (j.state == .cancelled) := by
  simp only [State.jobCancelled, hj]

theorem State.returnClip_of_some (hc : s.clip? k = some c) (hd : c.deferredAt e = some d) (hj : s.job? c.job = some j)
    (hlive : j.state ≠ .cancelled) : s.returnClip k e = (s.setClip k (some (c.returnAt d))).returnToJob k d e := by
  simp only [State.returnClip, hc, hd, State.jobCancelled_of_some hj, beq_iff_eq, if_neg hlive]

theorem State.returnClip_of_cancelled (hc : s.clip? k = some c) (hj : s.job? c.job = some j) (hcancelled : j.state = .cancelled) :
    s.returnClip k e = s := by
  unfold State.returnClip
  simp only [hc, State.jobCancelled_of_some hj, hcancelled]
  cases c.deferredAt e <;> rfl

theorem State.modClip_setClip_self (hk : k < 512) (f : ClipRecord → ClipRecord) :
    (s.setClip k (some c)).modClip k f = s.setClip k (some (f c)) := by
  have hc : (s.setClip k (some c)).clip? k = some c := by rw [State.clip?_setClip, if_pos ⟨rfl, hk⟩]
  rw [State.modClip_of_some hc, State.setClip_setClip]

/-! The effect of a returned record on the clip's job, by the job's state (R95). -/

theorem State.returnToJob_of_finished (hc : s.clip? k = some c) (hj : s.job? c.job = some j)
    (hstate : j.state = .done ∨ j.state = .doneIncomplete) :
    s.returnToJob k d e = s.setJob c.job (some { j with state := .queued, reseed := true }) := by
  unfold State.returnToJob
  rcases hstate with hstate | hstate <;> simp only [hc, hj, hstate, State.modJob_of_some hj]

theorem State.returnToJob_of_busy (hc : s.clip? k = some c) (hj : s.job? c.job = some j)
    (hstate : j.state = .identifying ∨ j.state = .active) :
    s.returnToJob k d e =
      if c.copyState = .failed ∧ c.fileCrc = none then (s.modDest k d (DestRecord.fail .noSource)).file (noSourceFiling k e)
      else s := by
  unfold State.returnToJob
  rcases hstate with hstate | hstate <;>
    simp only [hc, hj, hstate, Bool.and_eq_true, decide_eq_true_iff, Option.isNone_iff_eq_none]

theorem State.returnToJob_of_resting (hc : s.clip? k = some c) (hj : s.job? c.job = some j)
    (hstate : j.state = .queued ∨ j.state = .suspended) : s.returnToJob k d e = s := by
  unfold State.returnToJob
  rcases hstate with hstate | hstate <;> simp only [hc, hj, hstate]

/-- A returned clip by whether it revives (R95). -/
theorem ClipRecord.returnAt_of_some (hx : c.dests[d]? = some x) :
    c.returnAt d =
      let c1 : ClipRecord := { c with dests := c.dests.set d { x with state := .pending, attempts := 0, reason := none } }
      if c1.revives then { c1 with copyState := .waiting } else c1 := by
  rw [ClipRecord.returnAt, ClipRecord.modDest_of_some hx]
  rfl

theorem ClipRecord.returnAt_job (hx : c.dests[d]? = some x) : (c.returnAt d).job = c.job := by
  rw [ClipRecord.returnAt_of_some hx]
  dsimp only
  split <;> rfl

theorem ClipRecord.returnAt_dests (hx : c.dests[d]? = some x) :
    (c.returnAt d).dests = c.dests.set d { x with state := .pending, attempts := 0, reason := none } := by
  rw [ClipRecord.returnAt_of_some hx]
  dsimp only
  split <;> rfl

/-- A returned record whose clip did not revive is given up for want of a source (R95). -/
theorem ClipRecord.returnAt_fail (hx : c.dests[d]? = some x) :
    (c.returnAt d).modDest d (DestRecord.fail .noSource) = { c.returnAt d with
      dests := c.dests.set d { x with state := .failed, attempts := 0, reason := some .noSource } } := by
  have hget : (c.returnAt d).dests[d]? = some { x with state := .pending, attempts := 0, reason := none } := by
    rw [ClipRecord.returnAt_dests hx, List.getElem?_set_self (List.getElem?_eq_some_iff.mp hx).1]
  rw [ClipRecord.modDest_of_some hget, ClipRecord.returnAt_dests hx, List.set_set]
  rfl

end

theorem allChannels_length : allChannels.length = 8 := rfl

theorem allChannels_getElem {i : Nat} (h : i < allChannels.length) : allChannels[i] = (⟨i, h⟩ : ChannelId) := by
  have hall : ∀ c : ChannelId, allChannels[c.val]'(allChannels_length.symm ▸ c.isLt) = c := by decide
  exact hall ⟨i, h⟩

/-- The channel a clip is bound to is the lowest-numbered that names it (R54). -/
theorem State.channelOf_of_first {s : State} {c : ChannelId} {b : Binding} {k : Nat} (hc : s.channel c = .bound b) (hk : b.clip = k)
    (hfirst : ∀ (a : ChannelId) (y : Binding), a < c → s.channel a = .bound y → y.clip ≠ k) : s.channelOf k = some c := by
  unfold State.channelOf
  rw [List.find?_eq_some_iff_getElem]
  refine ⟨by simp [State.binding?_of_bound hc, hk], c.val, allChannels_length.symm ▸ c.isLt, allChannels_getElem _, fun i hi => ?_⟩
  rw [allChannels_getElem, Bool.not_eq_true']
  cases hb : s.binding? ⟨i, by omega⟩ with
  | none => rfl
  | some y =>
    have := hfirst ⟨i, by omega⟩ y hi (State.binding?_eq_some.mp hb)
    simpa using this

/-- A return at a bound clip is noted, once for an endpoint (R88). -/
theorem State.returnTo_bound {s : State} {e : EpName} {c : ChannelId} {b : Binding} {k : Nat} {x : ClipRecord}
    (hc : s.channel c = .bound b) (hof : s.channelOf k = some c) (hx : s.clip? k = some x) :
    s.returnTo e k =
      if (∃ d ∈ x.dests, d.state = .deferred ∧ d.endpoint = e) ∧ e ∉ b.notes then
        s.setChannel c (.bound { b with notes := b.notes ++ [e] })
      else s := by
  have hdeferred : (x.deferredAt e).isSome = true ↔ ∃ d ∈ x.dests, d.state = .deferred ∧ d.endpoint = e := by
    rw [ClipRecord.deferredAt_isSome, List.any_eq_true]
    simp
  have hclip : s.clipIs k (fun r => (r.deferredAt e).isSome) = (x.deferredAt e).isSome := by
    simp only [State.clipIs, hx]
  simp only [State.returnTo, hof, hclip, State.modBinding_of_bound hc]
  by_cases hd : ∃ d ∈ x.dests, d.state = .deferred ∧ d.endpoint = e
  · rw [if_pos (hdeferred.mpr hd)]
    by_cases hn : e ∈ b.notes
    · rw [if_neg fun h => h.2 hn, Binding.note, if_pos (List.contains_iff_mem.mpr hn), State.setChannel_self hc]
    · rw [if_pos ⟨hd, hn⟩, Binding.note, if_neg fun h => hn (List.contains_iff_mem.mp h)]
  · rw [if_neg fun h => hd (hdeferred.mp h), if_neg fun h => hd h.1]

/-- The jobs a return has re-queued, by number (R94). -/
theorem requeued_eq (before after : State) :
    requeued before after = ((List.range 16).filter fun n =>
      ((before.job? n).any fun j => j.state == .done || j.state == .doneIncomplete) &&
        (after.job? n).any fun j => j.state == .queued).length := by
  unfold requeued
  congr 2
  funext n
  cases before.job? n <;> cases after.job? n <;> simp

/-- Settles O31. -/
theorem returnTaken : Obligations.ReturnTaken := by
  refine ⟨fun s k d e c x j hc hx hstate hname hbefore hj => ?_, fun s k e => ⟨fun hunbound => ?_, ?_⟩, fun s p r h hn => ?_⟩
  · intro c1 revived
    have hd := ClipRecord.deferredAt_of_first hx hstate hname hbefore
    have hk := State.clip?_lt hc
    have hrevived : c1.revives = true ↔ revived := c1.revives_iff
    have hc2 := ClipRecord.returnAt_of_some hx
    refine ⟨c.returnAt d, fun hr => hc2.trans (if_pos (hrevived.mpr hr)), fun hr => hc2.trans (if_neg fun h => hr (hrevived.mp h)),
      fun hcancelled => State.returnClip_of_cancelled hc hj hcancelled, fun hs => ?_, fun hs => ?_, fun hs => ?_⟩
    all_goals
      have hlive : j.state ≠ .cancelled := by rcases hs with hs | hs <;> simp [hs]
      have hclip : (s.setClip k (some (c.returnAt d))).clip? k = some (c.returnAt d) := by
        rw [State.clip?_setClip, if_pos ⟨rfl, hk⟩]
      have hjob : (s.setClip k (some (c.returnAt d))).job? (c.returnAt d).job = some j := by
        rw [ClipRecord.returnAt_job hx]
        exact hj
      rw [State.returnClip_of_some hc hd hj hlive]
    · exact State.returnToJob_of_resting hclip hjob hs
    · rw [State.returnToJob_of_busy hclip hjob hs, State.modDest, State.modClip_setClip_self hk, ClipRecord.returnAt_fail hx]
      exact ⟨fun hgone => if_pos hgone, fun hgone => if_neg hgone⟩
    · rw [State.returnToJob_of_finished hclip hjob hs, ClipRecord.returnAt_job hx]
  · simp only [State.returnTo, State.channelOf_eq_none.mpr hunbound]
  · intro c b x hc hk hfirst hx
    exact State.returnTo_bound hc (State.channelOf_of_first hc hk hfirst) hx
  · intro u
    rw [exec_serve_taking (rule := State.destReclaim) rfl h hn]
    refine congrArg Host.Outcome.next ?_
    split
    case h_1 a i hargs =>
      rw [State.destReclaim, hargs, parseTwo, withArgs_some]
      by_cases ha : a.toNat < 4 ∧ 1 ≤ i.toNat ∧ i.toNat ≤ 15
      · rw [dif_pos ha]
        simp only [nameOf_of_range ha.1 ha.2]
        cases hx : s.endpoint? ⟨⟨a.toNat, ha.1⟩, i.toNat⟩ with
        | none =>
          have hx' : (s.takeRequest p).endpoint? ⟨⟨a.toNat, ha.1⟩, i.toNat⟩ = none := hx
          simp only [hx']
          rfl
        | some x =>
          have hx' : (s.takeRequest p).endpoint? ⟨⟨a.toNat, ha.1⟩, i.toNat⟩ = some x := hx
          simp only [hx']
          by_cases hkind : x.kind ≠ .dest
          · simp only [if_pos hkind]
            rfl
          · simp only [if_neg hkind]
            by_cases hstate : x.state = .draining
            · simp only [if_pos hstate]
              rfl
            · have hclips : (s.takeRequest p).returning ⟨⟨a.toNat, ha.1⟩, i.toNat⟩ = s.returning ⟨⟨a.toNat, ha.1⟩, i.toNat⟩ := rfl
              have hjobs (n : Nat) : (s.takeRequest p).job? n = s.job? n := rfl
              have hentries : (s.takeRequest p).link.endpoints = s.link.endpoints := rfl
              simp only [if_neg hstate, requeued_eq, State.answer_done, State.reclaim, State.setEndpointState,
                State.setEndpoints, hclips, hjobs, hentries, u]
      · rw [dif_neg ha]
        simp only [nameOf_of_not_range ha]
        rfl
    case h_2 hargs =>
      rw [State.destReclaim, parseTwo_eq_none hargs]
      rfl

end Sys2Proof.Machine
end

section
/-!
Destination records given up for want of a source (R50, R96), and the activation of a job (R48 to R50).
-/

namespace Sys2Proof.Machine

/-! ### The records given up (R50, R96) -/

/-- The destination records at some places made FAILED with NO_SOURCE. -/
def failedAt (l : List Nat) (dests : List DestRecord) : List DestRecord :=
  dests.mapIdx fun i r => if i ∈ l then r.fail .noSource else r

/-- A clip record whose destination records at some places have been given up, each with its copy fault counted (R34, R50). -/
def ClipRecord.loseAt (c : ClipRecord) (l : List Nat) : ClipRecord :=
  if l = [] then c
  else { c with
    dests := failedAt l c.dests
    copyFaults := min (c.copyFaults + l.length) 65535
    qc := if c.qc = .clean then .flagged else c.qc }

/-- The endpoints of the records at some places. -/
def ClipRecord.endpointsAt (c : ClipRecord) (l : List Nat) : List EpName := l.filterMap fun d => (c.dests[d]?).map (·.endpoint)

/-- One destination record given up: FAILED with NO_SOURCE, one fault filed (R50, R96). -/
def State.loseRecord (k : Nat) (s : State) (d : Nat) : State :=
  match s.dest? k d with
  | none => s
  | some r => (s.modDest k d (DestRecord.fail .noSource)).file (noSourceFiling k r.endpoint)

/-- The log entry of a record given up (R50, R96). -/
def State.lossEntry (s : State) (k : Nat) (e : EpName) : FaultEntry :=
  ⟨.noSource, s.supply.timeBase, some k, none, some e, none, none, 0, false⟩

/-- What the loss of a clip's records leaves alone. -/
structure State.AsideFromClip (k : Nat) (s t : State) : Prop where
  clips : ∀ m, m ≠ k → t.clip? m = s.clip? m
  jobs : t.table.jobs = s.table.jobs
  admission : t.table.admission = s.table.admission
  link : t.link = s.link
  control : t.control = s.control
  offload : t.offload = s.offload
  look : t.look = s.look
  review : t.review = s.review
  supply : t.supply = s.supply
  defectMap : t.spotter.defectMap = s.spotter.defectMap
  streams : t.spotter.streams = s.spotter.streams

theorem failedAt_length (l : List Nat) (dests : List DestRecord) : (failedAt l dests).length = dests.length := by
  simp [failedAt]

theorem failedAt_getElem? (l : List Nat) (dests : List DestRecord) (i : Nat) :
    (failedAt l dests)[i]? = (dests[i]?).map fun r => if i ∈ l then r.fail .noSource else r := by
  simp [failedAt]

theorem DestRecord.fail_fail (r : DestRecord) (x : FaultKind) : (r.fail x).fail x = r.fail x := rfl

theorem failedAt_cons (d : Nat) (l : List Nat) (dests : List DestRecord) :
    failedAt l (failedAt [d] dests) = failedAt (d :: l) dests := by
  refine List.ext_getElem? fun i => ?_
  simp only [failedAt_getElem?, List.mem_singleton, List.mem_cons]
  cases dests[i]? with
  | none => rfl
  | some r => by_cases hd : i = d <;> by_cases hl : i ∈ l <;> simp [hd, hl, DestRecord.fail_fail]

theorem failedAt_endpoint (l : List Nat) (dests : List DestRecord) (i : Nat) :
    ((failedAt l dests)[i]?).map (·.endpoint) = (dests[i]?).map (·.endpoint) := by
  rw [failedAt_getElem?, Option.map_map]
  congr 1
  funext r
  by_cases h : i ∈ l <;> simp [h, DestRecord.fail]

section
variable {s : State} {k d : Nat} {c : ClipRecord} {r : DestRecord}

theorem ClipRecord.modDest_fail (hr : c.dests[d]? = some r) :
    c.modDest d (DestRecord.fail .noSource) = { c with dests := failedAt [d] c.dests } := by
  have hset : c.dests.set d (r.fail .noSource) = failedAt [d] c.dests := by
    refine List.ext_getElem? fun i => ?_
    simp only [failedAt_getElem?, List.getElem?_set, List.mem_singleton]
    obtain ⟨hd, hget⟩ := List.getElem?_eq_some_iff.mp hr
    by_cases hi : d = i
    · subst hi
      simp [hd, hget]
    · simp [hi, Ne.symm hi]
  rw [ClipRecord.modDest_of_some hr, hset]

theorem ClipRecord.loseAt_cons (hr : c.dests[d]? = some r) (l : List Nat) :
    (c.loseAt [d]).loseAt l = c.loseAt (d :: l) := by
  cases l with
  | nil => rfl
  | cons e l =>
    simp only [ClipRecord.loseAt, reduceCtorEq, if_false, failedAt_cons, List.length_cons, List.length_nil]
    have hcount : min (min (c.copyFaults + (0 + 1)) 65535 + (l.length + 1)) 65535 = min (c.copyFaults + (l.length + 1 + 1)) 65535 := by
      omega
    rw [hcount]
    by_cases hqc : c.qc = .clean <;> simp [hqc]

theorem ClipRecord.loseAt_dests (c : ClipRecord) (l : List Nat) : (c.loseAt l).dests = failedAt l c.dests := by
  cases l with
  | nil => exact List.ext_getElem? fun i => by rw [failedAt_getElem?]; simp [ClipRecord.loseAt]
  | cons d l => rfl

theorem ClipRecord.loseAt_endpointsAt (l m : List Nat) : (c.loseAt l).endpointsAt m = c.endpointsAt m := by
  simp only [ClipRecord.endpointsAt, ClipRecord.loseAt_dests, failedAt_endpoint]

theorem State.loseRecord_of_some (hc : s.clip? k = some c) (hr : c.dests[d]? = some r) :
    s.loseRecord k d =
      (s.setClip k (some { c with dests := failedAt [d] c.dests })).file (noSourceFiling k r.endpoint) := by
  have hdest : s.dest? k d = some r := by rw [State.dest?, hc, Option.bind_some, hr]
  simp only [State.loseRecord, hdest, State.modDest, State.modClip_of_some hc, ClipRecord.modDest_fail hr]

theorem State.loseRecord_clip? (hc : s.clip? k = some c) (hr : c.dests[d]? = some r) :
    (s.loseRecord k d).clip? k = some (c.loseAt [d]) := by
  rw [State.loseRecord_of_some hc hr, State.file_clip?, if_pos (show (noSourceFiling k r.endpoint).clip = some k from rfl),
    State.clip?_setClip, if_pos ⟨rfl, State.clip?_lt hc⟩]
  rfl

theorem State.loseRecord_log (hc : s.clip? k = some c) (hr : c.dests[d]? = some r) (hroom : s.spotter.log.length < 128) :
    (s.loseRecord k d).spotter.log = s.spotter.log ++ [s.lossEntry k r.endpoint] := by
  rw [State.loseRecord_of_some hc hr, State.file_log, State.setClip_spotter, FaultSpotter.filed_of_room hroom]
  rfl

theorem State.AsideFromClip.refl (k : Nat) (s : State) : s.AsideFromClip k s :=
  ⟨fun _ _ => rfl, rfl, rfl, rfl, rfl, rfl, rfl, rfl, rfl, rfl, rfl⟩

theorem State.AsideFromClip.trans {t u : State} (h : s.AsideFromClip k t) (h' : t.AsideFromClip k u) : s.AsideFromClip k u where
  clips m hm := (h'.clips m hm).trans (h.clips m hm)
  jobs := h'.jobs.trans h.jobs
  admission := h'.admission.trans h.admission
  link := h'.link.trans h.link
  control := h'.control.trans h.control
  offload := h'.offload.trans h.offload
  look := h'.look.trans h.look
  review := h'.review.trans h.review
  supply := h'.supply.trans h.supply
  defectMap := h'.defectMap.trans h.defectMap
  streams := h'.streams.trans h.streams

theorem State.loseRecord_aside (hc : s.clip? k = some c) (hr : c.dests[d]? = some r) : s.AsideFromClip k (s.loseRecord k d) := by
  rw [State.loseRecord_of_some hc hr]
  refine ⟨fun m hm => ?_, by simp [State.setClip], by simp [State.setClip], by simp, by simp, by simp, by simp, ?_, by simp,
    by simp, by simp⟩
  · rw [State.file_clip?, if_neg (by simpa [noSourceFiling] using Ne.symm hm), State.clip?_setClip,
      if_neg fun h => hm h.1.symm]
  · rw [State.file_review_of_none (h := rfl), State.setClip_review]

end

section
variable {k : Nat}

/-- The records of a clip given up one after another (R50, R96). -/
theorem foldl_loseRecord (l : List Nat) {s : State} {c : ClipRecord} (hc : s.clip? k = some c)
    (hl : ∀ d ∈ l, d < c.dests.length) :
    (l.foldl (State.loseRecord k) s).clip? k = some (c.loseAt l) ∧ s.AsideFromClip k (l.foldl (State.loseRecord k) s) := by
  induction l generalizing s c with
  | nil => exact ⟨by simpa [ClipRecord.loseAt] using hc, State.AsideFromClip.refl k s⟩
  | cons d l ih =>
    obtain ⟨r, hr⟩ : ∃ r, c.dests[d]? = some r := ⟨_, List.getElem?_eq_getElem (hl d List.mem_cons_self)⟩
    have hlen : ∀ e ∈ l, e < (c.loseAt [d]).dests.length := fun e he => by
      rw [ClipRecord.loseAt_dests, failedAt_length]
      exact hl e (List.mem_cons_of_mem _ he)
    obtain ⟨hclip, haside⟩ := ih (State.loseRecord_clip? hc hr) hlen
    rw [List.foldl_cons]
    exact ⟨by rw [hclip, ClipRecord.loseAt_cons hr], (State.loseRecord_aside hc hr).trans haside⟩

theorem foldl_loseRecord_log (l : List Nat) {s : State} {c : ClipRecord} (hc : s.clip? k = some c)
    (hl : ∀ d ∈ l, d < c.dests.length) (hroom : s.spotter.log.length + l.length ≤ 128) :
    (l.foldl (State.loseRecord k) s).spotter.log = s.spotter.log ++ (c.endpointsAt l).map (s.lossEntry k) := by
  induction l generalizing s c with
  | nil => simp [ClipRecord.endpointsAt]
  | cons d l ih =>
    rw [List.length_cons] at hroom
    obtain ⟨r, hr⟩ : ∃ r, c.dests[d]? = some r := ⟨_, List.getElem?_eq_getElem (hl d List.mem_cons_self)⟩
    have hlen : ∀ e ∈ l, e < (c.loseAt [d]).dests.length := fun e he => by
      rw [ClipRecord.loseAt_dests, failedAt_length]
      exact hl e (List.mem_cons_of_mem _ he)
    have hlog := State.loseRecord_log hc hr (by omega)
    have hentry : (s.loseRecord k d).lossEntry k = s.lossEntry k := by
      funext e
      simp only [State.lossEntry, (State.loseRecord_aside hc hr).supply]
    rw [List.foldl_cons, ih (State.loseRecord_clip? hc hr) hlen (by rw [hlog, List.length_append, List.length_singleton]; omega),
      hlog, hentry, ClipRecord.loseAt_endpointsAt, List.append_assoc]
    simp [ClipRecord.endpointsAt, hr]

end

/-! ### The records in a state, by place -/

section
variable (c : ClipRecord) (x : DestState)

theorem ClipRecord.mem_placesIn {d : Nat} : d ∈ c.placesIn x ↔ ∃ r, c.dests[d]? = some r ∧ r.state = x := by
  simp only [ClipRecord.placesIn, List.mem_map, List.mem_filter, List.mem_zipIdx_iff_getElem?, beq_iff_eq, Prod.exists]
  constructor
  · rintro ⟨r, i, ⟨hr, hx⟩, rfl⟩
    exact ⟨r, hr, hx⟩
  · rintro ⟨r, hr, hx⟩
    exact ⟨r, d, ⟨hr, hx⟩, rfl⟩

theorem ClipRecord.lt_of_mem_placesIn {d : Nat} (h : d ∈ c.placesIn x) : d < c.dests.length := by
  obtain ⟨r, hr, _⟩ := (c.mem_placesIn x).mp h
  exact (List.getElem?_eq_some_iff.mp hr).1

theorem ClipRecord.failedAt_placesIn :
    failedAt (c.placesIn x) c.dests = c.dests.map fun r => if r.state = x then r.fail .noSource else r := by
  refine List.ext_getElem? fun i => ?_
  rw [failedAt_getElem?, List.getElem?_map]
  cases hr : c.dests[i]? with
  | none => rfl
  | some r =>
    have hmem : i ∈ c.placesIn x ↔ r.state = x := by rw [c.mem_placesIn x, hr]; simp
    simp only [Option.map_some, hmem]

theorem filterMap_filter_zipIdx {α β : Type} (l : List α) (p : α → Bool) (f : α → β) :
    ((l.zipIdx.filter fun xi => p xi.1).map (·.2)).filterMap (fun i => (l[i]?).map f) = (l.filter p).map f := by
  have hget : (l.zipIdx.filter fun xi => p xi.1).filterMap (fun xi => (l[xi.2]?).map f) =
      (l.zipIdx.filter fun xi => p xi.1).filterMap fun xi => some (f xi.1) := by
    refine List.filterMap_congr fun xi hxi => ?_
    have := List.mem_zipIdx_iff_getElem?.mp (List.mem_of_mem_filter hxi)
    rw [this]
    rfl
  rw [List.filterMap_map]
  refine hget.trans ?_
  have hfst : (l.zipIdx.filter fun xi => p xi.1).map Prod.fst = l.filter p := by
    have hfilter : (l.zipIdx.filter fun xi => p xi.1).map Prod.fst = (l.zipIdx.map Prod.fst).filter p := by
      rw [List.filter_map]
      rfl
    rw [hfilter, List.zipIdx_map_fst]
  rw [← hfst, List.map_map, List.filterMap_eq_map']
  rfl

theorem ClipRecord.endpointsAt_placesIn :
    c.endpointsAt (c.placesIn x) = (c.dests.filter fun r => r.state == x).map (·.endpoint) :=
  filterMap_filter_zipIdx c.dests (fun r => r.state == x) (·.endpoint)

theorem ClipRecord.placesIn_length : (c.placesIn x).length = (c.dests.filter fun r => r.state == x).length := by
  have hfst : (c.dests.zipIdx.filter fun ri => ri.1.state == x).map Prod.fst = c.dests.filter fun r => r.state == x := by
    have hfilter : (c.dests.zipIdx.filter fun ri => ri.1.state == x).map Prod.fst =
        (c.dests.zipIdx.map Prod.fst).filter fun r => r.state == x := by
      rw [List.filter_map]
      rfl
    rw [hfilter, List.zipIdx_map_fst]
  rw [← hfst, ClipRecord.placesIn, List.length_map, List.length_map]

end

/-! ### A job's clips tidied (R50) -/

section
variable {s : State} {k : Nat} {c : ClipRecord}

theorem ClipRecord.anyIn_iff (c : ClipRecord) (x : DestState) : c.anyIn x = true ↔ ∃ d ∈ c.dests, d.state = x := by
  simp [ClipRecord.anyIn]

theorem ClipRecord.allVerified_iff (c : ClipRecord) : c.allVerified = true ↔ ∀ d ∈ c.dests, d.state = .verified := by
  simp [ClipRecord.allVerified]

theorem ClipRecord.orphaned_iff (c : ClipRecord) :
    c.orphaned = true ↔ c.copyState = .failed ∧ c.fileCrc = none ∧ ∃ d ∈ c.dests, d.state = .pending := by
  simp [ClipRecord.orphaned, ClipRecord.anyIn_iff, and_assoc]

theorem ClipRecord.idle_iff (c : ClipRecord) :
    c.idle = true ↔ c.copyState = .waiting ∧ ∀ d ∈ c.dests, d.state ≠ .pending := by
  simp only [ClipRecord.idle, Bool.and_eq_true, beq_iff_eq, Bool.not_eq_true', ← Bool.not_eq_true, ClipRecord.anyIn_iff]
  push Not
  rfl

/-- The copy state a clip settles in (R56). -/
theorem ClipRecord.settledState_eq (c : ClipRecord) : c.settledState =
    if ∀ d ∈ c.dests, d.state = .verified then .complete
    else if ∃ d ∈ c.dests, d.state = .verified then .partialCopy
    else .failed := by
  simp only [ClipRecord.settledState, c.allVerified_iff, c.anyIn_iff]

theorem State.tidyOrphans_of_not_orphaned (hc : s.clip? k = some c) (h : ¬ c.orphaned = true) : s.tidyOrphans k = s := by
  simp only [State.tidyOrphans, hc, if_neg h]

theorem State.tidyOrphans_of_orphaned (hc : s.clip? k = some c) (h : c.orphaned = true) :
    s.tidyOrphans k = (c.placesIn .pending).foldl (State.loseRecord k) s := by
  simp only [State.tidyOrphans, hc, if_pos h]
  rfl

theorem ClipRecord.loseAt_placesIn {x : DestState} (h : ∃ d ∈ c.dests, d.state = x) :
    c.loseAt (c.placesIn x) = { c with
      dests := c.dests.map fun d => if d.state = x then { d with state := .failed, reason := some .noSource } else d
      copyFaults := min (c.copyFaults + (c.dests.filter fun d => d.state == x).length) 65535
      qc := if c.qc = .clean then .flagged else c.qc } := by
  have hsome : c.placesIn x ≠ [] := by
    obtain ⟨r, hr, hx⟩ := h
    obtain ⟨d, hd⟩ := List.getElem?_of_mem hr
    exact List.ne_nil_of_mem ((c.mem_placesIn x).mpr ⟨r, hd, hx⟩)
  rw [ClipRecord.loseAt, if_neg hsome, ClipRecord.failedAt_placesIn, ClipRecord.placesIn_length]
  rfl

/-- The clips that are tidied keep their jobs, channels and asks (R50). -/
theorem State.tidyOrphans_aside (s : State) (k : Nat) : s.AsideFromClip k (s.tidyOrphans k) := by
  cases hc : s.clip? k with
  | none =>
    simp only [State.tidyOrphans, hc]
    exact State.AsideFromClip.refl k s
  | some c =>
    by_cases h : c.orphaned = true
    · rw [State.tidyOrphans_of_orphaned hc h]
      exact (foldl_loseRecord _ hc fun d hd => c.lt_of_mem_placesIn _ hd).2
    · rw [State.tidyOrphans_of_not_orphaned hc h]
      exact State.AsideFromClip.refl k s

theorem State.tidyIdle_of_idle (hc : s.clip? k = some c) (h : c.idle = true) :
    s.tidyIdle k = s.setClip k (some { c with copyState := c.settledState }) := by
  simp only [State.tidyIdle, State.clipIs, hc, h, if_true, State.settleRecord, State.modClip_of_some hc]

theorem State.tidyIdle_of_not_idle (hc : s.clip? k = some c) (h : ¬ c.idle = true) : s.tidyIdle k = s := by
  simp only [State.tidyIdle, State.clipIs, hc, if_neg h]

theorem State.tidyIdle_job? (n : Nat) : (s.tidyIdle k).job? n = s.job? n := by
  unfold State.tidyIdle State.settleRecord
  split <;> simp

theorem State.tidyOrphans_job? (n : Nat) : (s.tidyOrphans k).job? n = s.job? n := by
  simp only [State.job?, (s.tidyOrphans_aside k).jobs]

/-- A job's clips tidied before it activates (R50). -/
def State.tidied (s : State) (j : JobRecord) : State :=
  j.clips.foldl (fun (u : State) k => u.tidyIdle k) (j.clips.foldl (fun (u : State) k => u.tidyOrphans k) s)

theorem State.tidied_job? (j : JobRecord) (n : Nat) : (s.tidied j).job? n = s.job? n := by
  unfold State.tidied
  rw [foldl_keeps (fun t : State => t.job? n) (fun (u : State) k => u.tidyIdle k) (fun u k => State.tidyIdle_job? n),
    foldl_keeps (fun t : State => t.job? n) (fun (u : State) k => u.tidyOrphans k) (fun u k => State.tidyOrphans_job? n)]

end

/-! ### The conditions of an activation (R48, R49) -/

section
variable {s : State} {n : Nat} {j : JobRecord}

theorem State.candidate_iff (hj : s.job? n = some j) :
    s.candidate j.source = some n ↔ ∃ before after, s.table.admission = before ++ n :: after ∧ j.state = .queued ∧
      ∀ m ∈ before, ∀ x, s.job? m = some x → ¬ (x.source = j.source ∧ x.state = .queued) := by
  rw [State.candidate, List.find?_eq_some_iff_append]
  simp only [hj, JobRecord.standsOn, beq_self_eq_true, Bool.true_and, beq_iff_eq]
  constructor
  · rintro ⟨hstate, before, after, hlist, hbefore⟩
    refine ⟨before, after, hlist, hstate, fun m hm x hx hqueued => ?_⟩
    have := hbefore m hm
    simp [hx, hqueued.1, hqueued.2] at this
  · rintro ⟨before, after, hlist, hstate, hbefore⟩
    refine ⟨hstate, before, after, hlist, fun m hm => ?_⟩
    cases hx : s.job? m with
    | none => rfl
    | some x =>
      have := hbefore m hm x hx
      rw [not_and_or] at this
      simpa using this

theorem State.sourceBusy_iff (s : State) (e : EpName) :
    s.sourceBusy e = true ↔ ∃ m < 16, ∃ x, s.job? m = some x ∧ x.source = e ∧ (x.state = .identifying ∨ x.state = .active) := by
  have hstands (x : JobRecord) : x.standsOn e JobState.busy = true ↔ x.source = e ∧ (x.state = .identifying ∨ x.state = .active) := by
    rw [JobRecord.standsOn, Bool.and_eq_true, beq_iff_eq]
    refine and_congr_right fun _ => ?_
    cases x.state <;> simp [JobState.busy]
  simp only [State.sourceBusy, List.any_eq_true]
  constructor
  · rintro ⟨y, hy, hbusy⟩
    obtain ⟨m, hm, hget⟩ := Vector.mem_iff_getElem.mp (Vector.mem_toList_iff.mp hy)
    cases y with
    | none => exact absurd hbusy Bool.false_ne_true
    | some x =>
      have hx : s.job? m = some x := by rw [State.job?, Vector.getElem?_eq_getElem hm, hget]; rfl
      exact ⟨m, hm, x, hx, (hstands x).mp hbusy⟩
  · rintro ⟨m, hm, x, hx, hbusy⟩
    have hget : s.table.jobs[m] = some x := by
      rw [State.job?, Vector.getElem?_eq_getElem hm] at hx
      exact hx
    exact ⟨some x, Vector.mem_toList_iff.mpr (hget ▸ Vector.getElem_mem hm), (hstands x).mpr hbusy⟩

theorem State.online_iff (s : State) (e : EpName) : s.online e = true ↔ ∃ x, s.endpoint? e = some x ∧ x.state = .online := by
  unfold State.online
  cases s.endpoint? e <;> simp

theorem State.needsSource_eq_false (s : State) (j : JobRecord) :
    s.needsSource j = false ↔ ∀ k ∈ j.clips, ∀ c, s.clip? k = some c → c.fresh = false := by
  rw [State.needsSource, List.any_eq_false]
  refine forall₂_congr fun k _ => ?_
  rw [State.clipIs_eq]
  cases s.clip? k <;> simp

/-- When a job may activate (R49). -/
theorem State.mayActivate_iff (hj : s.job? n = some j) :
    s.mayActivate n j = true ↔
      (∃ before after, s.table.admission = before ++ n :: after ∧ j.state = .queued ∧
        ∀ m ∈ before, ∀ x, s.job? m = some x → ¬ (x.source = j.source ∧ x.state = .queued)) ∧
      (¬ ∃ m < 16, ∃ x, s.job? m = some x ∧ x.source = j.source ∧ (x.state = .identifying ∨ x.state = .active)) ∧
      s.offload.state = .running ∧
      ((∃ x, s.endpoint? j.source = some x ∧ x.state = .online) ∨
        (j.reseed = true ∧ ∀ k ∈ j.clips, ∀ c, s.clip? k = some c → c.fresh = false)) := by
  rw [← State.candidate_iff hj, ← State.sourceBusy_iff, ← State.online_iff, ← State.needsSource_eq_false]
  simp [State.mayActivate, State.engineRuns, and_assoc]

theorem State.hasWork_iff (s : State) (j : JobRecord) :
    s.hasWork j = true ↔
      ∃ k ∈ j.clips, s.isBound k = true ∨ ∃ c, s.clip? k = some c ∧ (c.fresh = true ∨ c.reseedWork = true) := by
  rw [State.hasWork, List.any_eq_true]
  refine exists_congr fun k => and_congr_right fun _ => ?_
  rw [State.eligible, State.clipIs_eq]
  cases s.isBound k <;> cases s.clip? k <;> simp

theorem State.settleJob_of_some (hj : s.job? n = some j) : s.settleJob n = s.setJob n (some { j with
    state := if ∀ k ∈ j.clips, ∃ c, s.clip? k = some c ∧ ∀ d ∈ c.dests, d.state = .verified then .done else .doneIncomplete
    standing := none
    reseed := false }) := by
  have hall : (j.clips.all fun k => s.clipIs k (·.allVerified)) = true ↔
      ∀ k ∈ j.clips, ∃ c, s.clip? k = some c ∧ ∀ d ∈ c.dests, d.state = .verified := by
    rw [List.all_eq_true]
    refine forall₂_congr fun k _ => ?_
    rw [State.clipIs_eq]
    cases s.clip? k <;> simp [ClipRecord.allVerified_iff]
  rw [State.settleJob, State.modJob_of_some hj]
  simp only [hall]

end

/-- Settles O32. -/
theorem jobActivation : Obligations.JobActivation := by
  refine ⟨fun s n hrun => ?_, fun s k c hc => ?_⟩
  · have hexec : exec (.jobActivation n) s = .next (s.activateJob n) := exec_whenRunning (f := fun s => s.activateJob n) rfl hrun
    rw [hexec]
    refine ⟨fun hnone => by simp only [State.activateJob, hnone], fun j hj => ?_⟩
    intro candidate busy ready
    have hmay : s.mayActivate n j = true ↔ candidate ∧ ¬ busy ∧ s.offload.state = .running ∧ ready := State.mayActivate_iff hj
    refine ⟨fun hno => ?_, fun hcandidate hbusy hengine hready => ?_⟩
    · simp only [State.activateJob, hj, if_neg fun h => hno (hmay.mp h)]
    · intro t
      have hjob : t.job? n = some j := (s.tidied_job? j n).trans hj
      have hactivate : s.activateJob n =
          (if t.hasWork j then (t.modJob n fun j => { j with state := .identifying }).setIdentify n ⟨0, false⟩
           else t.settleJob n).engineSettle := by
        simp only [State.activateJob, hj, if_pos (hmay.mpr ⟨hcandidate, hbusy, hengine, hready⟩)]
        rfl
      clear_value t
      rw [hactivate]
      refine ⟨fun hwork => ?_, fun hwork => ?_⟩
      · rw [if_pos ((t.hasWork_iff j).mpr hwork), State.modJob_of_some hjob]
      · have hnone : ¬ t.hasWork j = true := by
          rw [State.hasWork_iff]
          rintro ⟨k, hk, hbound | ⟨c, hc, hfresh⟩⟩
          · exact absurd hbound (by simp [(hwork k hk).1])
          · obtain ⟨hf, hr⟩ := (hwork k hk).2 c hc
            rcases hfresh with h | h
            · exact absurd h (by simp [hf])
            · exact absurd h (by simp [hr])
        rw [if_neg hnone, State.settleJob_of_some hjob]
        refine ⟨_, ?_, ?_, rfl⟩
        · split
          · exact Or.inl rfl
          · exact Or.inr rfl
        · split
          · next h => exact iff_of_true rfl h
          · next h => exact iff_of_false nofun h
  · intro orphaned idle lost t
    refine ⟨fun h => State.tidyOrphans_of_not_orphaned hc fun ho => h (c.orphaned_iff.mp ho), fun h => ?_,
      fun h => State.tidyIdle_of_not_idle hc fun hi => h (c.idle_iff.mp hi), fun h => ?_⟩
    · have hplaces : ∀ d ∈ c.placesIn .pending, d < c.dests.length := fun d hd => c.lt_of_mem_placesIn _ hd
      have ht : t = (c.placesIn .pending).foldl (State.loseRecord k) s := State.tidyOrphans_of_orphaned hc (c.orphaned_iff.mpr h)
      obtain ⟨hclip, haside⟩ := foldl_loseRecord _ hc hplaces
      obtain ⟨hclips, hjobs, hadmission, hlink, hcontrol, hoffload, hlook, hreview, hsupply, hmap, hstreams⟩ := haside
      have hlog := foldl_loseRecord_log _ hc hplaces
      rw [← ht] at hclip hclips hjobs hadmission hlink hcontrol hoffload hlook hreview hsupply hmap hstreams hlog
      rw [ClipRecord.loseAt_placesIn h.2.2] at hclip
      refine ⟨hclip, hclips, hjobs, hadmission, hlink, hcontrol, hoffload, hlook, hreview, hsupply, hmap, hstreams, fun hroom => ?_⟩
      rw [hlog (by rw [ClipRecord.placesIn_length]; exact hroom), ClipRecord.endpointsAt_placesIn, List.map_map]
      rfl
    · rw [State.tidyIdle_of_idle hc (c.idle_iff.mpr h), ClipRecord.settledState_eq]

end Sys2Proof.Machine
end

section
/-!
The arbiter binds a clip to a channel (R54, R55, R67, R96).
-/

namespace Sys2Proof.Machine

/-! ### The arbiter's choice (R54) -/

section
variable {s : State}

theorem State.freeChannel_eq_none (h : ∀ c : ChannelId, s.channel c ≠ .free) : s.freeChannel = none := by
  rw [State.freeChannel, List.find?_eq_none]
  intro c _
  have := h c
  cases hc : s.channel c with
  | free => exact absurd hc this
  | bound b => simp
  | closing b => simp

/-- The lowest-numbered FREE channel (R54). -/
theorem State.freeChannel_of_first {c : ChannelId} (hc : s.channel c = .free)
    (hbefore : ∀ b : ChannelId, b < c → s.channel b ≠ .free) : s.freeChannel = some c := by
  rw [State.freeChannel, List.find?_eq_some_iff_getElem]
  refine ⟨by simp [hc], c.val, allChannels_length.symm ▸ c.isLt, allChannels_getElem _, fun i hi => ?_⟩
  rw [allChannels_getElem, Bool.not_eq_true']
  have := hbefore ⟨i, by omega⟩ hi
  cases hb : s.channel ⟨i, by omega⟩ with
  | free => exact absurd hb this
  | bound b => rfl
  | closing b => rfl

/-- A job that may take one more channel (R54). -/
def State.openJob (s : State) (n : Nat) (j : JobRecord) : Prop :=
  s.job? n = some j ∧ j.state = .active ∧ (s.channelsOf n).length < j.limit

theorem State.jobChoice_of_open {n : Nat} {j : JobRecord} (h : s.openJob n j) :
    s.jobChoice n = (s.firstEligible j).map fun k => (n, k) := by
  obtain ⟨hj, hstate, hlimit⟩ := h
  simp [State.jobChoice, hj, hstate, hlimit]

theorem State.firstEligible_eq_none (j : JobRecord) : s.firstEligible j = none ↔ ∀ k ∈ j.clips, s.eligible k = false := by
  simp [State.firstEligible]

theorem State.jobChoice_eq_none {n : Nat} (h : ∀ j, s.openJob n j → ∀ k ∈ j.clips, s.eligible k = false) :
    s.jobChoice n = none := by
  cases hj : s.job? n with
  | none => simp [State.jobChoice, hj]
  | some j =>
    by_cases ho : s.openJob n j
    · rw [State.jobChoice_of_open ho, (State.firstEligible_eq_none j).mpr (h j ho), Option.map_none]
    · have hclosed : ¬ (j.state = .active ∧ (s.channelsOf n).length < j.limit) := fun h => ho ⟨hj, h⟩
      simp only [State.jobChoice, hj, Bool.and_eq_true, decide_eq_true_iff, if_neg hclosed]

theorem State.jobChoice_of_first {n k : Nat} {j : JobRecord} (ho : s.openJob n j) {before after : List Nat}
    (hlist : j.clips = before ++ k :: after) (hbefore : ∀ b ∈ before, s.eligible b = false) (hk : s.eligible k = true) :
    s.jobChoice n = some (n, k) := by
  have hfirst : s.firstEligible j = some k := by
    rw [State.firstEligible, List.find?_eq_some_iff_append]
    exact ⟨hk, before, after, hlist, fun b hb => by simp [hbefore b hb]⟩
  rw [State.jobChoice_of_open ho, hfirst]
  rfl

theorem mem_circularFrom {last n : Nat} (h : n ∈ circularFrom last) : n < 16 := by
  simp only [circularFrom, List.mem_map, List.mem_range] at h
  omega

/-- The first job in circular order that has a choice is served (R54). -/
theorem findSome?_circularFrom {last i : Nat} (hi : i < 16) {x : Nat × Nat}
    (hx : s.jobChoice ((last + 1 + i) % 16) = some x) (hbefore : ∀ m < i, s.jobChoice ((last + 1 + m) % 16) = none) :
    (circularFrom last).findSome? s.jobChoice = some x := by
  have hsplit : List.range 16 = List.range i ++ i :: (List.range (15 - i)).map fun m => i + 1 + m := by
    have h16 : 16 = i + (1 + (15 - i)) := by omega
    rw [h16, List.range_add, List.range_add]
    simp [Function.comp_def, Nat.add_assoc]
  have hnone : ((List.range i).map fun m => (last + 1 + m) % 16).findSome? s.jobChoice = none := by
    rw [List.findSome?_eq_none_iff]
    intro n hn
    obtain ⟨m, hm, rfl⟩ := List.mem_map.mp hn
    exact hbefore m (List.mem_range.mp hm)
  rw [circularFrom, hsplit, List.map_append, List.findSome?_append, hnone, Option.none_or, List.map_cons, List.findSome?_cons,
    hx]

end

/-! ### The peer of a clip (R96) -/

/-- The record of the lowest key, and of the first place among those. -/
theorem foldl_lowestKey (l : List (DestRecord × Nat)) (b : DestRecord × Nat)
    (hsorted : (b :: l).Pairwise fun x y => x.2 ≤ y.2) :
    let best := l.foldl (fun b y => if y.1.endpoint.key < b.1.endpoint.key then y else b) b
    best ∈ b :: l ∧ ∀ y ∈ b :: l,
      best.1.endpoint.key < y.1.endpoint.key ∨ best.1.endpoint.key = y.1.endpoint.key ∧ best.2 ≤ y.2 := by
  induction l generalizing b with
  | nil => simp
  | cons x l ih =>
    obtain ⟨hb, hx, hl⟩ : (∀ y ∈ x :: l, b.2 ≤ y.2) ∧ (∀ y ∈ l, x.2 ≤ y.2) ∧ l.Pairwise fun x y => x.2 ≤ y.2 := by
      simpa only [List.pairwise_cons] using hsorted
    rw [List.foldl_cons]
    split
    · next hlt =>
      obtain ⟨hmem, hbest⟩ := ih x (List.pairwise_cons.mpr ⟨hx, hl⟩)
      refine ⟨List.mem_cons_of_mem _ hmem, fun y hy => ?_⟩
      rcases List.mem_cons.mp hy with rfl | hy
      · have := hbest x List.mem_cons_self
        omega
      · exact hbest y hy
    · next hge =>
      obtain ⟨hmem, hbest⟩ := ih b (List.pairwise_cons.mpr ⟨fun y hy => hb y (List.mem_cons_of_mem _ hy), hl⟩)
      refine ⟨?_, fun y hy => ?_⟩
      · rcases List.mem_cons.mp hmem with h | h
        · exact List.mem_cons.mpr (Or.inl h)
        · exact List.mem_cons_of_mem _ (List.mem_cons_of_mem _ h)
      · rcases List.mem_cons.mp hy with rfl | hy
        · exact hbest y List.mem_cons_self
        · rcases List.mem_cons.mp hy with rfl | hy
          · have hbb := hbest b List.mem_cons_self
            have hby := hb y List.mem_cons_self
            omega
          · exact hbest y (List.mem_cons_of_mem _ hy)

theorem pairwise_zipIdx_le {α : Type} (l : List α) (n : Nat) : (l.zipIdx n).Pairwise fun x y => x.2 ≤ y.2 := by
  induction l generalizing n with
  | nil => exact List.Pairwise.nil
  | cons a l ih =>
    rw [List.zipIdx_cons, List.pairwise_cons]
    refine ⟨fun y hy => ?_, ih (n + 1)⟩
    have := List.le_snd_of_mem_zipIdx hy
    show n ≤ y.2
    omega

section
variable {s : State} {c : ClipRecord}

theorem State.choosePeer_eq_none (h : ∀ d ∈ c.dests, s.peerUsable d = false) : s.choosePeer c = none := by
  have hnil : (c.dests.zipIdx.filter fun ri => s.peerUsable ri.1) = [] :=
    List.filter_eq_nil_iff.mpr fun ri hri => by
      rw [h ri.1 (List.mem_of_getElem? (List.mem_zipIdx_iff_getElem?.mp hri))]
      exact Bool.false_ne_true
  simp only [State.choosePeer, hnil]

/-- The peer a binding takes (R96). -/
theorem State.choosePeer_of_lowest {m : Nat} {d : DestRecord} (hd : c.dests[m]? = some d) (husable : s.peerUsable d = true)
    (hlow : ∀ (o : Nat) (y : DestRecord), c.dests[o]? = some y → s.peerUsable y = true →
      d.endpoint.key < y.endpoint.key ∨ d.endpoint.key = y.endpoint.key ∧ m ≤ o) :
    s.choosePeer c = some (.peer d.endpoint m) := by
  have hmem (y : DestRecord) (o : Nat) :
      (y, o) ∈ (c.dests.zipIdx.filter fun ri => s.peerUsable ri.1) ↔ c.dests[o]? = some y ∧ s.peerUsable y = true := by
    rw [List.mem_filter, List.mem_zipIdx_iff_getElem?]
  have hsorted : (c.dests.zipIdx.filter fun ri => s.peerUsable ri.1).Pairwise fun x y => x.2 ≤ y.2 :=
    (pairwise_zipIdx_le c.dests 0).filter _
  have hin := (hmem d m).mpr ⟨hd, husable⟩
  unfold State.choosePeer
  generalize hl : (c.dests.zipIdx.filter fun ri => s.peerUsable ri.1) = l at hmem hsorted hin
  cases l with
  | nil => exact absurd hin List.not_mem_nil
  | cons x xs =>
    obtain ⟨hbest, hmin⟩ := foldl_lowestKey xs x hsorted
    dsimp only
    generalize xs.foldl (fun b y => if y.1.endpoint.key < b.1.endpoint.key then y else b) x = best at hbest hmin
    obtain ⟨y, o⟩ := best
    obtain ⟨hy, huy⟩ := (hmem y o).mp hbest
    have h1 := hlow o y hy huy
    have h2 := hmin (d, m) hin
    have hmo : m = o := by
      dsimp only at h2
      omega
    subst hmo
    rw [hd, Option.some.injEq] at hy
    subst hy
    rfl

/-- Whether a record's endpoint can serve as a peer (R96). -/
theorem State.peerUsable_iff (s : State) (d : DestRecord) :
    s.peerUsable d = true ↔ d.state = .verified ∧ (∃ y, s.endpoint? d.endpoint = some y ∧ y.state = .online) ∧
      hasRole (s.port d.endpoint.port).roles .dest = true := by
  rw [← State.online_iff]
  simp [State.peerUsable, and_assoc]

/-- A record of the clip as it is bound that is VERIFIED was so before (R55). -/
theorem ClipRecord.bind_getElem? (c : ClipRecord) (i : Nat) :
    c.bind.dests[i]? = (c.dests[i]?).map fun d => if d.state = .pending then { d with state := .inProgress } else d :=
  List.getElem?_map ..

theorem bind_verified {d y : DestRecord} (hy : (if d.state = .pending then { d with state := .inProgress } else d) = y)
    (hv : y.state = .verified) : d = y := by
  split at hy
  · rw [← hy] at hv
    exact nomatch hv
  · exact hy

theorem State.choosePeer_bind_of_lowest {m : Nat} {d : DestRecord} (hd : c.dests[m]? = some d) (husable : s.peerUsable d = true)
    (hlow : ∀ (o : Nat) (y : DestRecord), c.dests[o]? = some y → s.peerUsable y = true →
      d.endpoint.key < y.endpoint.key ∨ d.endpoint.key = y.endpoint.key ∧ m ≤ o) :
    s.choosePeer c.bind = some (.peer d.endpoint m) := by
  have hverified := ((s.peerUsable_iff d).mp husable).1
  refine State.choosePeer_of_lowest ?_ husable fun o y hy huy => ?_
  · rw [ClipRecord.bind_getElem?, hd, Option.map_some, if_neg (by simp [hverified])]
  · obtain ⟨z, hz, hzy⟩ := Option.map_eq_some_iff.mp ((c.bind_getElem? o).symm.trans hy)
    have hsame := bind_verified hzy ((s.peerUsable_iff y).mp huy).1
    subst hsame
    exact hlow o z hz huy

theorem State.choosePeer_bind_eq_none (h : ∀ d ∈ c.dests, ¬ s.peerUsable d = true) : s.choosePeer c.bind = none := by
  refine State.choosePeer_eq_none fun y hy => ?_
  by_contra hu
  rw [Bool.not_eq_false] at hu
  obtain ⟨i, hi⟩ := List.getElem?_of_mem hy
  obtain ⟨z, hz, hzy⟩ := Option.map_eq_some_iff.mp ((c.bind_getElem? i).symm.trans hi)
  have hsame := bind_verified hzy ((s.peerUsable_iff y).mp hu).1
  subst hsame
  exact h z (List.mem_of_getElem? hz) hu

end

/-! ### Settlement (R56) -/

section
variable {s : State} {n : Nat}

@[simp] theorem State.settleJob_clip? (k : Nat) : (s.settleJob n).clip? k = s.clip? k := by simp [State.settleJob]
@[simp] theorem State.settleJob_channel (c : ChannelId) : (s.settleJob n).channel c = s.channel c := by simp [State.settleJob]
@[simp] theorem State.settleJob_offload : (s.settleJob n).offload = s.offload := by simp [State.settleJob]
@[simp] theorem State.settleJob_spotter : (s.settleJob n).spotter = s.spotter := by simp [State.settleJob]

@[simp] theorem State.trySettleJob_clip? (k : Nat) : (s.trySettleJob n).clip? k = s.clip? k := by
  unfold State.trySettleJob; split <;> [rfl; split <;> simp]
@[simp] theorem State.trySettleJob_channel (c : ChannelId) : (s.trySettleJob n).channel c = s.channel c := by
  unfold State.trySettleJob; split <;> [rfl; split <;> simp]
@[simp] theorem State.trySettleJob_offload : (s.trySettleJob n).offload = s.offload := by
  unfold State.trySettleJob; split <;> [rfl; split <;> simp]
@[simp] theorem State.trySettleJob_spotter : (s.trySettleJob n).spotter = s.spotter := by
  unfold State.trySettleJob; split <;> [rfl; split <;> simp]

/-- A bound clip that settles with no return noted (R56). -/
theorem State.settleClip_of_no_notes {c : ChannelId} {b : Binding} (hb : s.channel c = .bound b) (hnotes : b.notes = []) :
    s.settleClip c =
      (((s.withdrawAsks (Purpose.ofChannel c)).setChannel c b.afterSettling).settleRecord b.clip).trySettleJob b.job := by
  simp only [State.settleClip, State.binding?_of_bound hb, hnotes]
  rfl

theorem State.checkSettle_of_settled {c : ChannelId} {b : Binding} {x : ClipRecord} (hb : s.channel c = .bound b)
    (hx : s.clip? b.clip = some x) (hsettled : x.allSettled = true) : s.checkSettle c = s.settleClip c := by
  simp only [State.checkSettle, State.boundClip?_of_bound hb, hx, if_pos hsettled]

theorem State.checkSettle_of_not_settled {c : ChannelId} {b : Binding} {x : ClipRecord} (hb : s.channel c = .bound b)
    (hx : s.clip? b.clip = some x) (hsettled : ¬ x.allSettled = true) : s.checkSettle c = s := by
  simp only [State.checkSettle, State.boundClip?_of_bound hb, hx, if_neg hsettled]

end

/-! ### A binding without a usable data source (R96) -/

section
variable {s : State} {c : ChannelId} {b : Binding} {x : ClipRecord}

theorem State.failNoSource_eq (k : Nat) :
    s.failNoSource c k x = ((x.placesIn .inProgress).foldl (State.loseRecord k) s).checkSettle c := rfl

/-- What is left of a binding whose clip has no usable data source: its IN_PROGRESS records FAILED, its clip settled (R96). -/
theorem State.failNoSource_of_bound (hb : s.channel c = .bound b) (hx : s.clip? b.clip = some x) (hnotes : b.notes = [])
    (hhandle : b.handle = none) (hsome : ∃ d ∈ x.dests, d.state = .inProgress) (hnone : ∀ d ∈ x.dests, d.state ≠ .pending) :
    let y := x.loseAt (x.placesIn .inProgress)
    let u := s.failNoSource c b.clip x
    u.clip? b.clip = some { y with copyState := y.settledState } ∧ (∀ m, m ≠ b.clip → u.clip? m = s.clip? m) ∧
      u.channel c = .free ∧ (∀ a, a ≠ c → u.channel a = s.channel a) ∧ u.offload.lastJob = s.offload.lastJob ∧
      (s.spotter.log.length + (x.placesIn .inProgress).length ≤ 128 →
        u.spotter.log = s.spotter.log ++ (x.endpointsAt (x.placesIn .inProgress)).map (s.lossEntry b.clip)) := by
  intro y u
  have hplaces : ∀ d ∈ x.placesIn .inProgress, d < x.dests.length := fun d hd => x.lt_of_mem_placesIn _ hd
  obtain ⟨hclip, haside⟩ := foldl_loseRecord _ hx hplaces
  have hlog := foldl_loseRecord_log _ hx hplaces
  have hu : u = _ := State.failNoSource_eq b.clip
  generalize hv : (x.placesIn .inProgress).foldl (State.loseRecord b.clip) s = v at hclip haside hlog hu
  have hchannel (a : ChannelId) : v.channel a = s.channel a := by simp only [State.channel, haside.offload]
  have hbound : v.channel c = .bound b := (hchannel c).trans hb
  have hsettled : y.allSettled = true := by
    rw [ClipRecord.allSettled, List.all_eq_true, ClipRecord.loseAt_dests, ClipRecord.failedAt_placesIn]
    intro r hr
    obtain ⟨d, hd, rfl⟩ := List.mem_map.mp hr
    split
    · rfl
    · next hprogress =>
      have := hnone d hd
      cases hstate : d.state <;> simp_all [DestState.settled]
  have hafter : b.afterSettling = .free := by simp only [Binding.afterSettling, hhandle]
  rw [State.checkSettle_of_settled hbound hclip hsettled, State.settleClip_of_no_notes hbound hnotes, hafter,
    State.settleRecord] at hu
  clear_value u
  subst hu
  refine ⟨?_, fun m hm => ?_, ?_, fun a ha => ?_, ?_, fun hroom => ?_⟩
  · simp only [State.trySettleJob_clip?, State.clip?_modClip, if_true, State.setChannel_clip?, State.withdrawAsks_clip?, hclip,
      Option.map_some, y]
  · simp [State.clip?_modClip, Ne.symm hm, haside.clips m hm]
  · simp
  · simp [State.channel_setChannel_eq, ha, hchannel]
  · simp [State.setChannel, haside.offload]
  · simp [hlog hroom]

end

/-! ### The binding -/

section
variable {s : State} {c : ChannelId} {n k : Nat} {j : JobRecord} {x : ClipRecord}

theorem exec_channelBind_of_choice (hrun : s.running = true) (hengine : s.offload.state = .running)
    (hfree : s.freeChannel = some c) (hchoice : (circularFrom s.offload.lastJob).findSome? s.jobChoice = some (n, k)) :
    exec .channelBind s = .next (s.bindClip c n k).engineSettle := by
  have hexec : exec .channelBind s = .next s.arbitrate := exec_whenRunning (f := fun s => s.arbitrate) rfl hrun
  have harbiter : s.arbiterChoice = some (c, n, k) := by
    simp only [State.arbiterChoice, State.engineRuns, hengine, hfree, hchoice, beq_self_eq_true, if_true]
  rw [hexec]
  simp only [State.arbitrate, harbiter]

/-- The state in which a data source is chosen for a clip being bound (R55). -/
def State.binding (s : State) (n k : Nat) (x : ClipRecord) : State :=
  { s.setClip k (some x.bind) with offload := { (s.setClip k (some x.bind)).offload with lastJob := n } }

theorem State.binding_chooseSource : (s.binding n k x).chooseSource j x.bind =
    if j.standing = some .confirmed then some (.card j.source) else if x.fileCrc.isSome then s.choosePeer x.bind else none := rfl

theorem State.bindClip_of_source {source : DataSource} (hj : s.job? n = some j) (hx : s.clip? k = some x)
    (hsource : (s.binding n k x).chooseSource j x.bind = some source) :
    s.bindClip c n k = (s.binding n k x).setChannel c (.bound (Binding.start n k source x.bind.startLanes)) := by
  simp only [State.binding] at hsource
  simp only [State.bindClip, hj, hx, hsource, State.binding]

theorem State.bindClip_of_no_source (hj : s.job? n = some j) (hx : s.clip? k = some x)
    (hsource : (s.binding n k x).chooseSource j x.bind = none) :
    s.bindClip c n k =
      ((s.binding n k x).setChannel c (.bound (Binding.start n k (.card j.source) []))).failNoSource c k x.bind := by
  simp only [State.binding] at hsource
  simp only [State.bindClip, hj, hx, hsource, State.binding]

theorem State.eligible_iff (hx : s.clip? k = some x) :
    s.eligible k = true ↔ s.isBound k = false ∧ (x.fresh = true ∨ x.reseedWork = true) := by
  simp [State.eligible, State.clipIs, hx]

theorem State.pending_of_eligible (hx : s.clip? k = some x) (h : s.eligible k = true) : ∃ d ∈ x.dests, d.state = .pending := by
  obtain ⟨_, hwork⟩ := (State.eligible_iff hx).mp h
  rw [← x.anyIn_iff]
  rcases hwork with hwork | hwork
  · simp only [ClipRecord.fresh, Bool.and_eq_true] at hwork
    exact hwork.2
  · simp only [ClipRecord.reseedWork, Bool.and_eq_true] at hwork
    exact hwork.2

end

/-- The records of a clip as it is bound: those IN_PROGRESS were PENDING or IN_PROGRESS (R55). -/
theorem ClipRecord.bind_filter (x : ClipRecord) :
    (x.bind.dests.filter fun d => d.state == .inProgress).map (·.endpoint) =
      (x.dests.filter fun d => d.state == .pending || d.state == .inProgress).map (·.endpoint) := by
  show ((x.dests.map fun d => if d.state = .pending then { d with state := .inProgress } else d).filter
    fun d => d.state == .inProgress).map (·.endpoint) = _
  rw [List.filter_map, List.map_map]
  have hfilter : (x.dests.filter ((fun d : DestRecord => d.state == .inProgress) ∘
      fun d => if d.state = .pending then { d with state := .inProgress } else d)) =
      x.dests.filter fun d => d.state == .pending || d.state == .inProgress :=
    List.filter_congr fun d _ => by by_cases h : d.state = .pending <;> simp [h]
  rw [hfilter]
  refine List.map_congr_left fun d _ => ?_
  by_cases h : d.state = .pending <;> simp [h]

/-- A clip bound without a usable data source, settled (R96). -/
theorem ClipRecord.bind_loseAt {x : ClipRecord} (h : ∃ d ∈ x.dests, d.state = .pending) :
    let y := x.bind.loseAt (x.bind.placesIn .inProgress)
    { y with copyState := y.settledState } = { x with
      dests := x.dests.map fun d =>
        if d.state = .pending ∨ d.state = .inProgress then { d with state := .failed, reason := some .noSource } else d
      copyState := if ∃ d ∈ x.dests, d.state = .verified then .partialCopy else .failed
      copyFaults := min (x.copyFaults +
        (x.dests.filter fun d => d.state == .pending || d.state == .inProgress).length) 65535
      qc := if x.qc = .clean then .flagged else x.qc } := by
  intro y
  obtain ⟨d, hd, hpending⟩ := h
  have hsome : ∃ d ∈ x.bind.dests, d.state = .inProgress :=
    ⟨{ d with state := .inProgress }, List.mem_map.mpr ⟨d, hd, if_pos hpending⟩, rfl⟩
  have hy : y = _ := ClipRecord.loseAt_placesIn hsome
  have hdests : y.dests = x.dests.map fun d =>
      if d.state = .pending ∨ d.state = .inProgress then { d with state := .failed, reason := some .noSource } else d := by
    rw [hy]
    show (x.dests.map _).map _ = _
    rw [List.map_map]
    refine List.map_congr_left fun r _ => ?_
    by_cases h1 : r.state = .pending <;> simp [h1]
  have hcount : (x.bind.dests.filter fun d => d.state == .inProgress).length =
      (x.dests.filter fun d => d.state == .pending || d.state == .inProgress).length := by
    have := congrArg List.length x.bind_filter
    rwa [List.length_map, List.length_map] at this
  have hcopy : y.settledState = if ∃ d ∈ x.dests, d.state = .verified then .partialCopy else .failed := by
    have hnot : ¬ ∀ r ∈ y.dests, r.state = .verified := fun hall => by
      have hmem : ({ d with state := .failed, reason := some .noSource } : DestRecord) ∈ y.dests :=
        hdests ▸ List.mem_map.mpr ⟨d, hd, if_pos (Or.inl hpending)⟩
      exact nomatch hall _ hmem
    have hverified : (∃ r ∈ y.dests, r.state = .verified) ↔ ∃ r ∈ x.dests, r.state = .verified := by
      rw [hdests]
      simp only [List.mem_map, exists_exists_and_eq_and]
      refine exists_congr fun r => and_congr_right fun _ => ?_
      split
      · next h => rcases h with h | h <;> simp [h]
      · rfl
    rw [ClipRecord.settledState_eq, if_neg hnot]
    simp only [hverified]
  rw [hcopy]
  clear_value y
  subst hy
  rw [hdests, hcount]
  rfl

/-- Settles O33. -/
theorem channelBind : Obligations.ChannelBind := by
  intro s hrun open_
  refine ⟨fun hno => ?_, fun hengine c i j k x hfree hbefore hi => ?_⟩
  · have hexec : exec .channelBind s = .next s.arbitrate := exec_whenRunning (f := fun s => s.arbitrate) rfl hrun
    have hchoice : s.arbiterChoice = none := by
      rcases hno with hno | hno
      · have hnone := State.freeChannel_eq_none hno
        simp only [State.arbiterChoice, hnone, ite_self]
      · have hnone : (circularFrom s.offload.lastJob).findSome? s.jobChoice = none :=
          List.findSome?_eq_none_iff.mpr fun n hn => State.jobChoice_eq_none fun j ho => hno n j (mem_circularFrom hn) ho
        cases hfree : s.freeChannel <;> simp only [State.arbiterChoice, hnone, hfree, ite_self]
    rw [hexec]
    simp only [State.arbitrate, hchoice]
  · intro turn hopen hearlier hclips hk hx dests t boundFrom usable
    obtain ⟨before, after, hlist, hskipped⟩ := hclips
    have hchoice : s.jobChoice (turn i) = some (turn i, k) := State.jobChoice_of_first hopen hlist hskipped hk
    have hexec := exec_channelBind_of_choice hrun hengine (State.freeChannel_of_first hfree hbefore)
      (findSome?_circularFrom hi hchoice fun m hm => State.jobChoice_eq_none fun y ho => hearlier m hm y ho)
    have hpending := State.pending_of_eligible hx hk
    have husable (d : DestRecord) : s.peerUsable d = true ↔ usable d := s.peerUsable_iff d
    have hsource : (s.binding (turn i) k x).chooseSource j x.bind = _ := State.binding_chooseSource
    refine ⟨fun hconfirmed => ?_, fun hpeer => ⟨fun m d hcrc hd hud hlow => ?_, fun hnone => ?_⟩⟩
    · rw [if_pos hconfirmed] at hsource
      rw [hexec, State.bindClip_of_source hopen.1 hx hsource]
      rfl
    · have hlowest := State.choosePeer_bind_of_lowest hd ((husable d).mpr hud) fun o y hy huy => hlow o y hy ((husable y).mp huy)
      rw [if_neg (by simp [hpeer]), if_pos (Option.isSome_iff_ne_none.mpr hcrc), hlowest] at hsource
      rw [hexec, State.bindClip_of_source hopen.1 hx hsource]
      rfl
    · have hno : (if x.fileCrc.isSome then s.choosePeer x.bind else none) = none := by
        rcases hnone with hnone | hnone
        · rw [hnone]
          rfl
        · rw [State.choosePeer_bind_eq_none fun d hd hu => hnone d hd ((husable d).mp hu), ite_self]
      rw [if_neg (by simp [hpeer]), hno] at hsource
      have hbound : ((s.binding (turn i) k x).setChannel c
          (.bound (Binding.start (turn i) k (.card j.source) []))).channel c = _ := State.channel_setChannel ..
      have hclip : ((s.binding (turn i) k x).setChannel c
          (.bound (Binding.start (turn i) k (.card j.source) []))).clip? k = some x.bind := by
        show (s.setClip k (some x.bind)).clip? k = _
        rw [State.clip?_setClip, if_pos ⟨rfl, State.clip?_lt hx⟩]
      have hprogress : ∃ d ∈ x.bind.dests, d.state = .inProgress := by
        obtain ⟨d, hd, hp⟩ := hpending
        exact ⟨{ d with state := .inProgress }, List.mem_map.mpr ⟨d, hd, if_pos hp⟩, rfl⟩
      have hleft : ∀ d ∈ x.bind.dests, d.state ≠ .pending := by
        intro r hr
        obtain ⟨d, hd, rfl⟩ := List.mem_map.mp hr
        by_cases hp : d.state = .pending <;> simp [hp]
      obtain ⟨hk', hothers, hc', hchannels, hlast, hlog⟩ := State.failNoSource_of_bound hbound hclip rfl rfl hprogress hleft
      have hbind := State.bindClip_of_no_source (c := c) hopen.1 hx hsource
      refine ⟨_, hexec.trans (congrArg (fun v : State => Host.Outcome.next v.engineSettle) hbind), hc',
        fun b hb => ?_, hlast, fun n hn => ?_, ?_,
        fun hroom => ?_⟩
      · refine (hchannels b hb).trans ?_
        rw [State.channel_setChannel_eq, if_neg hb]
        rfl
      · refine (hothers n hn).trans ?_
        show (s.setClip k (some x.bind)).clip? n = _
        rw [State.clip?_setClip, if_neg fun h => hn h.1.symm]
      · exact hk'.trans (congrArg some (ClipRecord.bind_loseAt hpending))
      · have hcount : (x.bind.placesIn .inProgress).length =
            (x.dests.filter fun d => d.state == .pending || d.state == .inProgress).length := by
          have := congrArg List.length x.bind_filter
          rwa [List.length_map, List.length_map, ← ClipRecord.placesIn_length] at this
        refine (hlog (by rw [hcount]; exact hroom)).trans ?_
        rw [ClipRecord.endpointsAt_placesIn, x.bind_filter, List.map_map]
        rfl

end Sys2Proof.Machine
end

section
/-!
The deferral of records (R91, R93), whose statement is too wide in the kind of fault that a deferral files.
-/

namespace Sys2Proof.Machine

/-- The destination of the copy below. -/
def copyDisk : EpName := ⟨2, 1⟩

/-- An ACTIVE job of one clip. -/
def copyJob : JobRecord where
  source := ⟨1, 1⟩
  dests := [⟨copyDisk, [65]⟩]
  clips := [0]
  limit := 2
  reseed := false
  state := .active
  suspend := none
  medium := none
  standing := none

/-- The clip of `copyJob`, its one record IN_PROGRESS and no fault counted. -/
def copyClip : ClipRecord where
  job := 0
  cameraTag := 3
  fileId := 77
  name := [90]
  size := 10
  expectedFrames := none
  look := none
  copyState := .copying
  hashed := 0
  register := 0xFFFFFFFFFFFFFFFF#64
  fileCrc := none
  dests := [⟨copyDisk, .inProgress, 0, 0, none⟩]
  qc := .unchecked
  framesSeen := 0
  highestFrame := none
  copyFaults := 0
  pictureFaults := 0
  timingFaults := 0
  currentStreams := #v[false, false]

/-- A part with one copy under way and no channel bound. -/
def unboundCopy : State := (State.reset.setJob 0 (some copyJob)).setClip 0 (some copyClip)

theorem unboundCopy_facts :
    (∀ c : ChannelId, unboundCopy.channel c = .free) ∧ unboundCopy.job? 0 = some copyJob ∧
    unboundCopy.clip? 0 = some copyClip := by decide +kernel

/-- A deferral that files a picture fault counts it among the clip's picture faults (R34). -/
theorem unboundCopy_pictureFaults :
    ((unboundCopy.deferRecords (· == copyDisk) (some .lineGap)).clip? 0).map (·.pictureFaults) = some 1 := by decide +kernel

/-- Refutes O30: the statement lets a deferral file a fault of any kind, and says that of a clip's counts only the one of
copy faults changes; a LINE_GAP, which no drain and no loss files, is counted among the picture faults. (Drains file nothing
and losses ENDPOINT_LOST, which is a copy fault.) -/
theorem not_drainDefers : ¬ Obligations.DrainDefers := by
  intro h
  obtain ⟨hfree, hjob, hclip⟩ := unboundCopy_facts
  obtain ⟨hclips, -⟩ := h.2.1 unboundCopy (· == copyDisk) (some .lineGap) hfree
  obtain ⟨c', hc', heq, -⟩ := hclips 0 _ 0 _ hjob (by decide) (by decide) hclip
  have hcount := unboundCopy_pictureFaults
  rw [hc', heq] at hcount
  exact absurd (show copyClip.pictureFaults = 1 from Option.some.inj hcount) (by decide)

end Sys2Proof.Machine
end

section
/-!
The engine's state, the extent buffer pool, and what the engine's asks leave alone (R62, R63, R72).
-/

namespace Sys2Proof.Machine

/-! ### The engine state (R62) -/

section
variable {s : State}

theorem State.refreshEngine_paused (h : s.offload.paused = true) :
    s.refreshEngine.offload.state = quiescence s.askCount ∧
      s.refreshEngine.offload.resumeTimer = if s.offload.state = .resuming then none else s.offload.resumeTimer := by
  unfold State.refreshEngine
  cases hstate : s.offload.state <;> simp [h, hstate]

theorem State.refreshEngine_unpaused (h : s.offload.paused = false) (hstate : s.offload.state = .running ∨ s.offload.state = .resuming) :
    s.refreshEngine = s := by
  unfold State.refreshEngine
  rcases hstate with hstate | hstate <;> simp [h, hstate]

theorem State.refreshEngine_resumes (h : s.offload.paused = false)
    (hstate : ¬ (s.offload.state = .running ∨ s.offload.state = .resuming)) :
    s.refreshEngine.offload.state = .resuming ∧
      s.refreshEngine.offload.resumeTimer = some (s.supply.timeBase + if s.supply.options.resumeLong then 50000 else 1000) := by
  have htime : s.later (resumeDelayUs s.supply.options) =
      s.supply.timeBase + if s.supply.options.resumeLong then 50000 else 1000 := by
    simp only [State.later, State.now, resumeDelayUs]
    split <;> rfl
  unfold State.refreshEngine
  cases hs : s.offload.state <;> simp_all

theorem State.refreshEngine_link : s.refreshEngine.link = s.link := by
  unfold State.refreshEngine
  dsimp only
  split <;> rfl

theorem State.refreshEngine_paused_eq : s.refreshEngine.offload.paused = s.offload.paused := by
  unfold State.refreshEngine
  dsimp only
  split <;> rfl

theorem State.askCount_congr {t : State} (h : t.link = s.link) : t.askCount = s.askCount := by
  simp only [State.askCount, h]

theorem OffloadEngine.paused_iff (e : OffloadEngine) : e.paused = true ↔ e.pauseSupply = true ∨ e.pauseOperator = true := by
  simp [OffloadEngine.paused]

theorem State.paused_of_fixed {t : State} (h : t.fixed = s.fixed) : t.offload.paused = s.offload.paused := by
  have hsupply : t.offload.pauseSupply = s.offload.pauseSupply := congrArg Fixed.pauseSupply h
  have hoperator : t.offload.pauseOperator = s.offload.pauseOperator := congrArg Fixed.pauseOperator h
  simp only [OffloadEngine.paused, hsupply, hoperator]

/-- A refresh of the engine, its asks, and a second refresh (R16, R62). -/
theorem State.engineSettle_split (s : State) :
    ∃ u : State, u.fixed = s.refreshEngine.fixed ∧ s.engineSettle = u.refreshEngine.refreshPool := by
  have h1 : ∀ (l : List Nat) (t : State), (l.foldl (fun s n => s.pumpIdentify n) t).fixed = t.fixed :=
    foldl_fixed _ fun _ _ => pumpIdentify_fixed _ _
  have h2 : ∀ (l : List ChannelId) (t : State), (l.foldl (fun s c => s.pumpChannel c) t).fixed = t.fixed :=
    foldl_fixed _ fun _ _ => pumpChannel_fixed _ _
  exact ⟨_, by rw [h2, h1], rfl⟩

/-- The engine state and the resume timer at the end of a step (R62). -/
theorem State.engineSettle_engine (s : State) :
    let t := s.engineSettle
    if s.offload.pauseSupply = true ∨ s.offload.pauseOperator = true then
      t.offload.state = (if t.askCount = 0 then .quiesced else .quiescing) ∧
        (s.offload.state = .resuming → t.offload.resumeTimer = none)
    else if s.offload.state = .running ∨ s.offload.state = .resuming then
      t.offload.state = s.offload.state ∧ t.offload.resumeTimer = s.offload.resumeTimer
    else
      t.offload.state = .resuming ∧
        t.offload.resumeTimer = some (s.supply.timeBase + if s.supply.options.resumeLong then 50000 else 1000) := by
  obtain ⟨u, hu, hsettle⟩ := s.engineSettle_split
  rw [hsettle]
  intro t
  have hcount : t.askCount = u.askCount := State.askCount_congr (s := u) u.refreshEngine_link
  have hpaused : u.offload.paused = s.offload.paused := (State.paused_of_fixed hu).trans State.refreshEngine_paused_eq
  have hstate : u.offload.state = s.refreshEngine.offload.state := congrArg Fixed.engine hu
  have htimer : u.offload.resumeTimer = s.refreshEngine.offload.resumeTimer := congrArg Fixed.resumeTimer hu
  have htstate : t.offload.state = u.refreshEngine.offload.state := rfl
  have httimer : t.offload.resumeTimer = u.refreshEngine.offload.resumeTimer := rfl
  rw [htstate, httimer, hcount]
  by_cases hp : s.offload.paused = true
  · rw [if_pos (s.offload.paused_iff.mp hp)]
    obtain ⟨hfirst, hfirstTimer⟩ := State.refreshEngine_paused hp
    obtain ⟨hlast, hlastTimer⟩ := State.refreshEngine_paused (s := u) (hpaused.trans hp)
    refine ⟨hlast, fun hresuming => ?_⟩
    have hnot : u.offload.state ≠ .resuming := by
      rw [hstate, hfirst, quiescence]
      split <;> simp
    rw [hlastTimer, if_neg hnot, htimer, hfirstTimer, if_pos hresuming]
  · rw [if_neg fun h => hp (s.offload.paused_iff.mpr h)]
    rw [Bool.not_eq_true] at hp
    by_cases hs : s.offload.state = .running ∨ s.offload.state = .resuming
    · rw [if_pos hs]
      rw [State.refreshEngine_unpaused hp hs] at hstate htimer
      rw [State.refreshEngine_unpaused (s := u) (hpaused.trans hp) (by rw [hstate]; exact hs)]
      exact ⟨hstate, htimer⟩
    · rw [if_neg hs]
      obtain ⟨hfirst, hfirstTimer⟩ := State.refreshEngine_resumes hp hs
      rw [State.refreshEngine_unpaused (s := u) (hpaused.trans hp) (by rw [hstate]; exact Or.inr hfirst)]
      exact ⟨hstate.trans hfirst, htimer.trans hfirstTimer⟩

end

/-! ### Who needs a buffer (R72) -/

section
variable {s : State}

theorem ClipRecord.lowestPrefix_any (x : ClipRecord) (n : Nat) :
    x.lowestPrefix.any (fun v => v ≤ n) = true ↔ ∃ d ∈ x.dests, d.state = .inProgress ∧ d.verified ≤ n := by
  have hmem (v : Nat) : v ∈ x.lanePrefixes ↔ ∃ d ∈ x.dests, d.state = .inProgress ∧ d.verified = v := by
    simp [ClipRecord.lanePrefixes, and_assoc]
  rw [ClipRecord.lowestPrefix]
  cases hmin : x.lanePrefixes.min? with
  | none =>
    rw [List.min?_eq_none_iff] at hmin
    refine iff_of_false (by simp) ?_
    rintro ⟨d, hd, hstate, _⟩
    have := (hmem d.verified).mpr ⟨d, hd, hstate, rfl⟩
    rw [hmin] at this
    exact List.not_mem_nil this
  | some v =>
    obtain ⟨hv, hle⟩ := List.min?_eq_some_iff.mp hmin
    simp only [Option.any_some, decide_eq_true_iff]
    constructor
    · intro hn
      obtain ⟨d, hd, hstate, rfl⟩ := (hmem v).mp hv
      exact ⟨d, hd, hstate, hn⟩
    · rintro ⟨d, hd, hstate, hn⟩
      exact (hle d.verified ((hmem _).mpr ⟨d, hd, hstate, rfl⟩)).trans hn

theorem DataSource.isPeer_iff (x : DataSource) : x.isPeer = true ↔ ∃ e i, x = .peer e i := by
  cases x <;> simp [DataSource.isPeer]

theorem Binding.checking_iff (b : Binding) : b.checking = true ↔ (∃ e i, b.source = .peer e i) ∧ b.peerNext < b.readPos := by
  rw [Binding.checking, Bool.and_eq_true, DataSource.isPeer_iff, decide_eq_true_iff]

/-- Whether a binding needs a buffer (R72, R97). -/
theorem Binding.wantsBuffer_iff (b : Binding) (x : ClipRecord) :
    b.wantsBuffer x = true ↔ b.handle ≠ none ∧ b.reading = false ∧ b.lanes ≠ [] ∧
      b.readPos < (x.size + 4194303) / 4194304 ∧ (∃ d ∈ x.dests, d.state = .inProgress ∧ d.verified ≤ b.readPos) ∧
      (∀ h ∈ b.held, h.extent ≠ b.readPos) ∧ b.held.length < 6 ∧ ((∃ e i, b.source = .peer e i) → b.readPos ≤ b.peerNext) := by
  have hchecking : (!b.checking) = true ↔ ((∃ e i, b.source = .peer e i) → b.readPos ≤ b.peerNext) := by
    rw [Bool.not_eq_true', ← Bool.not_eq_true, Binding.checking_iff, not_and, Nat.not_lt]
  have hheld : (!b.held.any fun h => h.extent == b.readPos) = true ↔ ∀ h ∈ b.held, h.extent ≠ b.readPos := by
    simp
  have hhandle : b.handle.isSome = true ↔ b.handle ≠ none := Option.isSome_iff_ne_none
  have hlanes : (!b.lanes.isEmpty) = true ↔ b.lanes ≠ [] := by simp
  have hposition : decide (b.readPos < x.extents) = true ↔ b.readPos < (x.size + 4194303) / 4194304 := decide_eq_true_iff
  have hroom : decide (b.held.length < Config.heldLimit) = true ↔ b.held.length < 6 := decide_eq_true_iff
  simp only [Binding.wantsBuffer, Bool.and_eq_true, x.lowestPrefix_any, hchecking, hheld, hhandle, hlanes, hposition, hroom,
    Bool.not_eq_true']
  constructor
  · rintro ⟨⟨⟨⟨⟨⟨⟨hpos, hl⟩, hlow⟩, hreading⟩, hnone⟩, hlen⟩, hopen⟩, hcheck⟩
    exact ⟨hopen, hreading, hl, hpos, hlow, hnone, hlen, hcheck⟩
  · rintro ⟨hopen, hreading, hl, hpos, hlow, hnone, hlen, hcheck⟩
    exact ⟨⟨⟨⟨⟨⟨⟨hpos, hl⟩, hlow⟩, hreading⟩, hnone⟩, hlen⟩, hopen⟩, hcheck⟩

theorem State.engineRuns_iff : s.engineRuns = true ↔ s.offload.state = .running := by simp [State.engineRuns]

theorem State.needsBuffer_iff (c : ChannelId) : s.needsBuffer c = true ↔
    ∃ b x, s.channel c = .bound b ∧ s.clip? b.clip = some x ∧ s.offload.state = .running ∧ b.wantsBuffer x = true := by
  unfold State.needsBuffer
  cases hb : s.binding? c with
  | none =>
    refine iff_of_false (by simp) ?_
    rintro ⟨b, x, hc, _⟩
    rw [State.binding?_of_bound hc] at hb
    exact nomatch hb
  | some b =>
    have hc := State.binding?_eq_some.mp hb
    rw [State.boundClip?_of_bound hc]
    cases hx : s.clip? b.clip with
    | none =>
      refine iff_of_false (by simp) ?_
      rintro ⟨b', x, hc', hx', _⟩
      rw [hc, Channel.bound.injEq] at hc'
      rw [← hc', hx] at hx'
      exact nomatch hx'
    | some x =>
      simp only [Bool.and_eq_true, State.engineRuns_iff]
      constructor
      · rintro ⟨hrun, hwants⟩
        exact ⟨b, x, hc, hx, hrun, hwants⟩
      · rintro ⟨b', x', hc', hx', hrun, hwants⟩
        rw [hc, Channel.bound.injEq] at hc'
        subst hc'
        rw [hx, Option.some.injEq] at hx'
        subst hx'
        exact ⟨hrun, hwants⟩

/-! ### The pool serves in turn (R72) -/

theorem State.giveBuffer_of_none (h : s.bufferChoice = none) : s.giveBuffer = s := by simp only [State.giveBuffer, h]

theorem State.bufferChoice_of_not_running (h : s.offload.state ≠ .running) : s.bufferChoice = none := by
  rw [State.bufferChoice, if_neg]
  simp [State.engineRuns, h]

theorem exec_bufferTake (hrun : s.running = true) : exec .bufferTake s = .next s.giveBuffer :=
  exec_whenRunning (f := fun s => s.giveBuffer) rfl hrun

/-- While the engine is not RUNNING it takes nothing up (R63). -/
theorem exec_of_engine_not_running (hrun : s.running = true) (h : s.offload.state ≠ .running) :
    exec .bufferTake s = .next s ∧ exec .channelBind s = .next s ∧ ∀ n, exec (.jobActivation n) s = .next s := by
  have hengine : ¬ s.engineRuns = true := fun he => h (State.engineRuns_iff.mp he)
  refine ⟨?_, ?_, fun n => ?_⟩
  · rw [exec_bufferTake hrun, State.giveBuffer_of_none (State.bufferChoice_of_not_running h)]
  · have hchoice : s.arbiterChoice = none := by rw [State.arbiterChoice, if_neg hengine]
    rw [exec_whenRunning (c := .channelBind) (f := fun s => s.arbitrate) rfl hrun]
    simp only [State.arbitrate, hchoice]
  · rw [exec_whenRunning (c := .jobActivation n) (f := fun s => s.activateJob n) rfl hrun]
    unfold State.activateJob
    split
    · rfl
    · next j hj => rw [if_neg fun hm => h ((State.mayActivate_iff hj).mp hm).2.2.1]

end

/-- Settles O27. -/
theorem engineStateAndBuffers : Obligations.EngineStateAndBuffers := by
  refine ⟨fun s => ?_, fun s => ⟨fun c => ?_, rfl⟩, fun s hrun => ⟨fun hno => ?_, ?_, fun hnone => ?_, fun time htime => ?_⟩⟩
  · intro t
    have hfixed : t.fixed = _ := engineSettle_fixed s
    have hengine := s.engineSettle_engine
    have ht : s.engineSettle = t := rfl
    rw [ht] at hengine
    clear_value t
    have hports (p : Port) : (t.port p).fixed = (s.port p).fixed := by
      have h : (t.link.ports.map PortState.fixed)[p] = (s.link.ports.map PortState.fixed)[p] :=
        congrArg (fun x : Fixed => x.ports[p]) hfixed
      simpa [State.port] using h
    refine ⟨hengine, fun p => ?_, ?_, congrArg Fixed.requests hfixed, congrArg Fixed.served hfixed, congrArg Fixed.notice hfixed,
      congrArg Fixed.softRestart hfixed, congrArg Fixed.noticePort hfixed, congrArg Fixed.admission hfixed,
      congrArg Fixed.look hfixed, congrArg Fixed.review hfixed, congrArg Fixed.spotters hfixed, congrArg Fixed.defectMap hfixed,
      congrArg Fixed.holds hfixed, congrArg Fixed.supply hfixed, congrArg Fixed.pending hfixed, congrArg Fixed.freeCount hfixed,
      exec_of_engine_not_running⟩
    · have h := hports p
      exact ⟨congrArg FixedPort.link h, congrArg FixedPort.roles h, congrArg FixedPort.receive h, congrArg FixedPort.send h,
        congrArg FixedPort.creditDue h, congrArg FixedPort.creditTimer h, congrArg FixedPort.lastServed h,
        congrArg FixedPort.transmitting h, congrArg FixedPort.wire h⟩
    · have h : t.link.endpoints = s.link.endpoints := congrArg Fixed.endpoints hfixed
      rw [h]
  · rw [State.needsBuffer_iff]
    simp only [Binding.wantsBuffer_iff]
  · rw [exec_bufferTake hrun, State.giveBuffer_of_none]
    rw [State.bufferChoice]
    split
    · next h =>
      rw [Bool.and_eq_true, decide_eq_true_iff] at h
      rcases hno with hno | hno
      · exact absurd h.2 (Nat.not_lt.mpr hno)
      · exact List.find?_eq_none.mpr fun c hc => by simp [hno c hc]
    · rfl
  · intro hengine hroom c before after b x hlist hbefore hneeds hb hx
    have hmay : (s.engineRuns && decide (s.buffersHeld < Config.extentBuffers)) = true := by
      rw [Bool.and_eq_true, decide_eq_true_iff]
      exact ⟨State.engineRuns_iff.mpr hengine, hroom⟩
    have hchoice : s.bufferChoice = some c := by
      rw [State.bufferChoice, if_pos hmay, List.find?_eq_some_iff_append]
      exact ⟨hneeds, before, after, hlist, fun d hd => by simp [hbefore d hd]⟩
    rw [exec_bufferTake hrun]
    simp only [State.giveBuffer, hchoice, State.boundClip?_of_bound hb, hx, State.modBinding_of_bound hb]
    rfl
  · rw [exec_whenRunning (c := .resumeTimerExpiry) (f := fun s => s.resumeEngine) rfl hrun]
    simp only [State.resumeEngine, hnone]
  · rw [exec_whenRunning (c := .resumeTimerExpiry) (f := fun s => s.resumeEngine) rfl hrun]
    simp only [State.resumeEngine, htime, State.advanceTo_offload]

end Sys2Proof.Machine
end

section
/-!
Which asks the engine makes, and when (R51, R56, R68, R70, R74, R78, R80, R84, R90, R97, R98).
-/

namespace Sys2Proof.Machine

section
variable {s : State} {c : ChannelId}

/-! ### IDENTIFY (R51) -/

theorem State.pumpIdentifyOnce_of_some {n : Nat} {j : JobRecord} (hj : s.job? n = some j) :
    s.pumpIdentifyOnce n =
      if s.offload.state = .running ∧ j.state = .identifying ∧ (s.identifyOf n).asked = false ∧ ¬ s.draining j.source = true then
        (s.setIdentify n ⟨(s.identifyOf n).attempts + 1, true⟩).ask ⟨j.source, .identify n, .identify⟩
      else s := by
  have hmay : (j.state = .identifying && !(s.identifyOf n).asked && s.engineRuns && !s.draining j.source) = true ↔
      s.offload.state = .running ∧ j.state = .identifying ∧ (s.identifyOf n).asked = false ∧ ¬ s.draining j.source = true := by
    simp only [Bool.and_eq_true, decide_eq_true_iff, Bool.not_eq_true', State.engineRuns_iff, Bool.not_eq_true]
    tauto
  simp only [State.pumpIdentifyOnce, hj, hmay]

/-! ### The data source's asks (R68, R74, R97, R98) -/

section
variable {b : Binding} {x : ClipRecord}

theorem State.mayOpen_iff : s.mayOpen b = true ↔
    s.offload.state = .running ∧ b.handle = none ∧ b.opening = false ∧ ¬ s.draining b.source.endpoint = true := by
  simp [State.mayOpen, State.engineRuns_iff, and_assoc]

theorem State.pumpOpen_of_bound (hb : s.channel c = .bound b) (hx : s.clip? b.clip = some x) {j : JobRecord}
    (hj : s.job? b.job = some j) :
    s.pumpOpen c =
      if s.offload.state = .running ∧ b.handle = none ∧ b.opening = false ∧ ¬ s.draining b.source.endpoint = true then
        (s.setChannel c (.bound { b with opening := true, openAttempts := b.openAttempts + 1 })).ask
          ⟨b.source.endpoint, .openSource c, openingBody j x b⟩
      else s := by
  simp only [State.pumpOpen, State.binding?_of_bound hb, State.boundClip?_of_bound hb, hx, hj, State.modBinding_of_bound hb,
    State.mayOpen_iff]

theorem Binding.bufferReady_iff (b : Binding) : b.bufferReady = true ↔ ∃ z ∈ b.held, z.extent = b.readPos ∧ z.phase = .reading := by
  simp [Binding.bufferReady]

theorem State.pumpRead_of_bound (hb : s.channel c = .bound b) (hx : s.clip? b.clip = some x) {h : Word32}
    (hh : b.handle = some h) :
    s.pumpRead c =
      if s.offload.state = .running ∧ b.reading = false ∧ b.lanes ≠ [] ∧ ¬ s.draining b.source.endpoint = true then
        if b.checking = true then
          (s.setChannel c (.bound { b with reading := true })).ask ⟨b.source.endpoint, .checkRead c, readBody h x b.peerNext⟩
        else if b.bufferReady = true then
          (s.setChannel c (.bound { b with reading := true })).ask ⟨b.source.endpoint, .readSource c, readBody h x b.readPos⟩
        else s
      else s := by
  have hmay : (!s.engineRuns || b.reading || b.lanes.isEmpty || s.draining b.source.endpoint) = true ↔
      ¬ (s.offload.state = .running ∧ b.reading = false ∧ b.lanes ≠ [] ∧ ¬ s.draining b.source.endpoint = true) := by
    simp only [Bool.or_eq_true, Bool.not_eq_true', ← Bool.not_eq_true, State.engineRuns_iff, List.isEmpty_iff]
    tauto
  simp only [State.pumpRead, State.binding?_of_bound hb, State.boundClip?_of_bound hb, hx, hh, State.modBinding_of_bound hb,
    hmay, ite_not]

theorem State.pumpRead_of_no_handle (hb : s.channel c = .bound b) (hx : s.clip? b.clip = some x) (hh : b.handle = none) :
    s.pumpRead c = s := by
  simp only [State.pumpRead, State.binding?_of_bound hb, State.boundClip?_of_bound hb, hx, hh]

end

/-! ### The lanes' asks (R70, R78, R80, R84, R98) -/

section
variable {d : Nat} {v : LaneView}

theorem State.mayCreate_iff : s.mayCreate v = true ↔
    v.bind.handle ≠ none ∧ v.lane.handle = none ∧ v.lane.creating = false ∧ ¬ s.draining v.record.endpoint = true := by
  simp [State.mayCreate, Option.isSome_iff_ne_none, and_assoc]

theorem State.pumpCreate_of_view (hv : s.laneView? c d = some v) {j : JobRecord} {y : Destination} (hj : s.job? v.bind.job = some j)
    (hy : j.dests[d]? = some y) (hmay : s.mayCreate v = true) :
    s.pumpCreate c d = (s.modLane c d fun z => { z with creating := true }).ask
      ⟨v.record.endpoint, .create c d, .create (if v.record.verified = 0 then .new else .resume) y.root v.clip.name⟩ := by
  simp only [State.pumpCreate, hv, if_pos hmay, hj, Option.bind_some, hy, Option.elim_some]
  rfl

theorem State.pumpCreate_of_not_may (hv : s.laneView? c d = some v) (hmay : ¬ s.mayCreate v = true) : s.pumpCreate c d = s := by
  simp only [State.pumpCreate, hv, if_neg hmay]

theorem LaneView.mayVerify_iff (v : LaneView) : v.mayVerify = true ↔
    v.record.verified < v.clip.extents ∧ v.record.verified < v.lane.writePos ∧ v.lane.rewrite ≠ some v.record.verified ∧
      v.lane.verify = none ∧ ∀ reason, v.lane.heldFailure ≠ some (v.record.verified, reason) := by
  have hheld : v.lane.heldFailure.map (·.1) ≠ some v.record.verified ↔
      ∀ reason, v.lane.heldFailure ≠ some (v.record.verified, reason) := by
    cases v.lane.heldFailure with
    | none => simp
    | some f =>
      obtain ⟨k, reason⟩ := f
      simp
  rw [← hheld]
  simp [LaneView.mayVerify, and_assoc]

theorem State.pumpVerify_of_view (hv : s.laneView? c d = some v) {h : Word32} (hh : v.lane.handle = some h) :
    s.pumpVerify c d =
      if v.mayVerify = true ∧ ¬ s.draining v.record.endpoint = true then
        (s.modLane c d fun z => { z with verify := some v.record.verified }).ask
          ⟨v.record.endpoint, .verify c d v.record.verified, readBody h v.clip v.record.verified⟩
      else s := by
  simp only [State.pumpVerify, hv, hh, Bool.and_eq_true, Bool.not_eq_true', Bool.not_eq_true]

theorem State.pumpVerify_of_no_handle (hv : s.laneView? c d = some v) (hh : v.lane.handle = none) : s.pumpVerify c d = s := by
  simp only [State.pumpVerify, hv, hh]

theorem State.pumpWrite_of_view (hv : s.laneView? c d = some v) {h : Word32} (hh : v.lane.handle = some h) {k : Nat}
    {data : List Byte} (hchoice : v.writeChoice = some (k, data)) :
    s.pumpWrite c d =
      if v.lane.write = none ∧ ¬ s.draining v.record.endpoint = true then
        (s.modLane c d fun z => { z with write := some k }).ask
          ⟨v.record.endpoint, .write c d k, .write h (k * Config.extentBytes) data⟩
      else s := by
  simp only [State.pumpWrite, hv, hh, hchoice, Bool.and_eq_true, Bool.not_eq_true', Bool.not_eq_true, Option.isNone_iff_eq_none]

theorem State.pumpWrite_of_no_handle (hv : s.laneView? c d = some v) (hh : v.lane.handle = none) : s.pumpWrite c d = s := by
  simp only [State.pumpWrite, hv, hh]

theorem State.pumpWrite_of_no_choice (hv : s.laneView? c d = some v) (hchoice : v.writeChoice = none) : s.pumpWrite c d = s := by
  cases hh : v.lane.handle <;> simp only [State.pumpWrite, hv, hchoice, hh]

theorem LaneView.mayClose_iff (v : LaneView) : v.mayClose = true ↔
    v.record.verified = v.clip.extents ∧ ((∃ q i, v.bind.source = .peer q i) → v.bind.peerNext = v.clip.extents) ∧
      v.lane.write = none ∧ v.lane.closing = false := by
  have hpeer : (!v.bind.source.isPeer || v.bind.peerNext == v.clip.extents) = true ↔
      ((∃ q i, v.bind.source = .peer q i) → v.bind.peerNext = v.clip.extents) := by
    rw [Bool.or_eq_true, Bool.not_eq_true', ← Bool.not_eq_true, DataSource.isPeer_iff, beq_iff_eq, imp_iff_not_or]
  rw [← hpeer]
  simp [LaneView.mayClose, LaneView.allVerified, and_assoc]

theorem State.pumpClose_of_view (hv : s.laneView? c d = some v) {h : Word32} (hh : v.lane.handle = some h) :
    s.pumpClose c d =
      if v.mayClose = true ∧ ¬ s.draining v.record.endpoint = true then
        (s.modLane c d fun z => { z with closing := true }).ask ⟨v.record.endpoint, .closeLane c d, .close h⟩
      else s := by
  simp only [State.pumpClose, hv, hh, Bool.and_eq_true, Bool.not_eq_true', Bool.not_eq_true]

theorem State.pumpClose_of_no_handle (hv : s.laneView? c d = some v) (hh : v.lane.handle = none) : s.pumpClose c d = s := by
  simp only [State.pumpClose, hv, hh]

end

/-! ### The bytes of a WRITE (R78) -/

/-- Whether a held entry gives the bytes of extent `k` (R78). -/
def HeldExtent.gives (y : HeldExtent) (k : Nat) : Prop := y.extent = k ∧ y.phase ≠ .reading

theorem HeldExtent.not_gives (z : HeldExtent) (k : Nat) (h : ¬ z.gives k) :
    (if z.extent = k then
      match z.phase with
      | .reading => none
      | .read _ data => some data
    else none : Option (List Byte)) = none := by
  split
  · next hk =>
    cases hp : z.phase with
    | reading => rfl
    | read crc data => exact absurd ⟨hk, by simp [hp]⟩ h
  · rfl

theorem Binding.dataOf_eq_none {b : Binding} {k : Nat} (h : ∀ y ∈ b.held, ¬ y.gives k) : b.dataOf k = none := by
  rw [Binding.dataOf, List.findSome?_eq_none_iff]
  exact fun y hy => y.not_gives k (h y hy)

theorem Binding.dataOf_of_first {b : Binding} {k : Nat} {before after : List HeldExtent} {y : HeldExtent} {crc : Word64}
    {data : List Byte} (hlist : b.held = before ++ y :: after) (hbefore : ∀ z ∈ before, ¬ z.gives k) (hk : y.extent = k)
    (hphase : y.phase = .read crc data) : b.dataOf k = some data := by
  rw [Binding.dataOf, hlist, List.findSome?_append,
    List.findSome?_eq_none_iff.mpr fun z hz => z.not_gives k (hbefore z hz), Option.none_or, List.findSome?_cons, if_pos hk,
    hphase]

/-- The extent a lane writes next, before its bytes are looked for (R78). -/
def LaneView.writes (v : LaneView) (i : Nat) : Prop :=
  v.lane.rewrite = some i ∨ (v.lane.rewrite = none ∧ v.lane.heldFailure = none ∧ i = v.lane.writePos ∧ i < v.clip.extents)

theorem LaneView.writeChoice_of_writes {v : LaneView} {i : Nat} (h : v.writes i) :
    v.writeChoice = (v.bind.dataOf i).map fun data => (i, data) := by
  rcases h with h | ⟨hrewrite, hheld, rfl, hlt⟩
  · simp only [LaneView.writeChoice, h]
  · simp [LaneView.writeChoice, hrewrite, hheld, hlt]

theorem LaneView.writeChoice_eq_none {v : LaneView} (h : ∀ i, v.writes i → v.bind.dataOf i = none) : v.writeChoice = none := by
  by_cases hw : ∃ i, v.writes i
  · obtain ⟨i, hi⟩ := hw
    rw [LaneView.writeChoice_of_writes hi, h i hi, Option.map_none]
  · have hrewrite : v.lane.rewrite = none := by
      cases hr : v.lane.rewrite with
      | none => rfl
      | some k => exact absurd ⟨k, Or.inl hr⟩ hw
    have hno : ¬ (v.lane.heldFailure = none ∧ v.lane.writePos < v.clip.extents) := fun hn =>
      hw ⟨v.lane.writePos, Or.inr ⟨hrewrite, hn.1, rfl, hn.2⟩⟩
    simp only [LaneView.writeChoice, hrewrite, Bool.and_eq_true, Option.isNone_iff_eq_none, decide_eq_true_iff, if_neg hno]

/-! ### A lane and the records it works on -/

theorem State.laneView?_iff {d : Nat} {v : LaneView} : s.laneView? c d = some v ↔
    s.channel c = .bound v.bind ∧ v.bind.lane? d = some v.lane ∧ s.clip? v.bind.clip = some v.clip ∧
      v.clip.dests[d]? = some v.record := by
  constructor
  · intro hv
    unfold State.laneView? at hv
    cases hb : s.binding? c with
    | none => rw [hb] at hv; exact nomatch hv
    | some b =>
      cases hl : b.lane? d with
      | none => simp only [hb, hl] at hv; exact nomatch hv
      | some l =>
        cases hx : s.clip? b.clip with
        | none => simp only [hb, hl, hx] at hv; exact nomatch hv
        | some x =>
          simp only [hb, hl, hx] at hv
          obtain ⟨r, hr, rfl⟩ := Option.map_eq_some_iff.mp hv
          exact ⟨State.binding?_eq_some.mp hb, hl, hx, hr⟩
  · rintro ⟨hb, hl, hx, hr⟩
    simp only [State.laneView?, State.binding?_of_bound hb, hl, hx, hr, Option.map_some]

theorem Binding.lane?_dest {b : Binding} {d : Nat} {l : Lane} (h : b.lane? d = some l) : l.dest = d := by
  rw [Binding.lane?] at h
  simpa using List.find?_some h

/-- The lanes of a binding with the one of a destination changed. -/
def Binding.withLane (b : Binding) (d : Nat) (f : Lane → Lane) : Binding :=
  { b with lanes := b.lanes.map fun l => if l.dest = d then f l else l }

theorem Binding.lane?_withLane {b : Binding} {d : Nat} {l : Lane} {f : Lane → Lane} (h : b.lane? d = some l)
    (hf : ∀ l, (f l).dest = l.dest) : (b.withLane d f).lane? d = some (f l) := by
  have hcomp : ((fun l : Lane => l.dest == d) ∘ fun l => if l.dest = d then f l else l) = fun l : Lane => l.dest == d := by
    funext z
    by_cases hz : z.dest = d <;> simp [hz, hf]
  show (b.lanes.map fun l => if l.dest = d then f l else l).find? (fun l => l.dest == d) = _
  rw [List.find?_map, hcomp]
  have hd := Binding.lane?_dest h
  rw [Binding.lane?] at h
  rw [h, Option.map_some, if_pos hd]

theorem State.modLane_of_bound {b : Binding} (hb : s.channel c = .bound b) (d : Nat) (f : Lane → Lane) :
    s.modLane c d f = s.setChannel c (.bound (b.withLane d f)) := State.modBinding_of_bound hb _

/-- The view of a lane whose marks have been changed, its destination kept. -/
theorem State.laneView?_modLane {d : Nat} {v : LaneView} (hv : s.laneView? c d = some v) (f : Lane → Lane)
    (hf : ∀ l, (f l).dest = l.dest) :
    (s.modLane c d f).laneView? c d = some { v with bind := v.bind.withLane d f, lane := f v.lane } := by
  obtain ⟨hb, hl, hx, hr⟩ := State.laneView?_iff.mp hv
  rw [State.modLane_of_bound hb]
  exact State.laneView?_iff.mpr ⟨State.channel_setChannel .., Binding.lane?_withLane hl hf, hx, hr⟩

/-- A lost verify READ of a lane without an IN_PROGRESS record only clears the lane's mark (R67, R85). -/
theorem State.verifyLost_of_idle {d i : Nat} {v : LaneView} (hv : s.laneView? c d = some v) (hstate : v.record.state ≠ .inProgress) :
    s.askEnded (.verify c d i) [] .lost = s.modLane c d fun z => { z with verify := none } := by
  have hview := State.laneView?_modLane hv (fun z => { z with verify := none }) fun _ => rfl
  simp only [State.askEnded, State.verifyEnd, hv, State.loseLane, hview, if_neg hstate]

end

/-- Settles O28: each ask by the conditions it is made under. -/
theorem engineAsks : Obligations.EngineAsks := by
  refine ⟨fun s => rfl, fun s n => rfl, fun s c => ?_, fun s => ?_⟩
  · simp only [State.pumpChannel, State.pumpSource, State.pumpLane, List.foldl_map]
  · intro runs drains asks whole
    have hdrains (e : EpName) : s.draining e = true ↔ drains e := s.draining_iff e
    refine ⟨fun n j hj => ?_, fun c b x hb hx => ?_, fun c d v hv => ?_, fun c => ?_⟩
    · intro may
      rw [State.pumpIdentifyOnce_of_some hj]
      simp only [hdrains]
      exact ⟨fun h => if_pos h, fun h => if_neg h⟩
    · refine ⟨fun j hj => ?_, ?_⟩
      · intro may body
        rw [State.pumpOpen_of_bound hb hx hj]
        simp only [hdrains]
        exact ⟨fun h => if_pos h, fun h => if_neg h⟩
      · intro may checks ready t
        have hchecks : b.checking = true ↔ checks := b.checking_iff
        have hready : b.bufferReady = true ↔ ready := b.bufferReady_iff
        have hmay : (s.offload.state = .running ∧ b.reading = false ∧ b.lanes ≠ [] ∧ ¬ s.draining b.source.endpoint = true) ↔
            may := by rw [hdrains]
        refine ⟨fun hno => ?_, fun h hh hm => ⟨fun hc => ?_, fun hc hr => ?_⟩⟩
        · cases hh : b.handle with
          | none => exact State.pumpRead_of_no_handle hb hx hh
          | some h =>
            rw [State.pumpRead_of_bound hb hx hh]
            rcases hno with hno | hno | ⟨hc, hr⟩
            · rw [hh] at hno
              exact nomatch hno
            · rw [if_neg fun h => hno (hmay.mp h)]
            · rw [if_neg fun h => hc (hchecks.mp h), if_neg fun h => hr (hready.mp h), ite_self]
        · rw [State.pumpRead_of_bound hb hx hh, if_pos (hmay.mpr hm), if_pos (hchecks.mpr hc)]
          rfl
        · rw [State.pumpRead_of_bound hb hx hh, if_pos (hmay.mpr hm), if_neg fun h => hc (hchecks.mp h), if_pos (hready.mpr hr)]
          rfl
    · intro e k n l
      have hdrain : ¬ s.draining v.record.endpoint = true ↔ ¬ drains e := not_congr (hdrains e)
      refine ⟨?_, ?_, fun hstate i => State.verifyLost_of_idle hv hstate, ?_, ?_⟩
      · intro may
        have hmay : s.mayCreate v = true ↔ may := by rw [State.mayCreate_iff, hdrain]
        exact ⟨fun h => State.pumpCreate_of_not_may hv fun hm => h (hmay.mp hm),
          fun h j y hj hy => State.pumpCreate_of_view hv hj hy (hmay.mpr h)⟩
      · intro may
        have hmay : (v.mayVerify = true ∧ ¬ s.draining v.record.endpoint = true) ↔ may := by
          rw [v.mayVerify_iff, hdrain]
          simp only [and_assoc]
          rfl
        refine ⟨fun hno => ?_, fun h hh hm => ?_⟩
        · cases hh : v.lane.handle with
          | none => exact State.pumpVerify_of_no_handle hv hh
          | some h =>
            rw [State.pumpVerify_of_view hv hh, if_neg]
            exact fun hm => hno.elim (fun hn => nomatch hn.symm.trans hh) fun hn => hn (hmay.mp hm)
        · rw [State.pumpVerify_of_view hv hh, if_pos (hmay.mpr hm)]
          rfl
      · intro next holds may
        have hmay : (v.lane.write = none ∧ ¬ s.draining v.record.endpoint = true) ↔ may := by rw [hdrain]
        refine ⟨fun hno => ?_, fun h i before y after crc data hh hm hnext hlist hbefore hi hphase => ?_⟩
        · cases hh : v.lane.handle with
          | none => exact State.pumpWrite_of_no_handle hv hh
          | some h =>
            cases hchoice : v.writeChoice with
            | none => exact State.pumpWrite_of_no_choice hv hchoice
            | some kd =>
              obtain ⟨i, data⟩ := kd
              rw [State.pumpWrite_of_view hv hh hchoice, if_neg]
              intro hm
              rcases hno with hno | hno | hno
              · exact nomatch hno.symm.trans hh
              · exact hno (hmay.mp hm)
              · have hnone : v.writeChoice = none :=
                  LaneView.writeChoice_eq_none fun i hi => Binding.dataOf_eq_none fun y hy => hno i hi y hy
                rw [hnone] at hchoice
                exact nomatch hchoice
        · have hchoice : v.writeChoice = some (i, data) := by
            rw [LaneView.writeChoice_of_writes hnext, Binding.dataOf_of_first hlist (fun z hz => hbefore z hz) hi hphase,
              Option.map_some]
          rw [State.pumpWrite_of_view hv hh hchoice, if_pos (hmay.mpr hm)]
          rfl
      · intro may
        have hmay : (v.mayClose = true ∧ ¬ s.draining v.record.endpoint = true) ↔ may := by
          rw [v.mayClose_iff, hdrain]
          simp only [and_assoc]
          rfl
        refine ⟨fun hno => ?_, fun h hh hm => ?_⟩
        · cases hh : v.lane.handle with
          | none => exact State.pumpClose_of_no_handle hv hh
          | some h =>
            rw [State.pumpClose_of_view hv hh, if_neg]
            exact fun hm => hno.elim (fun hn => nomatch hn.symm.trans hh) fun hn => hn (hmay.mp hm)
        · rw [State.pumpClose_of_view hv hh, if_pos (hmay.mpr hm)]
          rfl
    · refine ⟨fun hno => ?_, fun x hx => ⟨fun hno => ?_, fun hasked hdrain => ?_⟩⟩
      · unfold State.pumpClosing
        split
        · next x hx => exact absurd hx (hno x)
        · rfl
        · rfl
      · have hskip : (x.asked || s.draining x.endpoint) = true := by
          rw [Bool.or_eq_true, hdrains]
          exact hno
        simp only [State.pumpClosing, hx, if_pos hskip]
      · have hgo : ¬ (x.asked || s.draining x.endpoint) = true := by
          rw [Bool.or_eq_true, hdrains, hasked]
          exact fun h => h.elim nofun hdrain
        simp only [State.pumpClosing, hx, if_neg hgo]
        rfl

end Sys2Proof.Machine
end

section
/-!
Lanes that end, clips that settle, channels unbound and asks withdrawn (R19, R56, R57, R73, R83, R87, R88).
-/

namespace Sys2Proof.Machine

/-! ### Channels set one after another -/

section
variable {s : State} {c : ChannelId} {b : Binding} {x : ClipRecord}

theorem State.setChannel_setChannel (s : State) (c : ChannelId) (x y : Channel) :
    (s.setChannel c x).setChannel c y = s.setChannel c y := by
  have hset : (s.offload.channels.set c.val x c.isLt).set c.val y c.isLt = s.offload.channels.set c.val y c.isLt := by
    ext i hi : 1
    simp only [Vector.getElem_set]
    split <;> rfl
  simp only [State.setChannel, hset]

theorem State.withdrawAsks_setChannel (s : State) (c : ChannelId) (x : Channel) (p : Purpose → Bool) :
    (s.setChannel c x).withdrawAsks p = (s.withdrawAsks p).setChannel c x := rfl

theorem State.releaseExtents_of_bound (hb : s.channel c = .bound b) (hx : s.clip? b.clip = some x) :
    s.releaseExtents c =
      s.setChannel c (.bound { b with held := b.held.filter fun h => h.stays x b.reading }) := by
  simp only [State.releaseExtents, State.boundClip?_of_bound hb, hx, State.modBinding_of_bound hb]

/-- Whether a held extent stays (R73). -/
theorem HeldExtent.stays_eq (h : HeldExtent) (x : ClipRecord) (reading : Bool) :
    h.stays x reading =
      ((x.dests.any fun r => r.state == .inProgress && r.verified ≤ h.extent) || (reading && h.phase == .reading)) := by
  simp only [HeldExtent.stays, ClipRecord.needs, ClipRecord.lanePrefixes, List.any_map, List.any_filter, Function.comp_def]

theorem ClipRecord.allSettled_iff (x : ClipRecord) :
    x.allSettled = true ↔ ¬ ∃ r ∈ x.dests, r.state = .pending ∨ r.state = .inProgress := by
  have hsettled (y : DestState) : y.settled = true ↔ ¬ (y = .pending ∨ y = .inProgress) := by
    cases y <;> simp [DestState.settled]
  rw [ClipRecord.allSettled, List.all_eq_true]
  push Not
  simp only [hsettled, not_or]

/-- A binding whose lane of a destination has ended, its extents released (R73, R83). -/
def Binding.withoutLane (b : Binding) (d : Nat) (x : ClipRecord) : Binding :=
  { b with
    lanes := b.lanes.filter fun l => l.dest ≠ d
    held := b.held.filter fun h =>
      (x.dests.any fun r => r.state == .inProgress && r.verified ≤ h.extent) || (b.reading && h.phase == .reading) }

/-- What the end of a lane leaves before the clip is looked at (R73, R83). -/
theorem State.endLane_eq (hb : s.channel c = .bound b) (hx : s.clip? b.clip = some x) (d : Nat) :
    s.endLane c d =
      ((s.withdrawAsks (Purpose.ofLane c d)).setChannel c (.bound (b.withoutLane d x))).checkSettle c := by
  have hlanes : (b.lanes.filter fun l => l.dest != d) = b.lanes.filter fun l => l.dest ≠ d :=
    List.filter_congr fun l _ => by rw [Bool.eq_iff_iff, bne_iff_ne, decide_eq_true_iff]
  have hb' : (s.withdrawAsks (Purpose.ofLane c d)).channel c = .bound b := hb
  have hbound : ((s.withdrawAsks (Purpose.ofLane c d)).setChannel c
      (.bound { b with lanes := b.lanes.filter fun l => l.dest != d })).channel c = _ := State.channel_setChannel ..
  rw [State.endLane, State.modBinding_of_bound hb', State.releaseExtents_of_bound (x := x) hbound hx,
    State.setChannel_setChannel, hlanes]
  simp only [HeldExtent.stays_eq, Binding.withoutLane]

/-- The end of a lane of a clip with work left (R73, R83). -/
theorem State.endLane_of_left (hb : s.channel c = .bound b) (hx : s.clip? b.clip = some x) (d : Nat)
    (hleft : ∃ r ∈ x.dests, r.state = .pending ∨ r.state = .inProgress) :
    s.endLane c d = (s.withdrawAsks (Purpose.ofLane c d)).setChannel c (.bound (b.withoutLane d x)) := by
  have hbound : ((s.withdrawAsks (Purpose.ofLane c d)).setChannel c (.bound (b.withoutLane d x))).channel c = _ :=
    State.channel_setChannel ..
  rw [State.endLane_eq hb hx, State.checkSettle_of_not_settled (x := x) hbound hx fun h => x.allSettled_iff.mp h hleft]

/-- A clip with its settled copy state (R56). -/
def ClipRecord.settle (x : ClipRecord) : ClipRecord := { x with copyState := x.settledState }

/-- What the settlement of a bound clip leaves before its job and its notes are looked at (R56, R87). -/
def State.settledClip (s : State) (c : ChannelId) (b : Binding) (x : ClipRecord) : State :=
  ((s.withdrawAsks (Purpose.ofChannel c)).setChannel c b.afterSettling).setClip b.clip (some x.settle)

theorem State.settleClip_of_bound (hb : s.channel c = .bound b) (hx : s.clip? b.clip = some x) :
    s.settleClip c = ((s.settledClip c b x).trySettleJob b.job).takeNotes b.clip b.notes := by
  have hclip : ((s.withdrawAsks (Purpose.ofChannel c)).setChannel c b.afterSettling).clip? b.clip = some x := hx
  simp only [State.settleClip, State.binding?_of_bound hb, State.settleRecord, State.modClip_of_some hclip]
  rfl

/-- The end of the last lane of a clip settles it (R56, R83, R87). -/
theorem State.endLane_of_settled (hb : s.channel c = .bound b) (hx : s.clip? b.clip = some x) (d : Nat)
    (hleft : ¬ ∃ r ∈ x.dests, r.state = .pending ∨ r.state = .inProgress) :
    s.endLane c d = (((s.withdrawAsks (Purpose.ofLane c d)).settledClip c b x).trySettleJob b.job).takeNotes b.clip b.notes := by
  have hbound : ((s.withdrawAsks (Purpose.ofLane c d)).setChannel c (.bound (b.withoutLane d x))).channel c = _ :=
    State.channel_setChannel ..
  have hclip : ((s.withdrawAsks (Purpose.ofLane c d)).setChannel c (.bound (b.withoutLane d x))).clip?
      (b.withoutLane d x).clip = some x := hx
  rw [State.endLane_eq hb hx, State.checkSettle_of_settled hbound hclip (x.allSettled_iff.mpr hleft),
    State.settleClip_of_bound hbound hclip, State.settledClip, State.withdrawAsks_setChannel, State.setChannel_setChannel]
  rfl

/-- A channel unbound (R57, R88). -/
theorem State.unbind_of_clip (hb : s.channel c = .bound b) (hx : s.clip? b.clip = some x) :
    s.unbind c = (((s.withdrawAsks (Purpose.ofChannel c)).setChannel c .free).setClip b.clip (some x.unbind)).takeNotes b.clip
      b.notes := by
  have hclip : ((s.withdrawAsks (Purpose.ofChannel c)).setChannel c .free).clip? b.clip = some x := hx
  rw [State.unbind_of_bound hb, State.modClip_of_some hclip]

end

/-! ### Asks withdrawn (R19) -/

/-- The tags of a port's asks that meet a condition (R17). -/
theorem PortState.mem_liveTags {x : PortState} {p : Ask → Bool} {tag : Nat} : tag ∈ x.liveTags p ↔
    ∃ (n : EntryId) (l : LiveAsk), x.asks[n].live = some l ∧ p l.ask = true ∧ tag = x.asks[n].generation * 64 + n.val := by
  simp only [PortState.liveTags, List.mem_filterMap, Prod.exists, List.mem_zipIdx_iff_getElem?]
  constructor
  · rintro ⟨e, n, hget, htag⟩
    obtain ⟨hn, rfl⟩ := List.getElem?_eq_some_iff.mp hget
    rw [Vector.getElem_toList] at htag
    have hlt : n < 64 := by simpa using hn
    cases hl : x.asks[n].live with
    | none =>
      rw [hl] at htag
      exact nomatch htag
    | some l =>
      simp only [hl] at htag
      split at htag
      · next hp =>
        rw [Option.some.injEq] at htag
        exact ⟨⟨n, hlt⟩, l, hl, hp, htag.symm⟩
      · exact nomatch htag
  · rintro ⟨n, l, hl, hp, rfl⟩
    refine ⟨x.asks[n], n.val, ?_, ?_⟩
    · rw [List.getElem?_eq_getElem (by simp), Vector.getElem_toList]
      rfl
    · simp only [hl, hp, if_true, askTag]

theorem AskEntry.withdraw_eq (p : Ask → Bool) (e : AskEntry) : e.withdraw p = ⟨e.generation, e.live.filter fun l => !p l.ask⟩ := by
  obtain ⟨g, live⟩ := e
  cases live with
  | none => rfl
  | some l => by_cases hp : p l.ask = true <;> simp [AskEntry.withdraw, hp, Option.filter]

theorem Owner.ofTags_iff (tags : List Nat) (o : Owner) : o.ofTags tags = true ↔ ∃ tag ∈ tags, o = .ask tag := by
  cases o <;> simp [Owner.ofTags]

/-- Settles O39. -/
theorem clipSettles : Obligations.ClipSettles := by
  refine ⟨fun s c d b x hb hx => ?_, fun s c hnot => ?_, fun s n j hj => ?_, fun s f => ?_⟩
  · intro u needed left notes
    have hsettle : x.settle = { x with copyState :=
        if ∀ r ∈ x.dests, r.state = .verified then .complete
        else if ∃ r ∈ x.dests, r.state = .verified then .partialCopy
        else .failed } := by rw [ClipRecord.settle, x.settledState_eq]
    refine ⟨fun hleft => State.endLane_of_left hb hx d hleft, fun hleft => ?_, State.unbind_of_clip hb hx⟩
    rw [State.endLane_of_settled hb hx d hleft, State.settledClip, hsettle]
    rfl
  · refine State.unbind_of_none ?_
    cases hb : s.binding? c with
    | none => rfl
    | some b => exact absurd (State.binding?_eq_some.mp hb) (hnot b)
  · intro work
    have hwork : s.hasWork j = true ↔ work := s.hasWork_iff j
    refine ⟨fun hno => ?_, fun hactive hidle => ?_⟩
    · have hskip : ¬ (j.state = .active && !s.hasWork j) = true := by
        rw [Bool.and_eq_true, decide_eq_true_iff, Bool.not_eq_true', ← Bool.not_eq_true, hwork]
        exact fun h => hno.elim (fun hs => hs h.1) fun hw => h.2 hw
      simp only [State.trySettleJob, hj, if_neg hskip]
    · have hgo : (j.state = .active && !s.hasWork j) = true := by
        rw [Bool.and_eq_true, decide_eq_true_iff, Bool.not_eq_true', ← Bool.not_eq_true, hwork]
        exact ⟨hactive, hidle⟩
      simp only [State.trySettleJob, hj, if_pos hgo, State.settleJob_of_some hj]
      refine ⟨_, ?_, ?_, rfl⟩
      · split
        · exact Or.inl rfl
        · exact Or.inr rfl
      · split
        · next h => exact iff_of_true rfl h
        · next h => exact iff_of_false nofun h
  · intro t gone
    have hport (p : Port) : t.port p = (s.port p).withdraw fun a => f a.purpose := s.port_withdrawAsks f p
    refine ⟨rfl, fun p => ⟨?_, fun n => ?_, fun k => ?_⟩⟩
    · rw [hport]
      rfl
    · rw [hport]
      show ((s.port p).asks.map (AskEntry.withdraw fun a => f a.purpose))[n] = _
      rw [Fin.getElem_fin, Vector.getElem_map, AskEntry.withdraw_eq]
      rfl
    · refine ⟨fun pk => !(Owner.ofTags ((s.port p).liveTags fun a => f a.purpose) pk.owner), fun pk => ?_, ?_⟩
      · rw [Bool.not_eq_false', Owner.ofTags_iff]
        constructor
        · rintro ⟨tag, htag, howner⟩
          obtain ⟨n, l, hl, hf, rfl⟩ := PortState.mem_liveTags.mp htag
          exact ⟨n, l, hl, hf, howner⟩
        · rintro ⟨n, l, hl, hf, howner⟩
          exact ⟨_, PortState.mem_liveTags.mpr ⟨n, l, hl, hf, rfl⟩, howner⟩
      · rw [hport]
        show ((s.port p).queues.map _)[k] = _
        rw [Fin.getElem_fin, Vector.getElem_map]
        rfl

end Sys2Proof.Machine
end

section
/-!
The ends of a lane's asks (R70, R79 to R85, R98).
-/

namespace Sys2Proof.Machine

/-! ### A lane's marks and its record -/

section
variable {s : State} {c : ChannelId} {d : Nat} {v : LaneView}

theorem State.laneView?_mem (hv : s.laneView? c d = some v) :
    v.lane ∈ (s.binding? c).elim [] (·.lanes) ∧ v.lane.dest = d ∧ s.dest? v.bind.clip d = some v.record := by
  obtain ⟨hb, hl, hx, hr⟩ := State.laneView?_iff.mp hv
  refine ⟨?_, Binding.lane?_dest hl, ?_⟩
  · rw [State.binding?_of_bound hb]
    rw [Binding.lane?] at hl
    exact List.mem_of_find?_eq_some hl
  · rw [State.dest?, hx, Option.bind_some, hr]

theorem State.modClip_setChannel (s : State) (c : ChannelId) (x : Channel) (k : Nat) (f : ClipRecord → ClipRecord) :
    (s.setChannel c x).modClip k f = (s.modClip k f).setChannel c x := by
  simp only [State.modClip, State.setChannel_clip?]
  cases s.clip? k <;> rfl

theorem Binding.withLane_withLane (b : Binding) (d : Nat) (f g : Lane → Lane) (hf : ∀ l, (f l).dest = l.dest) :
    (b.withLane d f).withLane d g = b.withLane d fun l => g (f l) := by
  have hcomp : ((fun l : Lane => if l.dest = d then g l else l) ∘ fun l => if l.dest = d then f l else l) =
      fun l => if l.dest = d then g (f l) else l := by
    funext l
    by_cases hl : l.dest = d <;> simp [hl, hf]
  simp only [Binding.withLane, List.map_map, hcomp]

theorem State.modLane_modLane (hv : s.laneView? c d = some v) (f g : Lane → Lane) (hf : ∀ l, (f l).dest = l.dest) :
    (s.modLane c d f).modLane c d g = s.modLane c d fun l => g (f l) := by
  obtain ⟨hb, -⟩ := State.laneView?_iff.mp hv
  rw [State.modLane_of_bound hb, State.modLane_of_bound (State.channel_setChannel ..), State.setChannel_setChannel,
    Binding.withLane_withLane _ _ _ _ hf, State.modLane_of_bound hb]

theorem State.modDest_modLane (hv : s.laneView? c d = some v) (k m : Nat) (f : DestRecord → DestRecord) (g : Lane → Lane) :
    (s.modDest k m f).modLane c d g = (s.modLane c d g).modDest k m f := by
  obtain ⟨hb, -⟩ := State.laneView?_iff.mp hv
  have hb' : (s.modDest k m f).channel c = .bound v.bind := by simp [State.modDest, hb]
  rw [State.modLane_of_bound hb', State.modLane_of_bound hb, State.modDest, State.modDest, State.modClip_setChannel]

/-- The view of a lane whose record has changed. -/
theorem State.laneView?_modDest (hv : s.laneView? c d = some v) (f : DestRecord → DestRecord) :
    (s.modDest v.bind.clip d f).laneView? c d = some { v with clip := v.clip.modDest d f, record := f v.record } := by
  obtain ⟨hb, hl, hx, hr⟩ := State.laneView?_iff.mp hv
  refine State.laneView?_iff.mpr ⟨by simp [State.modDest, hb], hl, ?_, ?_⟩
  · rw [State.modDest, State.clip?_modClip, if_pos rfl, hx, Option.map_some]
  · rw [ClipRecord.modDest_of_some hr]
    exact List.getElem?_set_self (List.getElem?_eq_some_iff.mp hr).1

/-- The view of a lane after a fault has been filed for its clip. -/
theorem State.laneView?_file (hv : s.laneView? c d = some v) {f : Filing} (hf : f.clip = some v.bind.clip) :
    (s.file f).laneView? c d = some { v with clip := v.clip.countFault f.kind.faultClass } := by
  obtain ⟨hb, hl, hx, hr⟩ := State.laneView?_iff.mp hv
  refine State.laneView?_iff.mpr ⟨by simpa using hb, hl, ?_, ?_⟩
  · rw [State.file_clip?, if_pos hf, hx, Option.map_some]
  · rw [ClipRecord.countFault_eq]
    exact hr

/-- The view of a lane whose channel has released extents (R73). -/
theorem State.laneView?_releaseExtents (hv : s.laneView? c d = some v) :
    (s.releaseExtents c).laneView? c d = some { v with
      bind := { v.bind with held := v.bind.held.filter fun h => h.stays v.clip v.bind.reading } } := by
  obtain ⟨hb, hl, hx, hr⟩ := State.laneView?_iff.mp hv
  rw [State.releaseExtents_of_bound hb hx]
  exact State.laneView?_iff.mpr ⟨State.channel_setChannel .., hl, hx, hr⟩

theorem State.modLane_spotter (f : Lane → Lane) : (s.modLane c d f).spotter = s.spotter := by
  unfold State.modLane State.modBinding
  split <;> rfl

theorem State.releaseExtents_spotter : (s.releaseExtents c).spotter = s.spotter := by
  unfold State.releaseExtents State.modBinding
  split
  · rfl
  · split <;> rfl

theorem State.modDest_spotter (k m : Nat) (f : DestRecord → DestRecord) : (s.modDest k m f).spotter = s.spotter := by
  simp [State.modDest]

end

/-! ### What is left when a lane is gone (R83) -/

section
variable {s : State} {n : Nat}

@[simp] theorem State.settleJob_review : (s.settleJob n).review = s.review := by simp [State.settleJob]
@[simp] theorem State.settleJob_look : (s.settleJob n).look = s.look := by simp [State.settleJob]
@[simp] theorem State.settleJob_link : (s.settleJob n).link = s.link := by simp [State.settleJob]

@[simp] theorem State.trySettleJob_review : (s.trySettleJob n).review = s.review := by
  unfold State.trySettleJob; split <;> [rfl; split <;> simp]
@[simp] theorem State.trySettleJob_look : (s.trySettleJob n).look = s.look := by
  unfold State.trySettleJob; split <;> [rfl; split <;> simp]
@[simp] theorem State.trySettleJob_link : (s.trySettleJob n).link = s.link := by
  unfold State.trySettleJob; split <;> [rfl; split <;> simp]

end

/-- What is left in `t` of the lane of channel `c` for destination `d` of a clip when it has ended since `s`: its record `r`,
the lane gone, and the entries `es` filed (R83). -/
structure State.LaneGone (s t : State) (c : ChannelId) (d k : Nat) (r : DestRecord) (es : List FaultEntry) : Prop where
  record : t.dest? k d = some r
  lanes : ∀ y ∈ (t.binding? c).elim [] (·.lanes), y.dest ≠ d
  log : s.spotter.log.length + es.length ≤ 128 → t.spotter.log = s.spotter.log ++ es
  clips : ∀ n, n ≠ k → t.clip? n = s.clip? n
  review : t.review = s.review
  look : t.look = s.look
  endpoints : t.link.endpoints = s.link.endpoints

section
variable {s t u : State} {c : ChannelId} {b : Binding} {x : ClipRecord} {d : Nat} {r : DestRecord} {es : List FaultEntry}

/-- The end of a lane of a binding without noted returns (R83). -/
theorem State.endLane_gone (hb : s.channel c = .bound b) (hx : s.clip? b.clip = some x) (hnotes : b.notes = [])
    (hr : x.dests[d]? = some r) : s.LaneGone (s.endLane c d) c d b.clip r [] := by
  by_cases hleft : ∃ r ∈ x.dests, r.state = .pending ∨ r.state = .inProgress
  · rw [State.endLane_of_left hb hx d hleft]
    refine ⟨?_, fun y hy => ?_, fun _ => by simp, fun n _ => rfl, rfl, rfl, rfl⟩
    · show ((s.clip? b.clip).bind fun c => c.dests[d]?) = some r
      rw [hx, Option.bind_some, hr]
    · rw [State.binding?_of_bound (State.channel_setChannel ..)] at hy
      simpa using (List.mem_filter.mp hy).2
  · have hnone (w : State) : w.takeNotes b.clip b.notes = w := by
      rw [hnotes]
      rfl
    rw [State.endLane_of_settled hb hx d hleft, hnone]
    refine ⟨?_, fun y hy => ?_, fun _ => ?_, fun n hn => ?_, ?_, ?_, ?_⟩
    · rw [State.dest?, State.trySettleJob_clip?, State.settledClip, State.clip?_setClip, if_pos ⟨rfl, State.clip?_lt hx⟩]
      exact hr
    · have hchannel : (((s.withdrawAsks (Purpose.ofLane c d)).settledClip c b x).trySettleJob b.job).channel c =
          b.afterSettling := by simp [State.settledClip]
      have hunbound : b.afterSettling.binding? = none := by
        unfold Binding.afterSettling
        split <;> rfl
      rw [State.binding?, hchannel, hunbound] at hy
      exact absurd hy List.not_mem_nil
    · simp [State.settledClip]
    · rw [State.trySettleJob_clip?, State.settledClip, State.clip?_setClip, if_neg fun h => hn h.1.symm]
      rfl
    · simp [State.settledClip]
    · simp [State.settledClip]
    · rw [State.trySettleJob_link]
      rfl

/-- What happened before a lane's end, of the clip's own record or of the log alone. -/
theorem State.LaneGone.after {k : Nat} {fs : List FaultEntry} (h : t.LaneGone u c d k r es)
    (hlog : s.spotter.log.length + fs.length ≤ 128 → t.spotter.log = s.spotter.log ++ fs)
    (hclips : ∀ n, n ≠ k → t.clip? n = s.clip? n) (hreview : t.review = s.review) (hlook : t.look = s.look)
    (hlink : t.link.endpoints = s.link.endpoints) : s.LaneGone u c d k r (fs ++ es) where
  record := h.record
  lanes := h.lanes
  log hroom := by
    rw [List.length_append] at hroom
    have hfirst := hlog (by omega)
    rw [h.log (by rw [hfirst, List.length_append]; omega), hfirst, List.append_assoc]
  clips n hn := (h.clips n hn).trans (hclips n hn)
  review := h.review.trans hreview
  look := h.look.trans hlook
  endpoints := h.endpoints.trans hlink

theorem State.modDest_clip?_ne {k m n : Nat} (f : DestRecord → DestRecord) (hn : n ≠ k) :
    (s.modDest k m f).clip? n = s.clip? n := by
  rw [State.modDest, State.clip?_modClip, if_neg (Ne.symm hn)]

theorem State.LaneGone.after_modDest {k m : Nat} {f : DestRecord → DestRecord} (h : (s.modDest k m f).LaneGone u c d k r es) :
    s.LaneGone u c d k r es :=
  h.after (fs := []) (fun _ => by rw [State.modDest_spotter, List.append_nil]) (fun _ hn => State.modDest_clip?_ne f hn)
    (by simp [State.modDest]) (by simp [State.modDest]) (by simp [State.modDest])

theorem State.LaneGone.after_modLane {k : Nat} {f : Lane → Lane} (h : (s.modLane c d f).LaneGone u c d k r es) :
    s.LaneGone u c d k r es := by
  refine h.after (fs := []) (fun _ => by rw [State.modLane_spotter, List.append_nil]) ?_ ?_ ?_ ?_ <;>
    · unfold State.modLane State.modBinding
      split <;> intros <;> rfl

theorem State.LaneGone.after_file {k : Nat} {f : Filing} (h : (s.file f).LaneGone u c d k r es) (hclip : f.clip = some k)
    (hstream : f.stream = none) : s.LaneGone u c d k r (f.entry s.now :: es) := by
  refine h.after (fs := [f.entry s.now]) (fun hroom => ?_) (fun n hn => ?_) (State.file_review_of_none s f hstream) (by simp)
    (by simp)
  · rw [List.length_singleton] at hroom
    rw [State.file_log, FaultSpotter.filed_of_room (by omega)]
  · rw [State.file_clip?, if_neg fun e => hn (Option.some.inj (hclip.symm.trans e)).symm]

/-! ### A lane closed, an attempt counted, a lane lost (R82, R83, R85) -/

variable {v : LaneView}

theorem State.closeLane_of_view (hv : s.laneView? c d = some v) (f : DestRecord → DestRecord) (fault : Option Filing) :
    s.closeLane c d f fault = (fault.elim (s.modDest v.bind.clip d f) (s.modDest v.bind.clip d f).file).endLane c d := by
  obtain ⟨hb, -⟩ := State.laneView?_iff.mp hv
  simp only [State.closeLane, State.binding?_of_bound hb]
  cases fault <;> rfl

theorem State.closeLane_gone (hv : s.laneView? c d = some v) (hnotes : v.bind.notes = []) (f : DestRecord → DestRecord) :
    s.LaneGone (s.closeLane c d f none) c d v.bind.clip (f v.record) [] := by
  rw [State.closeLane_of_view hv]
  obtain ⟨hb, -, hx, hr⟩ := State.laneView?_iff.mp (State.laneView?_modDest hv f)
  exact (State.endLane_gone hb hx hnotes hr).after_modDest

theorem State.closeLane_gone_filing (hv : s.laneView? c d = some v) (hnotes : v.bind.notes = []) (f : DestRecord → DestRecord)
    {fault : Filing} (hclip : fault.clip = some v.bind.clip) (hstream : fault.stream = none) :
    s.LaneGone (s.closeLane c d f (some fault)) c d v.bind.clip (f v.record) [fault.entry s.now] := by
  rw [State.closeLane_of_view hv]
  obtain ⟨hb, -, hx, hr⟩ := State.laneView?_iff.mp (State.laneView?_file (State.laneView?_modDest hv f) (f := fault) hclip)
  have hgone := (State.endLane_gone hb hx hnotes hr).after_file hclip hstream
  have hnow : (s.modDest v.bind.clip d f).now = s.now := by simp [State.modDest]
  rw [hnow] at hgone
  exact hgone.after_modDest

theorem State.countAttempt_again (hv : s.laneView? c d = some v) (reason : FaultKind) (compared : Bool) (again : Lane → Lane)
    (hfew : v.record.attempts < 2) :
    s.countAttempt c d reason compared again =
      (s.modLane c d again).modDest v.bind.clip d fun x => { x with attempts := v.record.attempts + 1 } := by
  have hlimit : v.record.attempts + 1 < Config.attemptLimit := Nat.succ_lt_succ hfew
  simp only [State.countAttempt, hv, if_pos hlimit]
  exact State.modDest_modLane hv ..

theorem State.countAttempt_exhausted (hv : s.laneView? c d = some v) (reason : FaultKind) (compared : Bool)
    (again : Lane → Lane) (hmany : 2 ≤ v.record.attempts) :
    s.countAttempt c d reason compared again =
      (s.modDest v.bind.clip d fun x => { x with attempts := v.record.attempts + 1 }).closeLane c d (DestRecord.fail reason)
        (if compared then none else some (copyFiling reason v.bind.clip v.record.endpoint v.record.verified)) := by
  have hlimit : ¬ v.record.attempts + 1 < Config.attemptLimit := Nat.not_lt.mpr (Nat.succ_le_succ hmany)
  simp only [State.countAttempt, hv, if_neg hlimit]

/-- The third failure of a lane's step (R82). -/
theorem State.countAttempt_gone (hv : s.laneView? c d = some v) (hnotes : v.bind.notes = []) (reason : FaultKind)
    (again : Lane → Lane) (hmany : 2 ≤ v.record.attempts) :
    s.LaneGone (s.countAttempt c d reason false again) c d v.bind.clip
      { v.record with attempts := v.record.attempts + 1, state := .failed, reason := some reason }
      [(copyFiling reason v.bind.clip v.record.endpoint v.record.verified).entry s.now] := by
  rw [State.countAttempt_exhausted hv _ _ _ hmany, if_neg Bool.false_ne_true]
  have hview := State.laneView?_modDest hv fun x => { x with attempts := v.record.attempts + 1 }
  have hgone := State.closeLane_gone_filing hview hnotes (DestRecord.fail reason)
    (fault := copyFiling reason v.bind.clip v.record.endpoint v.record.verified) rfl rfl
  have hnow : (s.modDest v.bind.clip d fun x => { x with attempts := v.record.attempts + 1 }).now = s.now := by
    simp [State.modDest]
  rw [hnow] at hgone
  exact hgone.after_modDest

/-- The third failed comparison of a lane's extent (R81, R82). -/
theorem State.countAttempt_gone_compared (hv : s.laneView? c d = some v) (hnotes : v.bind.notes = []) (reason : FaultKind)
    (again : Lane → Lane) (hmany : 2 ≤ v.record.attempts) :
    s.LaneGone (s.countAttempt c d reason true again) c d v.bind.clip
      { v.record with attempts := v.record.attempts + 1, state := .failed, reason := some reason } [] := by
  rw [State.countAttempt_exhausted hv _ _ _ hmany, if_pos rfl]
  have hview := State.laneView?_modDest hv fun x => { x with attempts := v.record.attempts + 1 }
  exact (State.closeLane_gone hview hnotes (DestRecord.fail reason)).after_modDest

/-- A lane lost with its record IN_PROGRESS (R85). -/
theorem State.loseLane_gone (hv : s.laneView? c d = some v) (hnotes : v.bind.notes = []) (hstate : v.record.state = .inProgress) :
    s.LaneGone (s.loseLane c d) c d v.bind.clip { v.record with state := .deferred, reason := some .endpointLost }
      [(copyFiling .endpointLost v.bind.clip v.record.endpoint v.record.verified).entry s.now] := by
  simp only [State.loseLane, hv, if_pos hstate]
  exact State.closeLane_gone_filing hv hnotes (DestRecord.defer (some .endpointLost)) rfl rfl

end

/-! ### The ends of a lane's asks -/

/-- An ask of a destination that failed other than by a loss (R70, R79, R81, R84). -/
def AskEnd.failed (r : AskEnd) : Prop := r = .timeout ∨ r = .noMedium ∨ ∃ code, r = .error code

theorem AskEnd.failed_of {r : AskEnd} {reason : FaultKind}
    (h : (r = .timeout ∧ reason = .destTimeout) ∨ ((r = .noMedium ∨ ∃ code, r = .error code) ∧ reason = .destWriteFailed)) :
    r.failed ∧ reason = r.reason := by
  rcases h with ⟨rfl, rfl⟩ | ⟨rfl | ⟨code, rfl⟩, rfl⟩
  · exact ⟨Or.inl rfl, rfl⟩
  · exact ⟨Or.inr (Or.inl rfl), rfl⟩
  · exact ⟨Or.inr (Or.inr ⟨code, rfl⟩), rfl⟩

section
variable {s : State} {c : ChannelId} {d : Nat} {v : LaneView} {r : AskEnd}

theorem State.createEnd_of_failed (hv : s.laneView? c d = some v) (hr : r.failed) :
    s.createEnd c d r = (s.modLane c d fun l => { l with creating := false }).countAttempt c d r.reason false id := by
  rcases hr with rfl | rfl | ⟨code, rfl⟩ <;> simp only [State.createEnd, hv]

theorem State.writeEnd_of_failed (hv : s.laneView? c d = some v) (hr : r.failed) (k : Nat) :
    s.writeEnd c d k r =
      if k = v.record.verified then
        (s.modLane c d fun l => { l with write := none }).countAttempt c d r.reason false fun l => { l with rewrite := some k }
      else (s.modLane c d fun l => { l with write := none }).modLane c d fun l => { l with heldFailure := some (k, r.reason) } := by
  rcases hr with rfl | rfl | ⟨code, rfl⟩ <;> simp only [State.writeEnd, hv]

theorem State.laneCloseEnd_of_failed (hv : s.laneView? c d = some v) (hr : r.failed) :
    s.laneCloseEnd c d r = s.closeLane c d (DestRecord.fail r.reason)
      (some (copyFiling r.reason v.bind.clip v.record.endpoint v.clip.extents)) := by
  rcases hr with rfl | rfl | ⟨code, rfl⟩ <;> simp only [State.laneCloseEnd, hv]

/-- A lane whose mark of the failed ask has been cleared, and its attempt counted (R82). -/
theorem State.countAttempt_modLane_again (hv : s.laneView? c d = some v) (f again : Lane → Lane) (hf : ∀ l, (f l).dest = l.dest)
    (reason : FaultKind) (compared : Bool) (hfew : v.record.attempts < 2) :
    (s.modLane c d f).countAttempt c d reason compared again =
      (s.modLane c d fun l => again (f l)).modDest v.bind.clip d fun x => { x with attempts := v.record.attempts + 1 } := by
  rw [State.countAttempt_again (State.laneView?_modLane hv f hf) _ _ _ hfew, State.modLane_modLane hv _ _ hf]
  rfl

theorem State.modLane_now (f : Lane → Lane) : (s.modLane c d f).now = s.now := by
  unfold State.modLane State.modBinding
  split <;> rfl

theorem State.countAttempt_modLane_gone (hv : s.laneView? c d = some v) (hnotes : v.bind.notes = []) (f again : Lane → Lane)
    (hf : ∀ l, (f l).dest = l.dest) (reason : FaultKind) (hmany : 2 ≤ v.record.attempts) :
    s.LaneGone ((s.modLane c d f).countAttempt c d reason false again) c d v.bind.clip
      { v.record with attempts := v.record.attempts + 1, state := .failed, reason := some reason }
      [(copyFiling reason v.bind.clip v.record.endpoint v.record.verified).entry s.now] := by
  have hgone := State.countAttempt_gone (State.laneView?_modLane hv f hf) hnotes reason again hmany
  rw [State.modLane_now] at hgone
  exact hgone.after_modLane

/-- The loss of a lane's ask (R85). -/
theorem State.askEnded_lost_gone (hv : s.laneView? c d = some v) (hnotes : v.bind.notes = []) (hstate : v.record.state = .inProgress)
    (data : List Byte) {p : Purpose}
    (hp : p = .create c d ∨ (∃ k, p = .write c d k) ∨ (∃ k, p = .verify c d k) ∨ p = .closeLane c d) :
    s.LaneGone (s.askEnded p data .lost) c d v.bind.clip { v.record with state := .deferred, reason := some .endpointLost }
      [(copyFiling .endpointLost v.bind.clip v.record.endpoint v.record.verified).entry s.now] := by
  rcases hp with rfl | ⟨k, rfl⟩ | ⟨k, rfl⟩ | rfl
  · simp only [State.askEnded, State.createEnd, hv]
    exact State.loseLane_gone hv hnotes hstate
  · simp only [State.askEnded, State.writeEnd, hv]
    exact State.loseLane_gone hv hnotes hstate
  · simp only [State.askEnded, State.verifyEnd, hv]
    have hgone := State.loseLane_gone (State.laneView?_modLane hv (fun l => { l with verify := none }) fun _ => rfl) hnotes hstate
    rw [State.modLane_now] at hgone
    exact hgone.after_modLane
  · simp only [State.askEnded, State.laneCloseEnd, hv]
    exact State.loseLane_gone hv hnotes hstate

/-- The whole-file check of a lane that reads from a peer (R98). -/
theorem State.checkWholeFile_of_peer (hv : s.laneView? c d = some v) {e : EpName} {i : Nat} (hsource : v.bind.source = .peer e i) :
    s.checkWholeFile c d =
      if (v.record.verified = v.clip.extents ∧ v.bind.peerNext = v.clip.extents) ∧
          v.clip.fileCrc ≠ some (~~~ v.bind.peerRegister) then
        s.closeLane c d (DestRecord.fail .peerMismatch)
          (some (copyFiling .peerMismatch v.bind.clip v.record.endpoint (e.port.val * 256 + e.id)))
      else s := by
  have hcheck : (v.allVerified && !v.wholeFileGood) = true ↔
      (v.record.verified = v.clip.extents ∧ v.bind.peerNext = v.clip.extents) ∧
        v.clip.fileCrc ≠ some (~~~ v.bind.peerRegister) := by
    simp [LaneView.allVerified, LaneView.wholeFileGood, hsource, DataSource.isPeer, crc64Final]
  simp only [State.checkWholeFile, hv, hcheck, hsource, DataSource.endpoint]

end

/-- Settles O37. -/
theorem laneEnds : Obligations.LaneEnds := by
  intro s c d data v hv hnotes entry gone counted failing
  have hgone {t : State} {r : DestRecord} {es : List FaultEntry} (hes : es.length ≤ 1)
      (h : s.LaneGone t c d v.bind.clip r es) : gone t r es :=
    ⟨h.record, h.lanes, fun hroom => h.log (by omega), h.clips, h.review, h.look, h.endpoints⟩
  have hcounted (f again g : Lane → Lane) (hf : ∀ l, (f l).dest = l.dest) (hg : (fun l => again (f l)) = g) (reason : FaultKind) :
      counted ((s.modLane c d f).countAttempt c d reason false again) reason g :=
    ⟨fun hfew => by rw [State.countAttempt_modLane_again hv f again hf reason false hfew, hg],
      fun hmany => hgone (by simp) (State.countAttempt_modLane_gone hv hnotes f again hf reason hmany)⟩
  refine ⟨fun h => ?_, fun k a => ?_, fun a => ?_, fun r reason hfail => ?_, fun hstate p hp => ?_, fun e i hsource => ?_⟩
  · simp only [State.askEnded, State.createEnd, hv]
  · simp only [State.askEnded, State.writeEnd, hv]
    rfl
  · simp only [State.askEnded, State.laneCloseEnd, hv]
    exact hgone (by simp) (State.closeLane_gone hv hnotes DestRecord.verify)
  · obtain ⟨hr, rfl⟩ := AskEnd.failed_of hfail
    simp only [State.askEnded]
    refine ⟨?_, ?_, fun k hk => ?_, ?_⟩
    · rw [State.createEnd_of_failed hv hr]
      exact hcounted (fun l => { l with creating := false }) id _ (fun _ => rfl) rfl _
    · rw [State.writeEnd_of_failed hv hr, if_pos rfl]
      exact hcounted (fun l => { l with write := none }) (fun l => { l with rewrite := some v.record.verified }) _ (fun _ => rfl)
        rfl _
    · rw [State.writeEnd_of_failed hv hr, if_neg hk]
      exact State.modLane_modLane hv _ _ fun _ => rfl
    · rw [State.laneCloseEnd_of_failed hv hr]
      exact hgone (by simp) (State.closeLane_gone_filing hv hnotes (DestRecord.fail r.reason) rfl rfl)
  · exact hgone (by simp) (State.askEnded_lost_gone hv hnotes hstate data hp)
  · rw [State.checkWholeFile_of_peer hv hsource]
    refine ⟨fun hno => if_neg ?_, fun hverified hnext hcrc => ?_⟩
    · rintro ⟨⟨hverified, hnext⟩, hcrc⟩
      exact hno.elim (fun h => h hverified) fun h => h.elim (fun h => h hnext) hcrc
    · rw [if_pos ⟨⟨hverified, hnext⟩, hcrc⟩]
      exact hgone (by simp) (State.closeLane_gone_filing hv hnotes (DestRecord.fail .peerMismatch) rfl rfl)

/-! ### The read-back judged (R80, R81) -/

section
variable {s : State} {c : ChannelId} {d : Nat} {v : LaneView}

/-- A held failure is taken up when the verified count has reached its extent (R80). -/
theorem State.takeUpFailure_of_reached (hv : s.laneView? c d = some v) {reason : FaultKind}
    (hheld : v.lane.heldFailure = some (v.record.verified, reason)) :
    s.takeUpFailure c d = (s.modLane c d fun l => { l with heldFailure := none }).countAttempt c d reason false
      fun l => { l with rewrite := some v.record.verified } := by
  simp only [State.takeUpFailure, hv, hheld, if_true]

theorem State.takeUpFailure_of_not_reached (hv : s.laneView? c d = some v)
    (hheld : ∀ reason, v.lane.heldFailure ≠ some (v.record.verified, reason)) : s.takeUpFailure c d = s := by
  cases hf : v.lane.heldFailure with
  | none => simp only [State.takeUpFailure, hv, hf]
  | some f =>
    obtain ⟨k, reason⟩ := f
    have hk : k ≠ v.record.verified := fun h => hheld reason (h ▸ hf)
    simp only [State.takeUpFailure, hv, hf, if_neg hk]

theorem State.verifyEnd_of_good (hv : s.laneView? c d = some v) {k : Nat} {data : List Byte}
    (hcrc : v.bind.crcOf k = some (crc64 data)) :
    s.verifyEnd c d k data (.ok (.count (extentLength v.clip.size k))) =
      (s.modLane c d fun l => { l with verify := none }).verified c d v.bind.clip := by
  simp only [State.verifyEnd, hv, hcrc, and_self, if_true]

theorem State.verifyEnd_of_bad (hv : s.laneView? c d = some v) {k n : Nat} {data : List Byte}
    (hbad : n ≠ extentLength v.clip.size k ∨ v.bind.crcOf k ≠ some (crc64 data)) :
    s.verifyEnd c d k data (.ok (.count n)) =
      ((s.modLane c d fun l => { l with verify := none }).file
        (copyFiling .verifyMismatch v.bind.clip v.record.endpoint k)).countAttempt c d .verifyMismatch true
          fun l => { l with rewrite := some k } := by
  have hno : ¬ (n = extentLength v.clip.size k ∧ v.bind.crcOf k = some (crc64 data)) := fun h =>
    hbad.elim (fun hn => hn h.1) fun hc => hc h.2
  simp only [State.verifyEnd, hv, if_neg hno]

theorem State.verifyEnd_of_failed (hv : s.laneView? c d = some v) (k : Nat) (data : List Byte) {r : AskEnd} (hr : r.failed) :
    s.verifyEnd c d k data r = (s.modLane c d fun l => { l with verify := none }).countAttempt c d r.reason false
      fun l => { l with rewrite := some k } := by
  rcases hr with rfl | rfl | ⟨code, rfl⟩ <;> simp only [State.verifyEnd, hv]

/-- A lane whose attempt has been counted and whose step is to be made again (R82). -/
theorem State.laneView?_countAttempt (hv : s.laneView? c d = some v) (reason : FaultKind) (compared : Bool) (again : Lane → Lane)
    (hagain : ∀ l, (again l).dest = l.dest) (hfew : v.record.attempts < 2) :
    ∃ w, (s.countAttempt c d reason compared again).laneView? c d = some w ∧ w.bind.clip = v.bind.clip ∧
      w.lane = again v.lane ∧ w.record = { v.record with attempts := v.record.attempts + 1 } := by
  rw [State.countAttempt_again hv _ _ _ hfew]
  exact ⟨_, State.laneView?_modDest (State.laneView?_modLane hv again hagain) _, rfl, rfl, rfl⟩

theorem State.countAttempt_spotter (hv : s.laneView? c d = some v) (reason : FaultKind) (compared : Bool) (again : Lane → Lane)
    (hfew : v.record.attempts < 2) : (s.countAttempt c d reason compared again).spotter = s.spotter := by
  rw [State.countAttempt_again hv _ _ _ hfew, State.modDest_spotter, State.modLane_spotter]

/-- The state in which a held failure is looked at after a good read-back (R80). -/
def State.readBack (s : State) (c : ChannelId) (d clip : Nat) : State :=
  (((s.modLane c d fun l => { l with verify := none }).modDest clip d
    fun x => { x with verified := x.verified + 1, attempts := 0 }).releaseExtents c)

theorem State.readBack_spotter (clip : Nat) : (s.readBack c d clip).spotter = s.spotter := by
  rw [State.readBack, State.releaseExtents_spotter, State.modDest_spotter, State.modLane_spotter]

theorem State.laneView?_readBack (hv : s.laneView? c d = some v) :
    ∃ w, (s.readBack c d v.bind.clip).laneView? c d = some w ∧ w.bind.clip = v.bind.clip ∧
      w.lane = { v.lane with verify := none } ∧
      w.record = { v.record with verified := v.record.verified + 1, attempts := 0 } := by
  have hlane := State.laneView?_modLane hv (fun l => { l with verify := none }) fun _ => rfl
  have hdest := State.laneView?_modDest hlane fun x => { x with verified := x.verified + 1, attempts := 0 }
  exact ⟨_, State.laneView?_releaseExtents hdest, rfl, rfl, rfl⟩

end

/-- Settles O38. -/
theorem verifyJudged : Obligations.VerifyJudged := by
  intro s c d k data v hv hnotes ended whole lanes entry filed again failed
  have hcleared := State.laneView?_modLane hv (fun l => { l with verify := none }) fun _ => rfl
  have hagain {t : State} {w : LaneView} (hw : t.laneView? c d = some w) (hclip : w.bind.clip = v.bind.clip)
      (hlane : w.lane = { v.lane with verify := none, rewrite := some k })
      (hrecord : w.record = { v.record with attempts := v.record.attempts + 1 }) : again t := by
    obtain ⟨hmem, hdest, hrec⟩ := State.laneView?_mem hw
    rw [hclip, hrecord] at hrec
    exact ⟨hrec, w.lane, hmem, hdest, by rw [hlane], by rw [hlane]⟩
  refine ⟨fun hcrc => ?_, fun n hbad => ?_, fun r reason hfail => ?_⟩
  · intro t next
    obtain ⟨w, hw, hclip, hlane, hrecord⟩ := State.laneView?_readBack hv
    have ht : t = (s.readBack c d v.bind.clip).takeUpFailure c d := State.verifyEnd_of_good hv hcrc
    have hspotter : (s.readBack c d v.bind.clip).spotter = s.spotter := s.readBack_spotter v.bind.clip
    have hnext : w.record.verified = next := by rw [hrecord]
    have hheld : w.lane.heldFailure = v.lane.heldFailure := by rw [hlane]
    clear_value t
    generalize s.readBack c d v.bind.clip = u at hw ht hspotter
    have hstill (hno : ∀ reason, v.lane.heldFailure ≠ some (next, reason)) : t = u := by
      rw [ht]
      exact State.takeUpFailure_of_not_reached hw fun reason h => hno reason (by rw [← hheld, h, hnext])
    have htaken {reason : FaultKind} (hyes : v.lane.heldFailure = some (next, reason)) :
        t.spotter = s.spotter ∧ t.dest? v.bind.clip d = some { v.record with verified := next, attempts := 1 } ∧
          ∃ y ∈ lanes t, y.dest = d ∧ y.rewrite = some next ∧ y.heldFailure = none := by
      have hreached : w.lane.heldFailure = some (w.record.verified, reason) := by rw [hheld, hnext, hyes]
      rw [State.takeUpFailure_of_reached hw hreached] at ht
      have hview := State.laneView?_modLane hw (fun l => { l with heldFailure := none }) fun _ => rfl
      have hfew : w.record.attempts < 2 := by simp [hrecord]
      obtain ⟨z, hz, hzclip, hzlane, hzrecord⟩ := State.laneView?_countAttempt hview reason false
        (fun l => { l with rewrite := some w.record.verified }) (fun _ => rfl) hfew
      have hsame := State.countAttempt_spotter hview reason false (fun l => { l with rewrite := some w.record.verified }) hfew
      rw [← ht] at hz hsame
      obtain ⟨hmem, hdest, hrec⟩ := State.laneView?_mem hz
      rw [State.modLane_spotter] at hsame
      rw [hzclip, hzrecord] at hrec
      refine ⟨hsame.trans hspotter, ?_, z.lane, hmem, hdest, by rw [hzlane, hnext], by rw [hzlane]⟩
      have hb : (w.bind.withLane d fun l => { l with heldFailure := none }).clip = v.bind.clip := hclip
      rw [← hb, hrec, hrecord]
    refine ⟨?_, fun hno => ?_, fun reason hyes => (htaken hyes).2⟩
    · by_cases hyes : ∃ reason, v.lane.heldFailure = some (next, reason)
      · obtain ⟨reason, hyes⟩ := hyes
        exact (htaken hyes).1
      · rw [hstill fun reason h => hyes ⟨reason, h⟩, hspotter]
    · obtain ⟨-, -, hrec⟩ := State.laneView?_mem hw
      rw [hstill hno, ← hclip, hrec, hrecord]
  · intro t
    have ht : t = _ := State.verifyEnd_of_bad hv hbad
    have hfile := State.laneView?_file hcleared (f := copyFiling .verifyMismatch v.bind.clip v.record.endpoint k) rfl
    have hlog (hroom : s.spotter.log.length < 128) :
        ((s.modLane c d fun l => { l with verify := none }).file
          (copyFiling .verifyMismatch v.bind.clip v.record.endpoint k)).spotter.log =
          s.spotter.log ++ [entry .verifyMismatch k] := by
      rw [State.file_log, State.modLane_spotter, FaultSpotter.filed_of_room hroom, State.modLane_now]
      rfl
    clear_value t
    subst ht
    by_cases hfew : v.record.attempts < 2
    · obtain ⟨w, hw, hclip, hlane, hrecord⟩ :=
        State.laneView?_countAttempt hfile .verifyMismatch true (fun l => { l with rewrite := some k }) (fun _ => rfl) hfew
      refine ⟨fun hroom => ?_, fun _ => hagain hw hclip hlane hrecord, fun hmany => absurd hfew (Nat.not_lt.mpr hmany)⟩
      rw [State.countAttempt_spotter hfile _ _ _ hfew, hlog hroom]
    · have hmany := Nat.not_lt.mp hfew
      have hgone := State.countAttempt_gone_compared hfile hnotes .verifyMismatch (fun l => { l with rewrite := some k }) hmany
      refine ⟨fun hroom => ?_, fun h => absurd h hfew, fun _ => ⟨hgone.record, hgone.lanes⟩⟩
      have := hgone.log (by rw [hlog hroom]; simp only [List.length_append, List.length_singleton, List.length_nil]; omega)
      rw [this, hlog hroom, List.append_nil]
  · obtain ⟨hr, rfl⟩ := AskEnd.failed_of hfail
    have hended : ended r = _ := State.verifyEnd_of_failed hv k data hr
    rw [hended]
    refine ⟨fun hfew => ?_, fun hmany => ?_⟩
    · obtain ⟨w, hw, hclip, hlane, hrecord⟩ :=
        State.laneView?_countAttempt hcleared r.reason false (fun l => { l with rewrite := some k }) (fun _ => rfl) hfew
      refine ⟨hagain hw hclip hlane hrecord, fun _ => ?_⟩
      rw [State.countAttempt_spotter hcleared _ _ _ hfew, State.modLane_spotter, List.append_nil]
    · have hgone := State.countAttempt_modLane_gone hv hnotes (fun l => { l with verify := none })
        (fun l => { l with rewrite := some k }) (fun _ => rfl) r.reason hmany
      exact ⟨⟨hgone.record, hgone.lanes⟩, fun hroom => hgone.log (by simpa using hroom)⟩

end Sys2Proof.Machine
end

section
/-!
The ends of IDENTIFY, of a data source's opening ask and of its READs (R51 to R53, R57, R58, R68 to R71, R73, R75 to R77, R86,
R97 to R99).
-/

namespace Sys2Proof.Machine

/-! ### A binding that fails (R69, R86, R87) -/

section
variable {s t : State} {c : ChannelId} {b : Binding} {x : ClipRecord} {reason : FaultKind} {detail : Nat}

/-- A clip whose IN_PROGRESS records have failed, with its copy fault counted, settled (R56, R86). -/
theorem ClipRecord.settle_failed (x : ClipRecord) (reason : FaultKind) :
    ((x.mapIn .inProgress (DestRecord.fail reason)).countFault .copy).settle = { x with
      dests := x.dests.map fun d =>
        if d.state = .inProgress then { d with state := .failed, reason := some reason } else d
      copyState :=
        if ∀ d ∈ x.dests, d.state = .verified then .complete
        else if ∃ d ∈ x.dests, d.state = .verified then .partialCopy
        else .failed
      copyFaults := min (x.copyFaults + 1) 65535
      qc := if x.qc = .clean then .flagged else x.qc } := by
  have hverified (d : DestRecord) :
      (if d.state = .inProgress then d.fail reason else d).state = .verified ↔ d.state = .verified := by
    split
    · next h => simp [h, DestRecord.fail]
    · rfl
  have hcopy : ((x.mapIn .inProgress (DestRecord.fail reason)).countFault .copy).settledState =
      if ∀ d ∈ x.dests, d.state = .verified then .complete
      else if ∃ d ∈ x.dests, d.state = .verified then .partialCopy
      else .failed := by
    rw [ClipRecord.settledState_eq]
    simp only [ClipRecord.countFault, ClipRecord.mapIn, List.mem_map, forall_exists_index, and_imp, forall_apply_eq_imp_iff₂,
      exists_exists_and_eq_and, hverified]
  rw [ClipRecord.settle, hcopy]
  rfl

theorem ClipRecord.mapIn_allSettled (hnone : ∀ d ∈ x.dests, d.state ≠ .pending) :
    ((x.mapIn .inProgress (DestRecord.fail reason)).countFault .copy).allSettled = true := by
  rw [ClipRecord.allSettled_iff]
  rintro ⟨r, hr, hstate⟩
  obtain ⟨d, hd, rfl⟩ := List.mem_map.mp hr
  have := hnone d hd
  split at hstate
  · simp [DestRecord.fail] at hstate
  · next h => exact hstate.elim this h

theorem State.takeNotes_nil (s : State) (k : Nat) : s.takeNotes k [] = s := rfl

/-- The failure of a binding without noted returns, of a clip without PENDING record (R69, R86, R87). -/
theorem State.failBinding_failed (hb : s.channel c = .bound b) (hx : s.clip? b.clip = some x) (hnotes : b.notes = [])
    (hnone : ∀ d ∈ x.dests, d.state ≠ .pending) (hcopy : reason.faultClass = .copy) :
    s.bindingFailed (s.failBinding c reason detail) c b x reason detail := by
  let u := ((s.setClip b.clip (some (x.mapIn .inProgress (DestRecord.fail reason)))).withdrawAsks
    (Purpose.ofChannel c)).setChannel c (.bound { b with lanes := [] })
  have hu : s.failBinding c reason detail = (u.file (copyFiling reason b.clip b.source.endpoint detail)).checkSettle c := by
    have hb' : ((s.setClip b.clip (some (x.mapIn .inProgress (DestRecord.fail reason)))).withdrawAsks
      (Purpose.ofChannel c)).channel c = .bound b := hb
    simp only [State.failBinding, State.binding?_of_bound hb, State.modClip_of_some hx, State.modBinding_of_bound hb']
    rfl
  have hchannel (a : ChannelId) : u.channel a = if a = c then .bound { b with lanes := [] } else s.channel a := by
    rw [State.channel_setChannel_eq]
    rfl
  have hclips (n : Nat) : u.clip? n = if b.clip = n ∧ n < 512 then some (x.mapIn .inProgress (DestRecord.fail reason))
      else s.clip? n := State.clip?_setClip ..
  have hspotter : u.spotter = s.spotter := rfl
  have hnow : u.now = s.now := rfl
  clear_value u
  have hbound : (u.file (copyFiling reason b.clip b.source.endpoint detail)).channel c = .bound { b with lanes := [] } := by
    rw [State.file_channel, hchannel, if_pos rfl]
  have hclip : (u.file (copyFiling reason b.clip b.source.endpoint detail)).clip? b.clip =
      some ((x.mapIn .inProgress (DestRecord.fail reason)).countFault .copy) := by
    rw [State.file_clip?, if_pos (show (copyFiling reason b.clip b.source.endpoint detail).clip = some b.clip from rfl), hclips,
      if_pos ⟨rfl, State.clip?_lt hx⟩, Option.map_some, ← hcopy]
    rfl
  have hsettle := State.settleClip_of_bound hbound hclip
  rw [hu, State.checkSettle_of_settled hbound hclip (ClipRecord.mapIn_allSettled hnone), hsettle, hnotes, State.takeNotes_nil,
    State.settledClip, ClipRecord.settle_failed]
  refine ⟨?_, ?_, fun a ha => ?_, fun n hn => ?_, fun hroom => ?_⟩
  · rw [State.trySettleJob_clip?, State.clip?_setClip, if_pos ⟨rfl, State.clip?_lt hx⟩]
  · rw [State.trySettleJob_channel, State.setClip_channel, State.channel_setChannel]
    cases hhandle : b.handle <;> simp only [Binding.afterSettling, hhandle]
  · rw [State.trySettleJob_channel, State.setClip_channel, State.channel_setChannel_eq, if_neg ha, State.withdrawAsks_channel,
      State.file_channel, hchannel, if_neg ha]
  · have hother : (copyFiling reason b.clip b.source.endpoint detail).clip ≠ some n := fun e => hn (Option.some.inj e).symm
    rw [State.trySettleJob_clip?, State.clip?_setClip, if_neg fun h => hn h.1.symm, State.setChannel_clip?,
      State.withdrawAsks_clip?, State.file_clip?, if_neg hother, hclips, if_neg fun h => hn h.1.symm]
  · rw [State.trySettleJob_spotter, State.setClip_spotter, State.setChannel_spotter, State.withdrawAsks_spotter, State.file_log,
      hspotter, FaultSpotter.filed_of_room hroom, hnow]
    rfl

/-- A binding whose marks were changed before it failed (R69, R86). -/
theorem State.bindingFailed_of_setChannel {y : Binding} (h : (s.setChannel c (.bound y)).bindingFailed t c y x reason detail)
    (hclip : y.clip = b.clip) (hjob : y.job = b.job) (hsource : y.source = b.source) (hhandle : y.handle = b.handle) :
    s.bindingFailed t c b x reason detail := by
  obtain ⟨hk, hc, hchannels, hclips, hlog⟩ := h
  rw [hclip] at hk hclips hlog
  rw [hjob, hsource, hhandle] at hc
  rw [hsource] at hlog
  exact ⟨hk, hc, fun a ha => by rw [hchannels a ha, State.channel_setChannel_eq, if_neg ha], hclips, hlog⟩

theorem DataSource.reason_eq (x : DataSource) : x.reason = if x.isPeer then .noSource else .sourceReadFailed := by
  cases x <;> rfl

theorem DataSource.reason_copy (x : DataSource) : x.reason.faultClass = .copy := by cases x <;> rfl

/-- The data source of a binding whose marks were changed has failed (R86, R99). -/
theorem State.failSource_failed (hx : s.clip? b.clip = some x) (hnotes : b.notes = [])
    (hnone : ∀ d ∈ x.dests, d.state ≠ .pending) {y : Binding} (hclip : y.clip = b.clip) (hjob : y.job = b.job)
    (hsource : y.source = b.source) (hhandle : y.handle = b.handle) (hynotes : y.notes = b.notes) :
    s.bindingFailed ((s.setChannel c (.bound y)).failSource c detail) c b x
      (if b.source.isPeer then .noSource else .sourceReadFailed) detail := by
  have hy : (s.setChannel c (.bound y)).channel c = .bound y := State.channel_setChannel ..
  have hclip' : (s.setChannel c (.bound y)).clip? y.clip = some x := by rw [hclip]; exact hx
  have hfail : (s.setChannel c (.bound y)).failSource c detail = (s.setChannel c (.bound y)).failBinding c b.source.reason detail := by
    simp only [State.failSource, State.binding?_of_bound hy, hsource]
  rw [hfail, ← DataSource.reason_eq]
  exact State.bindingFailed_of_setChannel
    (State.failBinding_failed hy hclip' (hynotes.trans hnotes) hnone b.source.reason_copy) hclip hjob hsource hhandle

end

/-! ### IDENTIFY (R51 to R53) -/

section
variable {s : State} {n : Nat} {j : JobRecord}

theorem State.changeMedium_of_not_fresh {e : EpName} {k : Nat} {x : ClipRecord} (hx : s.clip? k = some x) (h : x.fresh = false) :
    s.changeMedium e k = s := by
  simp only [State.changeMedium, State.clipIs, hx, h, if_false, Bool.false_eq_true]

theorem State.changeMedium_of_fresh {e : EpName} {k : Nat} {x : ClipRecord} (hx : s.clip? k = some x) (h : x.fresh = true) :
    s.changeMedium e k = (s.setClip k (some x.changeMedium)).file (copyFiling .mediumChanged k e 0) := by
  simp only [State.changeMedium, State.clipIs, hx, h, if_true, State.modClip_of_some hx]

theorem State.changeMedium_job? (e : EpName) (k m : Nat) : (s.changeMedium e k).job? m = s.job? m := by
  unfold State.changeMedium
  split <;> simp

theorem State.needsSource_iff (s : State) (j : JobRecord) :
    s.needsSource j = true ↔ ∃ k ∈ j.clips, ∃ c, s.clip? k = some c ∧ c.fresh = true := by
  rw [State.needsSource, List.any_eq_true]
  refine exists_congr fun k => and_congr_right fun _ => ?_
  rw [State.clipIs_eq]
  cases s.clip? k <;> simp

theorem State.identifyEnd_of_other {r : AskEnd} (h : r = .lost ∨ r = .timeout ∨ r = .noMedium ∨ ∃ code, r = .error code) :
    s.identifyEnd n r = s.identifyFailed n := by
  rcases h with rfl | rfl | rfl | ⟨code, rfl⟩ <;> rfl

theorem State.identifyExhausted_of_some (hj : s.job? n = some j) :
    s.identifyExhausted n = (s.setIdentify n ⟨0, false⟩).setJob n (some
      (if s.needsSource j = true then { j with state := .suspended, suspend := some .sourceUnavailable }
      else { j with state := .active, standing := some .peerOnly })) := by
  have hj' : (s.setIdentify n ⟨0, false⟩).job? n = some j := hj
  have hneeds : (s.setIdentify n ⟨0, false⟩).needsSource j = s.needsSource j := rfl
  simp only [State.identifyExhausted, hj, hneeds, State.modJob_of_some hj']
  split <;> rfl

end

/-! ### The data source opened (R68, R71, R97) -/

section
variable {s : State} {c : ChannelId} {b : Binding} {x : ClipRecord}

/-- A binding whose data source is open (R68, R71). -/
def Binding.opened (b : Binding) (x : ClipRecord) (h : Word32) : Binding :=
  { b with handle := some h, opening := false, openAttempts := 0, readPos := x.lowestPrefix.getD 0 }

theorem ClipRecord.extents_eq_zero (x : ClipRecord) : x.extents = 0 ↔ x.size = 0 := by
  show (x.size + 4194303) / 4194304 = 0 ↔ _
  omega

theorem ClipRecord.closeEmpty_eq (x : ClipRecord) :
    x.closeEmpty = if x.size = 0 then { x with fileCrc := some (~~~ x.register) } else x := by
  simp only [ClipRecord.closeEmpty, x.extents_eq_zero]
  rfl

theorem State.sourceOpened_card (hb : s.channel c = .bound b) (hx : s.clip? b.clip = some x) (hcard : b.source.isPeer = false)
    (h : Word32) :
    s.sourceOpened c h = (s.setClip b.clip (some x.closeEmpty)).setChannel c (.bound (b.opened x h)) := by
  have hx' : (s.setChannel c (.bound (b.opened x h))).clip? b.clip = some x := hx
  have hmod := State.modClip_of_some hx' (·.closeEmpty)
  simp only [State.sourceOpened, State.binding?_of_bound hb, State.boundClip?_of_bound hb, hx, Option.bind_some,
    State.modBinding_of_bound hb, hcard, Bool.false_eq_true, if_false]
  exact hmod

theorem State.sourceOpened_peer (hb : s.channel c = .bound b) (hx : s.clip? b.clip = some x) (hpeer : b.source.isPeer = true)
    (h : Word32) : s.sourceOpened c h = s.setChannel c (.bound (b.opened x h)) := by
  simp only [State.sourceOpened, State.binding?_of_bound hb, State.boundClip?_of_bound hb, hx, Option.bind_some,
    State.modBinding_of_bound hb, hpeer, if_true]
  rfl

theorem State.openEnd_of_failed (hb : s.channel c = .bound b) {r : AskEnd} (hr : r.failed) :
    s.openEnd c r =
      if b.openAttempts < 3 then s.setChannel c (.bound { b with opening := false })
      else (s.setChannel c (.bound { b with opening := false })).failSource c 0 := by
  have hfailed : s.openEnd c r = s.openFailed c := by rcases hr with rfl | rfl | ⟨code, rfl⟩ <;> rfl
  rw [hfailed]
  simp only [State.openFailed, State.binding?_of_bound hb, State.modBinding_of_bound hb]
  rfl

end

/-- Settles O35. -/
theorem identifyAndOpenEnds : Obligations.IdentifyAndOpenEnds := by
  refine ⟨fun s e k x hx => ⟨State.changeMedium_of_not_fresh hx, State.changeMedium_of_fresh hx⟩, fun s n j data hj => ?_,
    fun s c b x data hb hx => ?_⟩
  · intro ended cleared
    have hcleared : cleared.job? n = some j := hj
    refine ⟨fun m hm => ?_, fun m hnone hm => ?_, fun r hr => ?_⟩
    · show State.identifyAnswered s n m = _
      simp only [State.identifyAnswered, hj, if_pos hm]
      exact State.modJob_of_some hcleared _
    · intro t work
      have hjob : t.job? n = some j := by
        refine Eq.trans ?_ hcleared
        exact foldl_keeps (fun u : State => u.job? n) (fun (u : State) k => u.changeMedium j.source k)
          (fun u k => State.changeMedium_job? ..) _ _
      have hended : ended (.ok (.identity m)) =
          if t.hasWork j then t.modJob n fun j => { j with state := .active, standing := some .peerOnly } else t.settleJob n := by
        have hno : ¬ (j.medium = none ∨ j.medium = some m) := fun h => h.elim hnone hm
        show State.identifyAnswered s n m = _
        simp only [State.identifyAnswered, hj, if_neg hno]
        rfl
      have hwork : t.hasWork j = true ↔ work := t.hasWork_iff j
      clear_value t
      rw [hended]
      refine ⟨fun h => ?_, fun h => ?_⟩
      · rw [if_pos (hwork.mpr h), State.modJob_of_some hjob]
      · rw [if_neg fun hw => h (hwork.mp hw), State.settleJob_of_some hjob]
        refine ⟨_, ?_, ?_, rfl⟩
        · split
          · exact Or.inl rfl
          · exact Or.inr rfl
        · split
          · next h => exact iff_of_true rfl h
          · next h => exact iff_of_false nofun h
    · intro made needed
      have hended : ended r = s.identifyFailed n := State.identifyEnd_of_other hr
      have hneeds : s.needsSource j = true ↔ needed := s.needsSource_iff j
      have hmany (h : 3 ≤ made) : ended r = s.identifyExhausted n := by
        rw [hended]
        exact if_neg (Nat.not_lt.mpr h)
      refine ⟨fun hfew => ?_, fun h hn => ?_, fun h hn => ?_⟩
      · rw [hended]
        exact if_pos hfew
      · rw [hmany h, State.identifyExhausted_of_some hj, if_pos (hneeds.mpr hn)]
      · rw [hmany h, State.identifyExhausted_of_some hj, if_neg fun hs => hn (hneeds.mp hs)]
  · intro ended prefixes opened
    refine ⟨fun e h hsource => ?_, fun e i h hsource => ?_, fun h size hsize hnotes hnone => ?_, fun r hr => ?_, ?_⟩
    · show s.openEnd c (.ok (.opened h x.size)) = _
      simp only [State.openEnd, State.boundClip?_of_bound hb, hx, if_true]
      rw [State.sourceOpened_card hb hx (by rw [hsource]; rfl), x.closeEmpty_eq]
      rfl
    · show s.openEnd c (.ok (.created h)) = _
      simp only [State.openEnd]
      rw [State.sourceOpened_peer hb hx (by rw [hsource]; rfl)]
      rfl
    · show s.bindingFailed (s.openEnd c (.ok (.opened h size))) c _ x _ _
      simp only [State.openEnd, State.boundClip?_of_bound hb, hx, if_neg hsize, State.sizeMismatch, State.modBinding_of_bound hb]
      exact State.bindingFailed_of_setChannel (State.failBinding_failed (State.channel_setChannel ..) hx hnotes hnone rfl)
        rfl rfl rfl rfl
    · have hended : ended r = _ := State.openEnd_of_failed hb hr
      rw [hended]
      refine ⟨fun hfew => if_pos hfew, fun hmany hnotes hnone => ?_⟩
      rw [if_neg (Nat.not_lt.mpr hmany)]
      exact State.failSource_failed hx hnotes hnone rfl rfl rfl rfl rfl
    · show s.openEnd c .lost = s.readEnd c data .lost
      simp only [State.openEnd, State.readEnd, State.binding?_of_bound hb, State.boundClip?_of_bound hb, hx]

end Sys2Proof.Machine
end

section
/-!
The ends of a data source's READs and check reads, and the loss of a data source (R57, R58, R73, R75, R77, R97 to R99).
-/

namespace Sys2Proof.Machine

section
variable {s : State} {c : ChannelId} {b : Binding} {x : ClipRecord}

/-- A filing without a stream leaves the channels to be set before or after it (R160). -/
theorem State.file_setChannel {f : Filing} (hf : f.stream = none) (y : Channel) :
    (s.setChannel c y).file f = (s.file f).setChannel c y := by
  have hlog : (s.setChannel c y).logFault f = (s.logFault f).setChannel c y := by
    rw [State.logFault_eq, State.logFault_eq]
    rfl
  have hfile (u : State) : u.file f = (u.logFault f).countFault f := by simp only [State.file, State.reportFault, hf]
  rw [hfile, hfile, hlog]
  unfold State.countFault
  cases f.clip with
  | none => rfl
  | some k => exact State.modClip_setChannel ..

/-- The held extents of a binding that its clip's records still need (R73). -/
def Binding.needed (x : ClipRecord) (held : List HeldExtent) : List HeldExtent :=
  held.filter fun h => x.dests.any fun d => d.state == .inProgress && d.verified ≤ h.extent

/-- The release check of a binding with no READ outstanding (R73). -/
theorem State.releaseExtents_idle (hb : s.channel c = .bound b) (hx : s.clip? b.clip = some x) (hidle : b.reading = false) :
    s.releaseExtents c = s.setChannel c (.bound { b with held := Binding.needed x b.held }) := by
  have hheld : (b.held.filter fun h => h.stays x b.reading) = Binding.needed x b.held := by
    refine List.filter_congr fun h _ => ?_
    rw [HeldExtent.stays_eq, hidle, Bool.false_and, Bool.or_false]
  rw [State.releaseExtents_of_bound hb hx, hheld]

theorem State.releaseExtents_setChannel {y : Binding} (hx : s.clip? y.clip = some x) (hidle : y.reading = false) :
    (s.setChannel c (.bound y)).releaseExtents c = s.setChannel c (.bound { y with held := Binding.needed x y.held }) := by
  have hy : (s.setChannel c (.bound y)).channel c = .bound y := State.channel_setChannel ..
  have hclip : (s.setChannel c (.bound y)).clip? y.clip = some x := hx
  rw [State.releaseExtents_idle hy hclip hidle, State.setChannel_setChannel]

theorem ClipRecord.fold_dests (k : Nat) (data : List Byte) : (x.fold k data).dests = x.dests := by
  unfold ClipRecord.fold
  split <;> rfl

/-! ### A READ that succeeds (R73, R75, R98) -/

/-- A binding after a READ of its read position has succeeded (R75, R98). -/
def Binding.filled (b : Binding) (x : ClipRecord) (data : List Byte) : Binding :=
  { b with
    reading := false
    readAttempts := 0
    readPos := b.readPos + 1
    held := Binding.needed x (b.held.map fun (h : HeldExtent) =>
      if h.extent = b.readPos then { h with phase := .read (crc64 data) data } else h)
    peerRegister := if b.source.isPeer then crc64Feed b.peerRegister data else b.peerRegister
    peerNext := if b.source.isPeer then b.readPos + 1 else b.peerNext }

theorem State.readSucceeded_card (hb : s.channel c = .bound b) (hx : s.clip? b.clip = some x) (hcard : b.source.isPeer = false)
    (data : List Byte) :
    s.readSucceeded c b.readPos data =
      (s.setClip b.clip (some (x.fold b.readPos data))).setChannel c (.bound (b.filled x data)) := by
  simp only [State.readSucceeded, State.binding?_of_bound hb, State.modBinding_of_bound hb, hcard, Bool.false_eq_true, if_false]
  rw [State.modClip_setChannel, State.modClip_of_some hx]
  have hclip : ((s.setClip b.clip (some (x.fold b.readPos data)))).clip? b.clip = some (x.fold b.readPos data) := by
    rw [State.clip?_setClip, if_pos ⟨rfl, State.clip?_lt hx⟩]
  rw [State.releaseExtents_setChannel (x := x.fold b.readPos data)]
  · simp only [Binding.needed, ClipRecord.fold_dests, Binding.filled, hcard, Bool.false_eq_true, if_false]
    rfl
  · exact hclip
  · rfl

theorem State.readSucceeded_peer (hb : s.channel c = .bound b) (hx : s.clip? b.clip = some x) (hpeer : b.source.isPeer = true)
    (data : List Byte) : s.readSucceeded c b.readPos data = s.setChannel c (.bound (b.filled x data)) := by
  simp only [State.readSucceeded, State.binding?_of_bound hb, State.modBinding_of_bound hb, hpeer, if_true]
  rw [State.releaseExtents_setChannel (x := x)]
  · simp only [Binding.filled, hpeer, if_true]
    rfl
  · exact hx
  · rfl

/-! ### A READ that fails (R77) -/

/-- A binding whose READ has failed and is to be made again (R77). -/
def Binding.rereading (b : Binding) (x : ClipRecord) : Binding :=
  { b with reading := false, readAttempts := b.readAttempts + 1, held := Binding.needed x b.held }

theorem State.readFailed_again (hb : s.channel c = .bound b) (hx : s.clip? b.clip = some x) (hfew : b.readAttempts < 2)
    (k : Nat) : s.readFailed c k none = s.setChannel c (.bound (b.rereading x)) := by
  have hlimit : b.readAttempts + 1 < Config.attemptLimit := Nat.succ_lt_succ hfew
  simp only [State.readFailed, State.binding?_of_bound hb, State.modBinding_of_bound hb, if_pos hlimit]
  rw [State.releaseExtents_setChannel (x := x)]
  · rfl
  · exact hx
  · rfl

theorem State.readFailed_short (hb : s.channel c = .bound b) (hx : s.clip? b.clip = some x) (hfew : b.readAttempts < 2)
    (k n : Nat) :
    s.readFailed c k (some n) =
      (s.file (copyFiling .shortRead b.clip b.source.endpoint n)).setChannel c (.bound (b.rereading x)) := by
  have hlimit : b.readAttempts + 1 < Config.attemptLimit := Nat.succ_lt_succ hfew
  have hclip : (s.file (copyFiling .shortRead b.clip b.source.endpoint n)).clip? b.clip = some (x.countFault .copy) := by
    rw [State.file_clip?, if_pos (show (copyFiling .shortRead b.clip b.source.endpoint n).clip = some b.clip from rfl), hx]
    rfl
  simp only [State.readFailed, State.binding?_of_bound hb, State.modBinding_of_bound hb, if_pos hlimit]
  rw [State.file_setChannel rfl, State.releaseExtents_setChannel (x := x.countFault .copy)]
  · rfl
  · exact hclip
  · rfl

theorem State.readFailed_exhausted (hb : s.channel c = .bound b) (hmany : 2 ≤ b.readAttempts) (k : Nat) (short : Option Nat) :
    s.readFailed c k short =
      (s.setChannel c (.bound { b with reading := false, readAttempts := b.readAttempts + 1 })).failSource c k := by
  have hlimit : ¬ b.readAttempts + 1 < Config.attemptLimit := Nat.not_lt.mpr (Nat.succ_le_succ hmany)
  simp only [State.readFailed, State.binding?_of_bound hb, State.modBinding_of_bound hb, if_neg hlimit]

/-- The bytes that a short READ of extent `k` received. -/
def AskEnd.shortOf (r : AskEnd) : Option Nat :=
  match r with
  | .ok (.count n) => some n
  | _ => none

/-- A READ that ended otherwise than with all its bytes, or a loss (R77). -/
def AskEnd.readFails (r : AskEnd) (whole : Nat) : Prop := r.failed ∨ ∃ n, n ≠ whole ∧ r = .ok (.count n)

theorem State.readEnd_of_fails (hb : s.channel c = .bound b) (hx : s.clip? b.clip = some x) (data : List Byte) {r : AskEnd}
    (hr : r.readFails (extentLength x.size b.readPos)) : s.readEnd c data r = s.readFailed c b.readPos r.shortOf := by
  rcases hr with (rfl | rfl | ⟨code, rfl⟩) | ⟨n, hn, rfl⟩
  case inr => simp only [State.readEnd, State.binding?_of_bound hb, State.boundClip?_of_bound hb, hx, if_neg hn, AskEnd.shortOf]
  all_goals simp only [State.readEnd, State.binding?_of_bound hb, State.boundClip?_of_bound hb, hx, AskEnd.shortOf]

theorem State.checkEnd_of_fails (hb : s.channel c = .bound b) (hx : s.clip? b.clip = some x) (data : List Byte) {r : AskEnd}
    (hr : r.readFails (extentLength x.size b.peerNext)) : s.checkEnd c data r = s.readFailed c b.peerNext r.shortOf := by
  rcases hr with (rfl | rfl | ⟨code, rfl⟩) | ⟨n, hn, rfl⟩
  case inr => simp only [State.checkEnd, State.binding?_of_bound hb, State.boundClip?_of_bound hb, hx, if_neg hn, AskEnd.shortOf]
  all_goals simp only [State.checkEnd, State.binding?_of_bound hb, State.boundClip?_of_bound hb, hx, AskEnd.shortOf]

theorem AskEnd.shortOf_of_failed {r : AskEnd} (hr : r.failed) : r.shortOf = none := by
  rcases hr with rfl | rfl | ⟨code, rfl⟩ <;> rfl

theorem State.readFailed_failed (hb : s.channel c = .bound b) (hx : s.clip? b.clip = some x) (hmany : 2 ≤ b.readAttempts)
    (hnotes : b.notes = []) (hnone : ∀ d ∈ x.dests, d.state ≠ .pending) (k : Nat) (short : Option Nat) :
    s.bindingFailed (s.readFailed c k short) c b x (if b.source.isPeer then .noSource else .sourceReadFailed) k := by
  rw [State.readFailed_exhausted hb hmany]
  exact State.failSource_failed hx hnotes hnone rfl rfl rfl rfl rfl

/-! ### The data source lost (R57, R58, R99) -/

theorem State.raiseReadPos_of_bound (hb : s.channel c = .bound b) (hx : s.clip? b.clip = some x) {low : Nat}
    (hlow : x.lowestPrefix = some low) (hhandle : b.handle ≠ none) (hreading : b.reading = false) (hlt : b.readPos < low) :
    s.raiseReadPos c = s.setChannel c (.bound { b with
      readPos := low, readAttempts := if b.source.isPeer then b.readAttempts else 0 }) := by
  have hgo : (b.handle.isSome && !b.reading && decide (b.readPos < low)) = true := by
    simp [Option.isSome_iff_ne_none.mpr hhandle, hreading, hlt]
  simp only [State.raiseReadPos, State.binding?_of_bound hb, State.boundClip?_of_bound hb, hx, Option.bind_some, hlow, if_pos hgo,
    State.modBinding_of_bound hb]

/-- A peer lost (R99). -/
theorem State.loseDataSource_peer (hb : s.channel c = .bound b) {e : EpName} {i : Nat} (hsource : b.source = .peer e i)
    (hnotes : b.notes = []) :
    s.loseDataSource c = (((s.file (copyFiling .endpointLost b.clip e 0)).withdrawAsks (Purpose.ofChannel c)).setChannel c
      .free).modClip b.clip (·.unbind) := by
  simp only [State.loseDataSource, State.binding?_of_bound hb, hsource]
  exact State.unbind_of_no_notes (by simpa using hb) hnotes

theorem State.loseDataSource_card (hb : s.channel c = .bound b) {e : EpName} (hsource : b.source = .card e) :
    s.loseDataSource c = s.loseSource b.job := by
  simp only [State.loseDataSource, State.binding?_of_bound hb, hsource]

end

/-- Settles O36. -/
theorem sourceReadEnds : Obligations.SourceReadEnds := by
  intro s c b x data hb hx read check needed filled failing again short reason
  have hread (r : AskEnd) : read r = s.readEnd c data r := rfl
  have hcheck (r : AskEnd) : check r = s.checkEnd c data r := rfl
  have hwhole : read (.ok (.count (extentLength x.size b.readPos))) = s.readSucceeded c b.readPos data := by
    simp only [hread, State.readEnd, State.binding?_of_bound hb, State.boundClip?_of_bound hb, hx, if_true]
  have hlost : read .lost = s.loseDataSource c := by
    simp only [hread, State.readEnd, State.binding?_of_bound hb, State.boundClip?_of_bound hb, hx]
  refine ⟨fun e hsource => ?_, fun e i hsource => ?_, ?_, fun hfew => ⟨fun r hr => ⟨?_, ?_⟩, fun n hn => ?_, fun n hn => ?_⟩,
    fun hmany hnotes hnone => ⟨fun r hr => ?_, fun r hr => ?_⟩, fun low hlow hhandle hreading hlt => ?_,
    fun e i hsource hnotes => ?_, fun e j hsource hj hnotes => ?_⟩
  · have hcard : b.source.isPeer = false := by rw [hsource]; rfl
    rw [hwhole, State.readSucceeded_card hb hx hcard]
    simp only [Binding.filled, hcard, Bool.false_eq_true, if_false]
    rfl
  · have hpeer : b.source.isPeer = true := by rw [hsource]; rfl
    rw [hwhole, State.readSucceeded_peer hb hx hpeer]
    simp only [Binding.filled, hpeer, if_true]
    rfl
  · simp only [hcheck, State.checkEnd, State.binding?_of_bound hb, State.boundClip?_of_bound hb, hx, if_true,
      State.checkSucceeded, State.modBinding_of_bound hb]
  · rw [hread, State.readEnd_of_fails hb hx data (Or.inl hr), AskEnd.shortOf_of_failed hr, State.readFailed_again hb hx hfew]
    rfl
  · rw [hcheck, State.checkEnd_of_fails hb hx data (Or.inl hr), AskEnd.shortOf_of_failed hr, State.readFailed_again hb hx hfew]
    rfl
  · rw [hread, State.readEnd_of_fails hb hx data (Or.inr ⟨n, hn, rfl⟩)]
    exact State.readFailed_short hb hx hfew _ n
  · rw [hcheck, State.checkEnd_of_fails hb hx data (Or.inr ⟨n, hn, rfl⟩)]
    exact State.readFailed_short hb hx hfew _ n
  · rw [hread, State.readEnd_of_fails hb hx data hr]
    exact State.readFailed_failed hb hx hmany hnotes hnone _ _
  · rw [hcheck, State.checkEnd_of_fails hb hx data hr]
    exact State.readFailed_failed hb hx hmany hnotes hnone _ _
  · exact State.raiseReadPos_of_bound hb hx hlow hhandle hreading hlt
  · intro t
    have ht : t = _ := hlost.trans (State.loseDataSource_peer hb hsource hnotes)
    have hsame : check .lost = t := by
      rw [show t = s.loseDataSource c from hlost]
      simp only [hcheck, State.checkEnd, State.binding?_of_bound hb, State.boundClip?_of_bound hb, hx]
    clear_value t
    refine ⟨hsame, ?_, fun d hd => ?_, ?_, fun hroom => ?_⟩
    · rw [ht, State.modClip_channel, State.channel_setChannel]
    · rw [ht, State.modClip_channel, State.channel_setChannel_eq, if_neg hd, State.withdrawAsks_channel, State.file_channel]
    · rw [ht, State.clip?_modClip, if_pos rfl, State.setChannel_clip?, State.withdrawAsks_clip?, State.file_clip?,
        if_pos (show (copyFiling .endpointLost b.clip e 0).clip = some b.clip from rfl), hx]
      rfl
    · rw [ht, State.modClip_spotter, State.setChannel_spotter, State.withdrawAsks_spotter, State.file_log,
        FaultSpotter.filed_of_room hroom]
      rfl
  · intro t
    have ht : t = s.loseSource b.job := hlost.trans (State.loseDataSource_card hb hsource)
    obtain ⟨hjob, -, hchannel, hlog, -⟩ := lossSpreads.2.2.2 s b.job j hj hnotes
    rw [ht]
    exact ⟨hjob, hchannel, hlog⟩

end Sys2Proof.Machine
end

section
/-!
The shadow banks of the look slots loaded and committed (R101 to R106).
-/

namespace Sys2Proof.Machine

section
variable {s : State} {k : Fin 16}

/-- Whether the shadow of a slot is latched (R101). -/
theorem State.shadowLatched_iff :
    s.shadowLatched k = true ↔ ∃ st : StreamId, (s.stream st).latch = some (k, (s.slot k).shadowName) := by
  have hall (st : StreamId) : st ∈ allStreams := by revert st; decide
  rw [State.shadowLatched, State.latched, Bool.not_eq_true', ← Bool.not_eq_true, List.isEmpty_iff, State.latchedBy,
    List.filter_eq_nil_iff]
  push Not
  simp only [hall, true_and, beq_iff_eq]

/-! ### LOOK DATA (R103, R104) -/

/-- A received value and the value stored for it (R104). -/
def clampPair (code first : Nat) (wi : Word32 × Nat) : Int × Int :=
  let raw : Int := if code = 3 then wi.1.toInt else wi.1.toNat
  (raw, if code ≠ 3 then max 0 (min raw 65536)
    else if first + wi.2 < 9 then max (-32768) (min raw 32767) else max (-65536) (min raw 65536))

theorem entryValue_eq (code : Nat) (w : Word32) : entryValue code w = if code = 3 then w.toInt else (w.toNat : Int) := rfl

theorem storedEntries_eq (code first : Nat) (entries : List Word32) :
    storedEntries code first entries =
      (entries.zipIdx.map (clampPair code first)).map fun v => (v.2, v.2 != v.1) := by
  rw [storedEntries, List.map_map]
  refine List.map_congr_left fun wi _ => ?_
  have hkept : clampEntry code (first + wi.2) (entryValue code wi.1) = (clampPair code first wi).2 := by
    simp only [clampEntry, clampPair, entryValue_eq, Nat.lt_succ_iff]
    by_cases h : code = 3 <;> simp [h]
  simp only [Function.comp_apply, hkept]
  rfl

theorem storedEntries_kept (code first : Nat) (entries : List Word32) :
    (storedEntries code first entries).map (·.1) = (entries.zipIdx.map (clampPair code first)).map (·.2) := by
  rw [storedEntries_eq, List.map_map]
  rfl

/-- The number of entries clamped (R104). -/
theorem storedEntries_clamped (code first : Nat) (entries : List Word32) :
    ((storedEntries code first entries).filter (·.2)).length =
      ((entries.zipIdx.map (clampPair code first)).filter fun v => v.1 ≠ v.2).length := by
  rw [storedEntries_eq, List.filter_map, List.length_map]
  congr 1
  refine List.filter_congr fun v _ => ?_
  rw [Bool.eq_iff_iff, Function.comp_apply, bne_iff_ne, decide_eq_true_iff, ne_comm]

theorem Bank.write_of_lt (b : Bank) {code : Nat} (h : code < 5) (first : Nat) (values : List Int) :
    b.write code first values = { b with tables := b.tables.set code (writeRun b.tables[code] first values) } := by
  simp only [Bank.write, Vector.getElem?_eq_getElem h]
  rw [setIfInBounds_eq_set]

theorem tableEntries_of_le (n : Nat) {code : Nat} (h : code ≤ 4) :
    tableEntries n code = if code = 4 then 3 * n ^ 3 else if code = 3 then 12 else 257 := by
  match code, h with
  | 0, _ | 1, _ | 2, _ | 3, _ | 4, _ => rfl

theorem Slot.setBank_active (x : Slot) (n : BankName) (b : Bank) : (x.setBank n b).active = x.active := by cases n <;> rfl

theorem Slot.bank_setBank (x : Slot) (n : BankName) (b : Bank) : (x.setBank n b).bank n = b := by cases n <;> rfl

/-- The shadow of a slot whose shadow bank has been replaced (R102, R104). -/
theorem Slot.resetShadow_shadowBank (x : Slot) (state : ShadowState) (b : Bank) : (x.resetShadow state b).shadowBank = b := by
  have hname : (x.resetShadow state b).shadowName = x.shadowName := by
    unfold Slot.shadowName
    rw [show (x.resetShadow state b).active = x.active from x.setBank_active ..]
  rw [Slot.shadowBank, hname]
  have hbank (n : BankName) : (x.resetShadow state b).bank n = (x.setBank x.shadowName b).bank n := by cases n <;> rfl
  rw [hbank, Slot.bank_setBank]

/-! ### LOOK COMMIT (R105) -/

theorem Slot.commit_eq (x : Slot) : x.commit =
    if x.active = none then { x with active := some .a, shadow := .empty, bankB := ⟨none, Vector.replicate 5 []⟩ }
    else { x with active := some x.shadowName, shadow := .stale } := by
  cases h : x.active <;> simp [Slot.commit, h, Bank.empty]

end

/-- Settles O40. -/
theorem lookLoading : Obligations.LookLoading := by
  intro s p r h u busy
  have hbusy (k : Fin 16) : (s.takeRequest p).shadowLatched k = true ↔ busy k := State.shadowLatched_iff
  have hslot (k : Fin 16) : (s.takeRequest p).slot k = s.slot k := rfl
  refine ⟨fun hn => ?_, fun hn => ?_, fun hn => ?_, fun hn => ?_⟩
  · rw [exec_serve_taking (rule := State.lookBegin) rfl h hn]
    refine congrArg Host.Outcome.next ?_
    split
    case h_1 a n hargs =>
      rw [State.lookBegin, hargs, parseTwo, withArgs_some]
      by_cases ha : a.toNat < 16
      · by_cases hsize : n.toNat = 17 ∨ n.toNat = 33
        · have hgood : ¬ (n.toNat ≠ 17 ∧ n.toNat ≠ 33) := fun hb => hsize.elim hb.1 hb.2
          rw [dif_pos ⟨ha, hsize⟩]
          simp only [slotOf_of_lt ha, if_neg hgood, hbusy, hslot, State.answer_ite, State.answer_refuse, State.answer_done]
          rfl
        · have hbad : n.toNat ≠ 17 ∧ n.toNat ≠ 33 := not_or.mp hsize
          rw [dif_neg fun hb => hsize hb.2]
          simp only [slotOf_of_lt ha, if_pos hbad]
          rfl
      · rw [dif_neg fun hb => ha hb.1]
        simp only [slotOf_of_not_lt ha]
        rfl
    case h_2 hargs =>
      rw [State.lookBegin, parseTwo_eq_none hargs]
      rfl
  · rw [exec_serve_taking (rule := State.lookDiscard) rfl h hn]
    refine congrArg Host.Outcome.next ?_
    split
    case h_1 a hargs =>
      rw [State.lookDiscard, hargs, parseOne, withArgs_some]
      by_cases ha : a.toNat < 16
      · rw [dif_pos ha]
        simp only [slotOf_of_lt ha, hbusy, State.answer_ite, State.answer_refuse, State.answer_done]
        rfl
      · rw [dif_neg ha]
        simp only [slotOf_of_not_lt ha]
        rfl
    case h_2 hargs =>
      rw [State.lookDiscard, parseOne_eq_none hargs]
      rfl
  · rw [exec_serve_taking (rule := State.lookData) rfl h hn]
    refine congrArg Host.Outcome.next ?_
    cases hargs : parseLookData r.args with
    | none =>
      rw [State.lookData, hargs]
      rfl
    | some a =>
      rw [State.lookData, hargs, withArgs_some]
      dsimp only
      by_cases ha : a.slot < 16
      · by_cases hcode : a.code ≤ 4 ∧ a.entries ≠ []
        · have hgood : ¬ (4 < a.code ∨ a.entries = []) := fun hb => hb.elim (Nat.not_lt.mpr hcode.1) hcode.2
          have hlt : a.code < 5 := Nat.lt_succ_of_le hcode.1
          rw [dif_pos ⟨ha, hcode⟩]
          simp only [slotOf_of_lt ha, if_neg hgood, hslot, State.answer_ite, State.answer_refuse, State.answer_done,
            tableEntries_of_le _ hcode.1, Slot.coverage, Slot.load, Slot.resetShadow_shadowBank, Bank.write_of_lt _ hlt,
            storedEntries_kept, storedEntries_clamped]
          rfl
        · have hbad : 4 < a.code ∨ a.entries = [] := by
            rw [not_and_or, not_not] at hcode
            exact hcode.imp_left Nat.not_le.mp
          rw [dif_neg fun hb => hcode hb.2]
          simp only [slotOf_of_lt ha, if_pos hbad]
          rfl
      · rw [dif_neg fun hb => ha hb.1]
        simp only [slotOf_of_not_lt ha]
        rfl
  · rw [exec_serve_taking (rule := State.lookCommit) rfl h hn]
    refine congrArg Host.Outcome.next ?_
    split
    case h_1 a hargs =>
      rw [State.lookCommit, hargs, parseOne, withArgs_some]
      by_cases ha : a.toNat < 16
      · rw [dif_pos ha]
        have hcommit : (s.takeRequest p).modSlot ⟨a.toNat, ha⟩ Slot.commit = u.modSlot ⟨a.toNat, ha⟩ fun y =>
            if y.active = none then { y with active := some .a, shadow := .empty, bankB := ⟨none, Vector.replicate 5 []⟩ }
            else { y with active := some (s.slot ⟨a.toNat, ha⟩).shadowName, shadow := .stale } := by
          simp only [State.modSlot, hslot, Slot.commit_eq, u]
        simp only [slotOf_of_lt ha, hslot, hcommit, State.answer_ite, State.answer_done]
        rfl
      · rw [dif_neg ha]
        simp only [slotOf_of_not_lt ha]
        rfl
    case h_2 hargs =>
      rw [State.lookCommit, parseOne_eq_none hargs]
      rfl

end Sys2Proof.Machine
end

section
/-!
The timers of a stream: pacing ticks, stalls, the end of a regrade (R136 to R138, R166, R167).
-/

namespace Sys2Proof.Machine

/-! ### A tick (R136, R137, R166) -/

theorem bump32_eq (n : Nat) : bump32 n = min (n + 1) 4294967295 := by unfold bump32; rfl

theorem Stream.nextTick_eq (x : Stream) : ∃ o k, x.nextTick = { x with origin := o, tick := k } := by
  unfold Stream.nextTick
  split
  · exact ⟨x.origin, x.tick, rfl⟩
  · split
    · exact ⟨_, 0, rfl⟩
    · exact ⟨x.origin, _, rfl⟩

theorem Stream.nextTick_origin_none {x : Stream} (h : x.origin = none) : x.nextTick = x := by
  simp only [Stream.nextTick, h]

section
variable {s : State} {st : StreamId}

/-- A presentation in progress: a packet handed over or still to come (R136). -/
theorem State.presentingNow_iff : s.presentingNow st = true ↔
    (s.stream st).presenting ≠ [] ∨ (s.port (s.stream st).params.output.port).queueOf (.raster st) ≠ [] := by
  simp [State.presentingNow, State.rasterWaiting]

theorem State.presentingNow_eq_false (h : (s.stream st).presenting = [])
    (hq : (s.port (s.stream st).params.output.port).queueOf (.raster st) = []) : s.presentingNow st = false := by
  simp [State.presentingNow, State.rasterWaiting, h, hq]

theorem State.modStream_self {f : Stream → Stream} (h : f (s.stream st) = s.stream st) : s.modStream st f = s := by
  rw [State.modStream, h]
  simp [State.stream]

theorem State.tick_of_presenting (h : s.presentingNow st = true) (hold : Bool) :
    s.tick st hold = s.modStream st fun y => { y with overruns := bump32 y.overruns } := by
  simp only [State.tick, h, if_true]

theorem State.tick_of_ready (h : s.presentingNow st = false) (hr : (s.stream st).backState = .ready) (hold : Bool) :
    s.tick st hold = ((if hold then s else s.fileRun st).modStream st (·.exchange)).present st := by
  simp only [State.tick, h, hr, Bool.false_eq_true, if_false, if_true]

theorem State.tick_of_not_ready (h : s.presentingNow st = false) (hr : (s.stream st).backState ≠ .ready) (hold : Bool) :
    s.tick st hold = (if hold then s else s.modStream st (·.repeatTick)).present st := by
  simp only [State.tick, h, hr, Bool.false_eq_true, if_false]

/-- An open repeat run is filed (R137). -/
theorem State.fileRun_eq : s.fileRun st =
    if (s.stream st).run.length = 0 then s
    else (s.file (frameFiling st .outputRepeat (s.stream st).run.clip (s.stream st).run.frame
      (s.stream st).run.length)).modStream st fun y => { y with run := ⟨0, 0, 0⟩ } := rfl

/-- What a filing leaves of the stream that it carries: all but its hold-pending mark and its frame in progress. -/
theorem State.file_stream_aside {f : Filing} (h : f.stream = some st) :
    ∃ fr b, (s.file f).stream st = { s.stream st with frame := fr, holdPending := b } :=
  ⟨_, _, s.file_stream f h⟩

/-- Filing the run leaves of its stream all but its hold-pending mark, its frame in progress and the run. -/
theorem State.fileRun_stream_aside :
    ∃ fr b r, (s.fileRun st).stream st = { s.stream st with frame := fr, holdPending := b, run := r } := by
  rw [State.fileRun_eq]
  split
  · exact ⟨(s.stream st).frame, (s.stream st).holdPending, (s.stream st).run, rfl⟩
  · obtain ⟨fr, b, h⟩ := s.file_stream_aside (st := st)
      (f := frameFiling st .outputRepeat (s.stream st).run.clip (s.stream st).run.frame (s.stream st).run.length) rfl
    exact ⟨fr, b, ⟨0, 0, 0⟩, by rw [State.stream_modStream, h]⟩

/-! A tick of a stream whose timer alone has moved from `x`, by what `x` presents and holds. -/

variable {x : Stream} {o : Option Word64} {k : Nat}

theorem State.tick_overrun (hs : s.stream st = { x with origin := o, tick := k })
    (hbusy : x.presenting ≠ [] ∨ (s.port x.params.output.port).queueOf (.raster st) ≠ []) (hold : Bool) :
    s.tick st hold = s.modStream st fun y => { y with overruns := min (x.overruns + 1) 4294967295 } := by
  have hnow : s.presentingNow st = true := State.presentingNow_iff.mpr (by rwa [hs])
  rw [State.tick_of_presenting hnow]
  refine State.modStream_congr ?_
  rw [bump32_eq, hs]

theorem State.tick_idle (hs : s.stream st = { x with origin := o, tick := k }) (hpr : x.presenting = [])
    (hq : (s.port x.params.output.port).queueOf (.raster st) = []) : s.presentingNow st = false :=
  State.presentingNow_eq_false (by rw [hs, hpr]) (by rw [hs, hq])

theorem State.tick_ready (hs : s.stream st = { x with origin := o, tick := k }) (hpr : x.presenting = [])
    (hq : (s.port x.params.output.port).queueOf (.raster st) = []) (hready : x.backState = .ready) :
    s.tick st (x.state == .held) =
      ((if x.run.length = 0 ∨ x.state = .held then s
        else (s.file { kind := .outputRepeat, clip := some x.run.clip, frame := some x.run.frame, stream := some st,
                       detail := x.run.length }).modStream st fun y => { y with run := ⟨0, 0, 0⟩ }).modStream st
        fun y => { y with front := x.back, back := x.front, backState := .idle }).present st := by
  have hrun : (s.stream st).run = x.run := by rw [hs]
  have hfiled : (if (x.state == .held) = true then s else s.fileRun st) =
      if x.run.length = 0 ∨ x.state = .held then s
      else (s.file { kind := .outputRepeat, clip := some x.run.clip, frame := some x.run.frame, stream := some st,
                     detail := x.run.length }).modStream st fun y => { y with run := ⟨0, 0, 0⟩ } := by
    rw [State.fileRun_eq, hrun]
    by_cases hheld : x.state = .held
    · simp only [hheld, beq_self_eq_true, or_true, if_true]
    · simp only [beq_iff_eq, hheld, or_false, if_false]
      rfl
  have hbuffers : ((if (x.state == .held) = true then s else s.fileRun st).stream st).front = x.front ∧
      ((if (x.state == .held) = true then s else s.fileRun st).stream st).back = x.back := by
    split
    · rw [hs]
      exact ⟨rfl, rfl⟩
    · obtain ⟨fr, b, r, h⟩ := s.fileRun_stream_aside (st := st)
      rw [h, hs]
      exact ⟨rfl, rfl⟩
  rw [State.tick_of_ready (State.tick_idle hs hpr hq) (by rw [hs, hready]), ← hfiled]
  refine congrArg (State.present · st) (State.modStream_congr ?_)
  rw [Stream.exchange, hbuffers.1, hbuffers.2]

theorem State.tick_again (hs : s.stream st = { x with origin := o, tick := k }) (hpr : x.presenting = [])
    (hq : (s.port x.params.output.port).queueOf (.raster st) = []) (hready : x.backState ≠ .ready) {f : GradedFrame}
    (hf : x.front = some f) :
    s.tick st (x.state == .held) =
      (s.modStream st fun y =>
        { y with run :=
            if x.state = .held then x.run
            else if x.run.length = 0 then ⟨1, f.clip, f.number⟩
            else ⟨x.run.length + 1, x.run.clip, x.run.frame⟩ }).present st := by
  rw [State.tick_of_not_ready (State.tick_idle hs hpr hq) (by rwa [hs])]
  refine congrArg (State.present · st) ?_
  by_cases hheld : x.state = .held
  · simp only [hheld, beq_self_eq_true, if_true]
    exact (State.modStream_self (by rw [hs])).symm
  · simp only [beq_iff_eq, hheld, if_false]
    refine State.modStream_congr ?_
    rw [hs]
    simp only [Stream.repeatTick, hf]

end

/-! ### The end of a regrade (R167) -/

theorem Stream.regradeDone_iff (x : Stream) :
    x.regradeDone = true ↔ x.regrading = true ∧ (x.params.mode = .streaming → x.presenting = []) := by
  cases h : x.params.mode <;> simp [Stream.regradeDone, h]

theorem Stream.endRegrade_eq (x : Stream) : x.endRegrade =
    { x with
      latch := none
      regrading := false
      regradeAgain := false
      backState := if x.params.mode = .paced then .ready else x.backState } := by
  cases h : x.params.mode <;> simp [Stream.endRegrade, h]

/-! ### The streams' timers -/

section
variable {s : State} {st : StreamId}

theorem State.pacingTicks_of_some {o : Word64} (h : (s.stream st).nextTick.origin = some o) :
    s.pacingTicks st = ((s.advanceTo (tickInstant (s.stream st).params o (s.stream st).nextTick.tick)).modStream st
      fun _ => (s.stream st).nextTick).tick st ((s.stream st).state == .held) := by
  obtain ⟨o', k, hx⟩ := (s.stream st).nextTick_eq
  have hparams : (s.stream st).nextTick.params = (s.stream st).params := by rw [hx]
  have hstate : (s.stream st).nextTick.state = (s.stream st).state := by rw [hx]
  simp only [State.pacingTicks, h, hparams, hstate]

end

/-- Neither the time base nor a stream touches a port. -/
theorem State.port_advanced (s : State) (st : StreamId) (t : Word64) (f : Stream → Stream) (q : Port) :
    ((s.advanceTo t).modStream st f).port q = s.port q := by
  simp only [State.port, State.modStream_link, State.advanceTo_link]

/-- Settles O48: the three timers of a stream, each by what it finds. -/
theorem streamTimers : Obligations.StreamTimers := by
  intro s st hrun x
  have hpacing : exec (.pacingTick st) s = .next (s.pacingTicks st) :=
    exec_whenRunning (f := fun s => s.pacingTicks st) rfl hrun
  have hstall : exec (.stallTimerExpiry st) s = .next (s.stallExpires st) :=
    exec_whenRunning (f := fun s => s.stallExpires st) rfl hrun
  have hregrade : exec (.regradeEnd st) s = .next (s.finishRegrade st) :=
    exec_whenRunning (f := fun s => s.finishRegrade st) rfl hrun
  refine ⟨fun hnone => ?_, fun o ho => ?_, ?_, fun hnot => ?_, fun hon hgone => ?_⟩
  · have : x.nextTick.origin = none := by rw [Stream.nextTick_origin_none hnone, hnone]
    simp only [hpacing, State.pacingTicks, x, this]
  · intro u
    obtain ⟨o', k, hx⟩ := x.nextTick_eq
    have hus : u.stream st = { x with origin := o', tick := k } := (State.stream_modStream ..).trans hx
    have hport (q : Port) : u.port q = s.port q := State.port_advanced s st _ _ q
    have hticks : s.pacingTicks st = u.tick st (x.state == .held) := State.pacingTicks_of_some ho
    rw [hpacing, hticks]
    refine ⟨fun hbusy => ?_, fun hpr hq => ⟨fun hready => ?_, fun hready f hf => ?_⟩⟩
    · exact congrArg _ (State.tick_overrun hus (by rwa [hport]) _)
    · exact congrArg _ (State.tick_ready hus hpr (by rwa [hport]) hready)
    · exact congrArg _ (State.tick_again hus hpr (by rwa [hport]) hready hf)
  · rw [hstall]
    simp only [State.stallExpires, stallFiling, x]
    cases (s.stream st).stallTimer <;> rfl
  · have : ¬ x.regradeDone = true := by
      rw [Stream.regradeDone_iff]
      rintro ⟨hon, hgone⟩
      rcases hnot with hoff | ⟨hmode, hwait⟩
      · rw [hoff] at hon
        exact nomatch hon
      · exact hwait (hgone hmode)
    simp only [hregrade, State.finishRegrade, x, this, Bool.false_eq_true, if_false]
  · intro u
    have hdone : x.regradeDone = true := (Stream.regradeDone_iff x).mpr ⟨hon, hgone⟩
    have hu : s.modStream st (·.endRegrade) = u := State.modStream_congr (Stream.endRegrade_eq _)
    simp only [hregrade, State.finishRegrade, x, hdone, if_true, hu]

end Sys2Proof.Machine
end

section
/-!
What a stream's own work leaves alone: the other stream with what the spotter holds for it, and every unit but the review
unit, the spotter's own part for the stream, the clip records and the ports (R130 to R140, R144 to R153). Then the judgement
of a frame at its end (R145 to R148, R153).
-/

namespace Sys2Proof.Machine

/-- What the work of one stream does not touch. -/
structure Elsewhere where
  stream : Stream
  spot : SpotterStream
  control : ControlUnit
  jobs : Vector (Option JobRecord) 16
  admission : List Nat
  offload : OffloadEngine
  look : LookEngine
  supply : SupplyUnit
  defectMap : List DefectSite
  endpoints : List Endpoint
  pending : List Instr

/-- The part of a state that the work of stream `st` does not touch. -/
def State.elsewhere (s : State) (st : StreamId) : Elsewhere where
  stream := s.stream (st + 1)
  spot := s.spot (st + 1)
  control := s.control
  jobs := s.table.jobs
  admission := s.table.admission
  offload := s.offload
  look := s.look
  supply := s.supply
  defectMap := s.spotter.defectMap
  endpoints := s.link.endpoints
  pending := s.pending

theorem StreamId.ne_succ (st : StreamId) : st ≠ st + 1 := by revert st; decide

theorem StreamId.eq_succ_of_ne {st z : StreamId} (h : z ≠ st) : z = st + 1 := by revert st z; decide

section
variable {s t : State} {st : StreamId}

theorem State.other_of_elsewhere (h : t.elsewhere st = s.elsewhere st) {z : StreamId} (hz : z ≠ st) :
    t.stream z = s.stream z ∧ t.spot z = s.spot z := by
  rw [StreamId.eq_succ_of_ne hz]
  exact ⟨congrArg Elsewhere.stream h, congrArg Elsewhere.spot h⟩

theorem State.now_of_elsewhere (h : t.elsewhere st = s.elsewhere st) : t.now = s.now :=
  congrArg (fun x : Elsewhere => x.supply.timeBase) h

end

section
variable (s : State) (st : StreamId)

@[simp] theorem State.modStream_elsewhere (f : Stream → Stream) : (s.modStream st f).elsewhere st = s.elsewhere st := by
  simp only [State.elsewhere, State.stream_modStream_ne _ _ (StreamId.ne_succ st)]
  rfl

@[simp] theorem State.modSpot_elsewhere (f : SpotterStream → SpotterStream) :
    (s.modSpot st f).elsewhere st = s.elsewhere st := by
  simp only [State.elsewhere, State.spot_modSpot_ne _ _ (StreamId.ne_succ st)]
  rfl

@[simp] theorem State.modPort_elsewhere (p : Port) (f : PortState → PortState) :
    (s.modPort p f).elsewhere st = s.elsewhere st := rfl

@[simp] theorem State.modClip_elsewhere (n : Nat) (f : ClipRecord → ClipRecord) :
    (s.modClip n f).elsewhere st = s.elsewhere st := by
  simp [State.elsewhere, State.stream, State.spot]

@[simp] theorem State.matchHolds_elsewhere (p : HoldCondition → Bool) :
    (s.matchHolds st p).elsewhere st = s.elsewhere st := by
  simp [State.elsewhere, State.matchHolds_stream_ne _ _ _ (StreamId.ne_succ st).symm, State.spot]

theorem State.file_elsewhere {f : Filing} (h : f.stream = some st) : (s.file f).elsewhere st = s.elsewhere st := by
  have hne : f.stream ≠ some (st + 1) := fun e => (StreamId.ne_succ st) (Option.some_injective _ (h.symm.trans e))
  simp [State.elsewhere, State.file_stream_ne _ _ hne]

@[simp] theorem State.file_frameFiling_elsewhere (k : FaultKind) (n : Nat) (m : Word32) (d : Nat) :
    (s.file (frameFiling st k n m d)).elsewhere st = s.elsewhere st := s.file_elsewhere st rfl

@[simp] theorem State.fileIf_frameFiling_elsewhere (b : Bool) (k : FaultKind) (n : Nat) (m : Word32) (d : Nat) :
    (s.fileIf b (frameFiling st k n m d)).elsewhere st = s.elsewhere st := by
  cases b
  · rfl
  · exact s.file_frameFiling_elsewhere st k n m d

@[simp] theorem State.modFrame_elsewhere (f : FrameInProgress → FrameInProgress) :
    (s.modFrame st f).elsewhere st = s.elsewhere st := State.modStream_elsewhere ..

@[simp] theorem State.freeRaster_elsewhere (p : Port) : (s.freeRaster st p).elsewhere st = s.elsewhere st := by
  unfold State.freeRaster; split <;> rfl

@[simp] theorem State.handNext_elsewhere : (s.handNext st).elsewhere st = s.elsewhere st := by
  unfold State.handNext
  split
  · rfl
  · dsimp only
    split
    · rfl
    · split <;> simp

@[simp] theorem State.sendFrame_elsewhere (l : List Packet) : (s.sendFrame st l).elsewhere st = s.elsewhere st := by
  simp [State.sendFrame]

@[simp] theorem State.releaseInHand_elsewhere : (s.releaseInHand st).elsewhere st = s.elsewhere st := by
  unfold State.releaseInHand
  dsimp only
  split
  · rfl
  · split
    · rfl
    · split <;> simp

end

/-! ### A stream but for what a filing changes (R131, R165) -/

/-- A stream but for its frame in progress and its hold-pending mark, the two parts that filings change. -/
def Stream.aside (x : Stream) : Stream := { x with frame := none, holdPending := false }

theorem Stream.eq_of_aside {x y : Stream} (h : x.aside = y.aside) :
    x = { y with frame := x.frame, holdPending := x.holdPending } := by
  cases x; cases y
  simp only [Stream.aside, Stream.mk.injEq] at h ⊢
  tauto

section
variable (s : State) (st : StreamId)

theorem State.file_aside {f : Filing} (h : f.stream = some st) : ((s.file f).stream st).aside = (s.stream st).aside := by
  rw [State.file_stream _ _ h]
  rfl

@[simp] theorem State.file_frameFiling_aside (k : FaultKind) (n : Nat) (m : Word32) (d : Nat) :
    ((s.file (frameFiling st k n m d)).stream st).aside = (s.stream st).aside := s.file_aside st rfl

@[simp] theorem State.fileIf_frameFiling_aside (b : Bool) (k : FaultKind) (n : Nat) (m : Word32) (d : Nat) :
    ((s.fileIf b (frameFiling st k n m d)).stream st).aside = (s.stream st).aside := by
  cases b
  · rfl
  · exact s.file_frameFiling_aside st k n m d

end

/-! ### Filings made or not -/

section
variable (s : State) (b : Bool) (f : Filing)

@[simp] theorem State.fileIf_spot (st : StreamId) : (s.fileIf b f).spot st = s.spot st := by
  cases b
  · rfl
  · exact s.file_spot f st

@[simp] theorem State.fileIf_now : (s.fileIf b f).now = s.now := by
  cases b
  · rfl
  · exact s.file_now f

/-- The steps from `s` to `t` add the entries `es` to the log, at most `n` of them, if it has room for `n`. -/
structure State.Adds (n : Nat) (es : List FaultEntry) (s t : State) : Prop where
  now : t.now = s.now
  length_le : es.length ≤ n
  log : s.spotter.log.length + n ≤ 128 → t.spotter.log = s.spotter.log ++ es

theorem State.Adds.nothing {s t : State} (hlog : t.spotter.log = s.spotter.log) (hnow : t.now = s.now) :
    State.Adds 0 [] s t := ⟨hnow, Nat.le_refl 0, fun _ => by rw [hlog, List.append_nil]⟩

theorem State.Adds.trans {n m : Nat} {es fs : List FaultEntry} {s t u : State} (h : State.Adds n es s t)
    (k : State.Adds m fs t u) : State.Adds (n + m) (es ++ fs) s u where
  now := k.now.trans h.now
  length_le := by
    have := h.length_le
    have := k.length_le
    rw [List.length_append]
    omega
  log := fun hroom => by
    have hlog := h.log (by omega)
    have hlen := h.length_le
    rw [k.log (by rw [hlog, List.length_append]; omega), hlog, List.append_assoc]

theorem State.adds_file : State.Adds 1 [f.entry s.now] s (s.file f) where
  now := s.file_now f
  length_le := Nat.le_refl 1
  log := fun h => by rw [State.file_log, FaultSpotter.filed_of_room (by omega)]

theorem State.adds_fileIf : State.Adds 1 (if b then [f.entry s.now] else []) s (s.fileIf b f) := by
  cases b
  · exact ⟨rfl, Nat.zero_le 1, fun _ => (List.append_nil _).symm⟩
  · exact s.adds_file f

theorem State.adds_fileOpt (o : Option Filing) : State.Adds 1 (o.map (·.entry s.now)).toList s (s.fileOpt o) := by
  cases o with
  | none => exact ⟨rfl, Nat.zero_le 1, fun _ => (List.append_nil _).symm⟩
  | some f => exact s.adds_file f

theorem State.Adds.quiet {n : Nat} {es : List FaultEntry} {s t u : State} (h : State.Adds n es s t)
    (hlog : u.spotter.log = t.spotter.log) (hnow : u.now = t.now) : State.Adds n es s u where
  now := hnow.trans h.now
  length_le := h.length_le
  log := fun hroom => hlog.trans (h.log hroom)

theorem State.Adds.file {n : Nat} {es : List FaultEntry} {s t : State} (h : State.Adds n es s t) (f : Filing) :
    State.Adds (n + 1) (es ++ [f.entry s.now]) s (t.file f) := h.now ▸ h.trans (t.adds_file f)

theorem State.Adds.fileIf {n : Nat} {es : List FaultEntry} {s t : State} (h : State.Adds n es s t) (b : Bool) (f : Filing) :
    State.Adds (n + 1) (es ++ if b then [f.entry s.now] else []) s (t.fileIf b f) := h.now ▸ h.trans (t.adds_fileIf b f)

theorem State.Adds.fileOpt {n : Nat} {es : List FaultEntry} {s t : State} (h : State.Adds n es s t) (o : Option Filing) :
    State.Adds (n + 1) (es ++ (o.map (·.entry s.now)).toList) s (t.fileOpt o) := h.now ▸ h.trans (t.adds_fileOpt o)

/-- The same entries, written in another way. -/
theorem State.Adds.of_eq {n : Nat} {es fs : List FaultEntry} {s t : State} (h : State.Adds n es s t) (he : es = fs) :
    State.Adds n fs s t := he ▸ h

end

/-! ### The filters (R146 to R148) -/

/-- A filter after a judged frame (R148). -/
theorem Filter.step_fst (x : Filter) (k : Nat) (present : Bool) : (x.step k present).1 =
    if present then ⟨min (x.run + 1) 255, x.raised || decide (k ≤ min (x.run + 1) 255)⟩ else ⟨0, false⟩ := by
  unfold Filter.step
  cases present
  · rfl
  · cases hr : x.raised <;> by_cases hk : k ≤ min (x.run + 1) 255 <;> simp [hk]

theorem Filter.step_snd (x : Filter) (k : Nat) (present : Bool) : (x.step k present).2 =
    (present && decide (k ≤ min (x.run + 1) 255) && !x.raised) := by
  unfold Filter.step
  cases present
  · rfl
  · cases hr : x.raised <;> by_cases hk : k ≤ min (x.run + 1) 255 <;> simp [hk]

/-- The spotter's part of a stream after a judged frame's filters (R148). -/
def SpotterStream.judged (x : SpotterStream) (pixels : Nat) : SpotterStream :=
  { x with
    clipRed := (x.clipRed.step x.config.clipFrames (clippingCondition x.config x.measures.clipped.r pixels)).1
    clipGreen := (x.clipGreen.step x.config.clipFrames (clippingCondition x.config x.measures.clipped.g pixels)).1
    clipBlue := (x.clipBlue.step x.config.clipFrames (clippingCondition x.config x.measures.clipped.b pixels)).1
    black := (x.black.step x.config.blackFrames (blackCondition x.config x.measures.lumaSum pixels)).1 }

section
variable (s : State) (st : StreamId) (clip : Nat) (frame : Word32) (pixels : Nat)

theorem State.judgeFrame_spot : (s.judgeFrame st clip frame pixels).spot st = (s.spot st).judged pixels := by
  simp [State.judgeFrame, SpotterStream.judged]

@[simp] theorem State.judgeFrame_elsewhere : (s.judgeFrame st clip frame pixels).elsewhere st = s.elsewhere st := by
  simp [State.judgeFrame, clippingFiling]

theorem State.judgeFrame_aside : ((s.judgeFrame st clip frame pixels).stream st).aside = (s.stream st).aside := by
  simp only [State.judgeFrame]
  simp only [State.fileIf_frameFiling_aside, clippingFiling]
  rfl

/-- The entries of a judged frame: red, green, blue, black (R146 to R148; log entry 9). -/
theorem State.judgeFrame_adds :
    let x := s.spot st
    let c := x.config
    let m := x.measures
    let entry (kind : FaultKind) (detail : Nat) : FaultEntry := (frameFiling st kind clip frame detail).entry s.now
    State.Adds 4
      ((if (x.clipRed.step c.clipFrames (clippingCondition c m.clipped.r pixels)).2 then
        [entry .clipping (0 + 256 * (m.clipped.r * 1000 / pixels))] else []) ++
      (if (x.clipGreen.step c.clipFrames (clippingCondition c m.clipped.g pixels)).2 then
        [entry .clipping (1 + 256 * (m.clipped.g * 1000 / pixels))] else []) ++
      (if (x.clipBlue.step c.clipFrames (clippingCondition c m.clipped.b pixels)).2 then
        [entry .clipping (2 + 256 * (m.clipped.b * 1000 / pixels))] else []) ++
      (if (x.black.step c.blackFrames (blackCondition c m.lumaSum pixels)).2 then
        [entry .blackFrame (m.lumaSum / pixels)] else [])) s (s.judgeFrame st clip frame pixels) := by
  intro x c m entry
  simp only [State.judgeFrame]
  generalize hu : s.modSpot st _ = u
  have hstart : State.Adds 0 [] s u := .nothing (by rw [← hu]; rfl) (by rw [← hu]; rfl)
  exact ((((hstart.fileIf _ _).fileIf _ _).fileIf _ _).fileIf _ _)

end

/-! ### A frame's end (R145, R153) -/

theorem pruneCandidates_eq (scanned : Bool) (cs : List Candidate) : pruneCandidates scanned cs =
    (if scanned then cs.filter (·.seen) else cs).map fun c => { c with seen := false } := by
  cases scanned <;> simp [pruneCandidates]

section
variable (s : State) (st : StreamId) (f : FrameInProgress)

/-- Whether a frame is judged at its end (R145). -/
def State.judges (s : State) (st : StreamId) (f : FrameInProgress) : Bool :=
  !f.gap && !f.geometry && !(s.spot st).measures.unjudged

theorem State.spotFrameEnd_eq : s.spotFrameEnd st f =
    (if s.judges st f then
      s.judgeFrame st f.clip f.number ((s.stream st).params.width * (s.stream st).params.height)
    else s).modSpot st fun y =>
      { y with
        candidates := pruneCandidates (s.judges st f && !(s.spot st).measures.saturated) y.candidates
        measures := ⟨⟨0, 0, 0⟩, 0, 0, false, false⟩ } := rfl

@[simp] theorem State.spotFrameEnd_elsewhere : (s.spotFrameEnd st f).elsewhere st = s.elsewhere st := by
  rw [State.spotFrameEnd_eq, State.modSpot_elsewhere]
  split
  · exact State.judgeFrame_elsewhere ..
  · rfl

theorem State.spotFrameEnd_aside : ((s.spotFrameEnd st f).stream st).aside = (s.stream st).aside := by
  rw [State.spotFrameEnd_eq]
  refine Eq.trans (congrArg Stream.aside (rfl : _ = State.stream _ st)) ?_
  split
  · exact State.judgeFrame_aside ..
  · rfl

end

/-- Settles O60: the frame judged, the candidates pruned, the measures cleared. -/
theorem spotterFrameEnd : Obligations.SpotterFrameEnd := by
  intro s st f x m c pixels t unseen
  have ht : t = _ := s.spotFrameEnd_eq st f
  refine ⟨fun hnot => ?_, fun hgap hgeometry hunjudged => ?_⟩
  · have hj : s.judges st f = false := by
      rcases hnot with h | h | h <;> simp_all [State.judges, m, x]
    rw [ht, hj]
    simp only [Bool.false_eq_true, if_false, Bool.false_and, pruneCandidates_eq]
    rfl
  · intro red green blue black files stepped entry share
    have hj : s.judges st f = true := by simp [State.judges, hgap, hgeometry, hunjudged, m, x]
    rw [hj] at ht
    simp only [if_true] at ht
    refine ⟨?_, fun z hz => ?_, ?_, fun hroom => ?_⟩
    · rw [ht, State.spot_modSpot, State.judgeFrame_spot, SpotterStream.judged]
      simp only [Filter.step_fst, pruneCandidates_eq]
      cases m.saturated <;> rfl
    · exact (State.other_of_elsewhere (s.spotFrameEnd_elsewhere st f) hz).symm
    · exact congrArg Elsewhere.defectMap (s.spotFrameEnd_elsewhere st f)
    · rw [ht]
      refine ((s.judgeFrame_adds st f.clip f.number pixels).log (Nat.add_le_add_right hroom 4)).trans ?_
      simp only [Filter.step_snd, Nat.zero_add, ← List.append_assoc]
      rfl

end Sys2Proof.Machine
end

section
/-!
The spotter takes a line: measures, hot pixels, and the candidate each detection leaves (R146, R147, R149 to R152).
-/

namespace Sys2Proof.Machine

/-! ### The hot pixels of a line (R149) -/

theorem bitIf_decide (p : Prop) [Decidable p] (n : Nat) : bitIf (decide p) n = if p then n else 0 := by
  by_cases h : p <;> simp [bitIf, h]

theorem hotMask_eq (h : Nat) (l c r : Rgb) : hotMask h l c r =
    (if l.r + h ≤ c.r ∧ r.r + h ≤ c.r then 1 else 0) + (if l.g + h ≤ c.g ∧ r.g + h ≤ c.g then 2 else 0) +
      (if l.b + h ≤ c.b ∧ r.b + h ≤ c.b then 4 else 0) := by
  simp only [hotMask, ← Bool.decide_and, bitIf_decide]

/-- The hot pixels after a column: each with the channels in which it exceeds both neighbours (R149). -/
theorem mem_hotPixels {h first col mask : Nat} {codes : List Rgb} : (col, mask) ∈ hotPixels h first codes ↔
    first ≤ col ∧ mask ≠ 0 ∧ ∃ l c r : Rgb, codes[col - first]? = some l ∧ codes[col - first + 1]? = some c ∧
      codes[col - first + 2]? = some r ∧ mask = hotMask h l c r := by
  induction codes generalizing first with
  | nil => simp [hotPixels]
  | cons l rest ih =>
    rcases rest with _ | ⟨c, _ | ⟨r, more⟩⟩
    · simp [hotPixels]
    · simp [hotPixels]
    · have hhere : (col, mask) ∈ hotPixels h first (l :: c :: r :: more) ↔
          (hotMask h l c r ≠ 0 ∧ col = first ∧ mask = hotMask h l c r) ∨
            (col, mask) ∈ hotPixels h (first + 1) (c :: r :: more) := by
        rw [hotPixels]
        by_cases hm : hotMask h l c r = 0 <;> simp [hm]
      rw [hhere, ih]
      constructor
      · rintro (⟨hne, rfl, rfl⟩ | ⟨hle, hne, l', c', r', hl, hc, hr, hmask⟩)
        · exact ⟨le_refl _, hne, l, c, r, by simp, by simp, by simp, rfl⟩
        · obtain ⟨n, hn⟩ := Nat.exists_eq_add_of_le hle
          have h1 : col - (first + 1) = n := by omega
          have h2 : col - first = n + 1 := by omega
          rw [h1] at hl hc hr
          refine ⟨by omega, hne, l', c', r', ?_, ?_, ?_, hmask⟩
          all_goals simpa [h2] using ‹_›
      · rintro ⟨hle, hne, l', c', r', hl, hc, hr, hmask⟩
        rcases Nat.eq_or_lt_of_le hle with rfl | hlt
        · simp only [Nat.sub_self, Nat.zero_add, List.getElem?_cons_zero, List.getElem?_cons_succ,
            Option.some.injEq] at hl hc hr
          subst hl hc hr
          exact Or.inl ⟨hmask ▸ hne, rfl, hmask⟩
        · obtain ⟨n, hn⟩ := Nat.exists_eq_add_of_le (Nat.succ_le_of_lt hlt)
          have h1 : col - (first + 1) = n := by omega
          have h2 : col - first = n + 1 := by omega
          rw [h2] at hl hc hr
          exact Or.inr ⟨by omega, hne, l', c', r', by simpa [h1] using hl, by simpa [h1] using hc,
            by simpa [h1] using hr, hmask⟩

theorem hotPixels_ascending (h first : Nat) (codes : List Rgb) :
    (hotPixels h first codes).Pairwise fun a b => a.1 < b.1 := by
  induction codes generalizing first with
  | nil => simp [hotPixels]
  | cons l rest ih =>
    rcases rest with _ | ⟨c, _ | ⟨r, more⟩⟩
    · simp [hotPixels]
    · simp [hotPixels]
    · rw [hotPixels]
      split
      · exact ih (first + 1)
      · refine List.Pairwise.cons (fun b hb => ?_) (ih (first + 1))
        exact (mem_hotPixels.mp hb).1

theorem detections_ascending (h : Nat) (map : List DefectSite) (tag : Option Nat) (line : Nat) (codes : List Rgb) :
    (detections h map tag line codes).Pairwise fun a b => a.1 < b.1 := by
  unfold detections
  split
  · exact .nil
  · exact (hotPixels_ascending h 1 codes).filter _

/-- The detections of a line: its hot pixels that the map does not hold under the tag (R149). -/
theorem mem_detections {h : Nat} {map : List DefectSite} {tag : Option Nat} {line : Nat} {codes : List Rgb}
    {col mask : Nat} : (col, mask) ∈ detections h map tag line codes ↔
      0 < h ∧ 0 < col ∧ (∀ t, tag = some t → ⟨t, line, col⟩ ∉ map) ∧ mask ≠ 0 ∧
        ∃ l c r : Rgb, codes[col - 1]? = some l ∧ codes[col]? = some c ∧ codes[col + 1]? = some r ∧
          mask = hotMask h l c r := by
  have hmap : (match tag with
      | none => true
      | some t => !map.contains (⟨t, line, col⟩ : DefectSite)) = true ↔ ∀ t, tag = some t → ⟨t, line, col⟩ ∉ map := by
    cases tag <;> simp
  have hindex (hc : 0 < col) : col - 1 + 1 = col ∧ col - 1 + 2 = col + 1 := by omega
  unfold detections
  by_cases hh : h = 0
  · simp [hh]
  · rw [if_neg hh, List.mem_filter, mem_hotPixels]
    constructor
    · rintro ⟨⟨hpos, hne, l, c, r, hl, hc, hr, hmask⟩, hin⟩
      rw [(hindex hpos).1] at hc
      rw [(hindex hpos).2] at hr
      exact ⟨Nat.pos_of_ne_zero hh, hpos, hmap.mp hin, hne, l, c, r, hl, hc, hr, hmask⟩
    · rintro ⟨_, hpos, hin, hne, l, c, r, hl, hc, hr, hmask⟩
      refine ⟨⟨hpos, hne, l, c, r, hl, ?_, ?_, hmask⟩, hmap.mpr hin⟩
      · rwa [(hindex hpos).1]
      · rwa [(hindex hpos).2]

/-! ### Candidate tables (R150) -/

/-- A candidate table in its order: line, then column (R159). -/
def Ordered (cs : List Candidate) : Prop := cs.Pairwise fun a b => a.key < b.key

theorem Candidate.key_inj {a b : Candidate} (ha : a.column < 4096) (hb : b.column < 4096) :
    a.key = b.key ↔ a.line = b.line ∧ a.column = b.column := by
  unfold Candidate.key
  omega

theorem Ordered.eq_of_key {cs : List Candidate} (h : Ordered cs) {a b : Candidate} (ha : a ∈ cs) (hb : b ∈ cs)
    (hk : a.key = b.key) : a = b := by
  have hnodup : (cs.map (·.key)).Nodup := List.pairwise_map.mpr (List.Pairwise.imp (fun hab => Nat.ne_of_lt hab) h)
  exact List.inj_on_of_nodup_map hnodup ha hb hk

theorem mem_insertCandidate {c e : Candidate} {cs : List Candidate} :
    c ∈ insertCandidate e cs ↔ c = e ∨ (c ∈ cs ∧ c.key ≠ e.key) := by
  have hne : c.key ≠ e.key ↔ c.key < e.key ∨ e.key < c.key := Nat.ne_iff_lt_or_gt
  simp only [insertCandidate, List.mem_append, List.mem_filter, List.mem_cons, decide_eq_true_eq, hne, and_or_left]
  exact or_left_comm

theorem Ordered.insertCandidate {cs : List Candidate} (h : Ordered cs) (e : Candidate) : Ordered (insertCandidate e cs) := by
  refine List.pairwise_append.mpr ⟨h.filter _, List.Pairwise.cons (fun b hb => ?_) (h.filter _), fun a ha b hb => ?_⟩
  · simpa using (List.mem_filter.mp hb).2
  · have hae : a.key < e.key := by simpa using (List.mem_filter.mp ha).2
    rcases List.mem_cons.mp hb with rfl | hb
    · exact hae
    · exact hae.trans (by simpa using (List.mem_filter.mp hb).2)

theorem length_insertCandidate_le (e : Candidate) (cs : List Candidate) :
    (insertCandidate e cs).length ≤ cs.length + 1 := by
  induction cs with
  | nil => simp [insertCandidate]
  | cons c cs ih =>
    simp only [insertCandidate, List.length_append, List.length_cons, List.filter_cons] at ih ⊢
    split <;> split <;> simp_all <;> omega

/-- The candidate order by which a full table gives up an entry (R150): the lower count, then the last frame furthest behind,
then the lower place. -/
def Candidate.Yields (frame : Word32) (a b : Candidate) : Prop :=
  a.count < b.count ∨ a.count = b.count ∧
    (b.behind frame < a.behind frame ∨ b.behind frame = a.behind frame ∧ a.key < b.key)

theorem Candidate.Yields.trans {frame : Word32} {a b c : Candidate} (h : a.Yields frame b) (k : b.Yields frame c) :
    a.Yields frame c := by
  unfold Candidate.Yields at *
  omega

theorem Candidate.Yields.asymm {frame : Word32} {a b : Candidate} (h : a.Yields frame b) : ¬ b.Yields frame a := by
  unfold Candidate.Yields at *
  omega

/-- Of two candidates in order, the one replaced yields to the other (R150). -/
theorem Candidate.yields_of_replaced {frame : Word32} {a b : Candidate} (h : b.replacedBefore frame a = true) :
    b.Yields frame a := by
  simp only [Candidate.replacedBefore, Bool.or_eq_true, Bool.and_eq_true, decide_eq_true_eq, beq_iff_eq] at h
  unfold Candidate.Yields
  omega

theorem Candidate.yields_of_not_replaced {frame : Word32} {a b : Candidate} (h : ¬ b.replacedBefore frame a = true)
    (hk : a.key < b.key) : a.Yields frame b := by
  simp only [Candidate.replacedBefore, Bool.or_eq_true, Bool.and_eq_true, decide_eq_true_eq, beq_iff_eq] at h
  unfold Candidate.Yields
  omega

/-- The entry a full table gives up, from the first one on: it yields to all others (R150). -/
theorem foldl_victim {frame : Word32} {cs : List Candidate} {c : Candidate} (h : Ordered (c :: cs)) :
    let v := cs.foldl (fun best x => if x.replacedBefore frame best then x else best) c
    v ∈ c :: cs ∧ ∀ d ∈ c :: cs, d = v ∨ v.Yields frame d := by
  induction cs generalizing c with
  | nil => simp
  | cons x cs ih =>
    obtain ⟨hc, hx, hcs⟩ : (∀ d ∈ x :: cs, c.key < d.key) ∧ (∀ d ∈ cs, x.key < d.key) ∧ Ordered cs := by
      simpa [Ordered] using h
    have hcx := hc x (List.mem_cons_self ..)
    rw [List.foldl_cons]
    by_cases hr : x.replacedBefore frame c = true
    · rw [if_pos hr]
      obtain ⟨hmem, hall⟩ := ih (c := x) (List.Pairwise.cons hx hcs)
      refine ⟨List.mem_cons_of_mem _ hmem, fun d hd => ?_⟩
      rcases List.mem_cons.mp hd with rfl | hd
      · have hyx := Candidate.yields_of_replaced hr
        rcases hall x (List.mem_cons_self ..) with hv | hv
        · rw [← hv]
          exact Or.inr hyx
        · exact Or.inr (hv.trans hyx)
      · exact hall d hd
    · rw [if_neg hr]
      obtain ⟨hmem, hall⟩ := ih (c := c) (List.Pairwise.cons (fun d hd => hc d (List.mem_cons_of_mem _ hd)) hcs)
      refine ⟨?_, fun d hd => ?_⟩
      · rcases List.mem_cons.mp hmem with hv | hv
        · rw [hv]
          exact List.mem_cons_self ..
        · exact List.mem_cons_of_mem _ (List.mem_cons_of_mem _ hv)
      · rcases List.mem_cons.mp hd with rfl | hd
        · exact hall d (List.mem_cons_self ..)
        · rcases List.mem_cons.mp hd with rfl | hd
          · have hyc := Candidate.yields_of_not_replaced hr hcx
            rcases hall c (List.mem_cons_self ..) with hv | hv
            · rw [← hv]
              exact Or.inr hyc
            · exact Or.inr (hv.trans hyc)
          · exact hall d (List.mem_cons_of_mem _ hd)

theorem victim_spec {frame : Word32} {cs : List Candidate} (h : Ordered cs) (hne : cs ≠ []) :
    ∃ v, victim frame cs = some v ∧ v ∈ cs ∧ ∀ d ∈ cs, d = v ∨ v.Yields frame d := by
  match cs, hne with
  | c :: cs, _ =>
    obtain ⟨hmem, hall⟩ := foldl_victim (frame := frame) h
    exact ⟨_, rfl, hmem, hall⟩

theorem mem_dropCandidate {line column : Nat} {cs : List Candidate} {c : Candidate} :
    c ∈ dropCandidate line column cs ↔ c ∈ cs ∧ ¬ (c.line = line ∧ c.column = column) := by
  simp only [dropCandidate, List.mem_filter, Bool.not_eq_true', Bool.and_eq_false_iff, beq_eq_false_iff_ne]
  tauto

theorem Ordered.dropCandidate {cs : List Candidate} (h : Ordered cs) (line column : Nat) :
    Ordered (dropCandidate line column cs) := h.filter _

theorem length_dropCandidate_lt {cs : List Candidate} {c : Candidate} (hc : c ∈ cs) :
    (dropCandidate c.line c.column cs).length < cs.length :=
  List.length_filter_lt_length_iff_exists.mpr ⟨c, hc, by simp⟩

/-- The entry a detection leaves stands at its site (R150). -/
theorem detectedEntry_site (cs : List Candidate) (line column : Nat) (frame : Word32) :
    (detectedEntry cs line column frame).line = line ∧ (detectedEntry cs line column frame).column = column := by
  unfold detectedEntry
  split
  · next c hc =>
    have := List.find?_some hc
    simpa using this
  · exact ⟨rfl, rfl⟩

/-- The table's entries but the site's and, of a full table that does not know the site, the one it gives up (R150). -/
def keptCandidates (frame : Word32) (line column : Nat) (cs : List Candidate) (c : Candidate) : Prop :=
  c ∈ cs ∧ ¬ (c.line = line ∧ c.column = column) ∧
    ¬ (cs.length = 64 ∧ (∀ d ∈ cs, ¬ (d.line = line ∧ d.column = column)) ∧ ∀ d ∈ cs, d = c ∨ c.Yields frame d)

/-- A detection's table: the site's entry in its place among the entries kept (R150). -/
theorem detectInto_spec {cs : List Candidate} {line column : Nat} (frame : Word32) (hcs : Ordered cs)
    (hcols : ∀ c ∈ cs, c.column < 4096) (hcol : column < 4096) (hlen : cs.length ≤ 64) :
    let table := detectInto cs line column frame
    Ordered table ∧ table.length ≤ 64 ∧
      ∀ c, c ∈ table ↔ c = detectedEntry cs line column frame ∨ keptCandidates frame line column cs c := by
  intro table
  obtain ⟨hline, hcolumn⟩ := detectedEntry_site cs line column frame
  set e := detectedEntry cs line column frame with he
  have hkey (c : Candidate) (hc : c ∈ cs) : c.key ≠ e.key ↔ ¬ (c.line = line ∧ c.column = column) := by
    rw [Ne, Candidate.key_inj (hcols c hc) (by omega), hline, hcolumn]
  have hothers := hcs.dropCandidate line column
  by_cases hroom : (cs.any fun c => c.line == line && c.column == column) = true ∨ cs.length < 64
  · have htable : table = insertCandidate e (dropCandidate line column cs) := by
      have hif : ((cs.any fun c => c.line == line && c.column == column) || decide (cs.length < Config.candidateLimit)) =
          true := by
        rw [Bool.or_eq_true]
        exact hroom.imp_right fun h => decide_eq_true h
      simp only [table, detectInto, hif, if_true, he]
    have hshort : (dropCandidate line column cs).length < 64 := by
      rcases hroom with hknown | hshort
      · obtain ⟨c, hc, hsite⟩ := List.any_eq_true.mp hknown
        have hc' : c.line = line ∧ c.column = column := by simpa using hsite
        have := length_dropCandidate_lt hc
        rw [hc'.1, hc'.2] at this
        omega
      · exact Nat.lt_of_le_of_lt (List.length_filter_le ..) hshort
    refine ⟨htable ▸ hothers.insertCandidate e, ?_, fun c => ?_⟩
    · rw [htable]
      exact (length_insertCandidate_le ..).trans hshort
    · rw [htable, mem_insertCandidate, mem_dropCandidate, keptCandidates]
      refine or_congr_right ⟨fun ⟨⟨hc, hsite⟩, _⟩ => ⟨hc, hsite, ?_⟩, fun ⟨hc, hsite, _⟩ => ⟨⟨hc, hsite⟩, (hkey c hc).mpr hsite⟩⟩
      rintro ⟨hfull, hunknown, -⟩
      rcases hroom with hknown | hshort
      · obtain ⟨d, hd, hsite⟩ := List.any_eq_true.mp hknown
        exact hunknown d hd (by simpa using hsite)
      · omega
  · rw [not_or] at hroom
    have hfull : cs.length = 64 := by omega
    have hunknown : ∀ d ∈ cs, ¬ (d.line = line ∧ d.column = column) := by
      intro d hd hsite
      exact hroom.1 (List.any_eq_true.mpr ⟨d, hd, by simpa using hsite⟩)
    have hsame : dropCandidate line column cs = cs := by
      refine List.filter_eq_self.mpr fun d hd => ?_
      rw [Bool.not_eq_true', Bool.eq_false_iff]
      simpa using hunknown d hd
    obtain ⟨v, hv, hmem, hall⟩ := victim_spec (frame := frame) hcs (by rintro rfl; simp at hfull)
    have htable : table = insertCandidate e (dropCandidate v.line v.column cs) := by
      have hif : ((cs.any fun c => c.line == line && c.column == column) || decide (cs.length < Config.candidateLimit)) =
          false := by
        rw [Bool.or_eq_false_iff]
        exact ⟨Bool.not_eq_true _ ▸ hroom.1, decide_eq_false hroom.2⟩
      simp only [table, detectInto, hif, Bool.false_eq_true, if_false, hsame, hv, he]
    refine ⟨htable ▸ (hcs.dropCandidate v.line v.column).insertCandidate e, ?_, fun c => ?_⟩
    · rw [htable]
      have := length_dropCandidate_lt hmem
      exact (length_insertCandidate_le ..).trans (by omega)
    · rw [htable, mem_insertCandidate, mem_dropCandidate, keptCandidates]
      have hvictim (hc : c ∈ cs) : (c.line = v.line ∧ c.column = v.column) ↔ ∀ d ∈ cs, d = c ∨ c.Yields frame d := by
        rw [← Candidate.key_inj (hcols c hc) (hcols v hmem)]
        constructor
        · intro hk
          rw [hcs.eq_of_key hc hmem hk]
          exact hall
        · intro hfirst
          rcases hfirst v hmem with hvc | hcv
          · rw [hvc]
          · rcases hall c hc with hcv' | hvc
            · rw [hcv']
            · exact absurd hcv hvc.asymm
      refine or_congr_right ⟨fun ⟨⟨hc, hnv⟩, _⟩ => ⟨hc, hunknown c hc, fun ⟨_, _, hfirst⟩ => hnv ((hvictim hc).mpr hfirst)⟩,
        fun ⟨hc, hsite, hnv⟩ => ⟨⟨hc, fun hcv => hnv ⟨hfull, hunknown, (hvictim hc).mp hcv⟩⟩, (hkey c hc).mpr hsite⟩⟩

/-! ### A detection taken (R150 to R152) -/

/-- Whether a detection's entry is reported (R152). -/
def SpotterStream.reports (x : SpotterStream) (line column : Nat) (frame : Word32) : Bool :=
  decide (x.config.hotFrames ≤ (detectedEntry x.candidates line column frame).count) &&
    !(detectedEntry x.candidates line column frame).reported

/-- The spotter's part of a stream after one of the first 256 detections of a frame (R150). -/
def SpotterStream.detected (x : SpotterStream) (line column : Nat) (frame : Word32) : SpotterStream :=
  { x with
    measures := { x.measures with detections := x.measures.detections + 1 }
    candidates := detectInto x.candidates line column frame }

/-- The HOT_PIXEL filing of a detection (R152). -/
def hotPixelFiling (st : StreamId) (clip : Nat) (frame : Word32) (line column mask : Nat) : Filing :=
  { frameFiling st .hotPixel clip frame mask with coordinate := some (line, column) }

section
variable (s : State) (st : StreamId) (clip : Nat) (frame : Word32) (line column mask : Nat)

theorem State.takeDetection_of_over (h : 256 < (s.spot st).measures.detections) :
    s.takeDetection st clip frame line column mask = s := by
  have h1 : ¬ (s.spot st).measures.detections < Config.detectionLimit := Nat.not_lt.mpr (Nat.le_of_lt h)
  have h2 : ¬ (s.spot st).measures.detections = Config.detectionLimit := Nat.ne_of_gt h
  simp only [State.takeDetection, h1, h2, if_false]

theorem State.takeDetection_of_limit (h : (s.spot st).measures.detections = 256) :
    s.takeDetection st clip frame line column mask =
      (s.modSpot st fun y => { y with measures := { y.measures with detections := 257, saturated := true } }).file
        (frameFiling st .hotScanSaturated clip frame 256) := by
  have h1 : ¬ (s.spot st).measures.detections < Config.detectionLimit := Nat.not_lt.mpr (Nat.le_of_eq h.symm)
  have h2 : (s.spot st).measures.detections = Config.detectionLimit := h
  simp only [State.takeDetection, h1, if_false, if_pos h2]
  rw [h]

theorem State.takeDetection_of_lt (h : (s.spot st).measures.detections < 256) :
    s.takeDetection st clip frame line column mask =
      if (s.spot st).reports line column frame then
        ((s.modSpot st (·.detected line column frame)).file (hotPixelFiling st clip frame line column mask)).modSpot st
          fun y => { y with candidates := markReported line column y.candidates }
      else s.modSpot st (·.detected line column frame) := by
  have h1 : (s.spot st).measures.detections < Config.detectionLimit := h
  simp only [State.takeDetection, if_pos h1]
  rfl

/-- A detection's three cases, for what they have in common. -/
theorem State.takeDetection_cases {motive : State → Prop} (hover : motive s)
    (hlimit : motive ((s.modSpot st fun y => { y with measures := { y.measures with detections := 257, saturated := true } }).file
      (frameFiling st .hotScanSaturated clip frame 256)))
    (hquiet : motive (s.modSpot st (·.detected line column frame)))
    (hreport : motive (((s.modSpot st (·.detected line column frame)).file
      (hotPixelFiling st clip frame line column mask)).modSpot st
        fun y => { y with candidates := markReported line column y.candidates })) :
    motive (s.takeDetection st clip frame line column mask) := by
  rcases Nat.lt_trichotomy (s.spot st).measures.detections 256 with h | h | h
  · rw [State.takeDetection_of_lt _ _ _ _ _ _ _ h]
    split
    · exact hreport
    · exact hquiet
  · rw [State.takeDetection_of_limit _ _ _ _ _ _ _ h]
    exact hlimit
  · rw [State.takeDetection_of_over _ _ _ _ _ _ _ h]
    exact hover

@[simp] theorem State.takeDetection_elsewhere :
    (s.takeDetection st clip frame line column mask).elsewhere st = s.elsewhere st := by
  refine State.takeDetection_cases (motive := fun t => t.elsewhere st = s.elsewhere st) _ _ _ _ _ _ _ rfl ?_ ?_ ?_
  · rw [State.file_elsewhere _ _ rfl, State.modSpot_elsewhere]
  · exact State.modSpot_elsewhere ..
  · rw [State.modSpot_elsewhere, State.file_elsewhere _ _ rfl, State.modSpot_elsewhere]

end

/-- The HOT_PIXEL filing of a detection damages the frame in progress it names (R131). -/
theorem State.file_frame (s : State) {st : StreamId} {g : Filing} (h : g.stream = some st) :
    ((s.file g).stream st).frame =
      (s.stream st).frame.map fun y => if y.named g then { y with damaged := true } else y := by
  rw [State.file_stream _ _ h]
  rfl

theorem mem_markReported {line column : Nat} {cs : List Candidate} {c : Candidate} :
    c ∈ markReported line column cs ↔
      (∃ d ∈ cs, (d.line = line ∧ d.column = column) ∧ c = { d with reported := true }) ∨
        (c ∈ cs ∧ ¬ (c.line = line ∧ c.column = column)) := by
  simp only [markReported, List.mem_map]
  constructor
  · rintro ⟨d, hd, rfl⟩
    split
    · next hsite => exact Or.inl ⟨d, hd, hsite, rfl⟩
    · next hsite => exact Or.inr ⟨hd, hsite⟩
  · rintro (⟨d, hd, hsite, rfl⟩ | ⟨hc, hsite⟩)
    · exact ⟨d, hd, if_pos hsite⟩
    · exact ⟨c, hc, if_neg hsite⟩

theorem Ordered.markReported {cs : List Candidate} (h : Ordered cs) (line column : Nat) :
    Ordered (markReported line column cs) := by
  refine List.pairwise_map.mpr (List.Pairwise.imp (fun {a b} hab => ?_) h)
  have hkey (c : Candidate) : (if c.line = line ∧ c.column = column then { c with reported := true } else c).key = c.key := by
    split <;> rfl
  rwa [hkey, hkey]

/-- The candidate table after a detection, reported or not (R150, R152). -/
theorem detected_table {x : SpotterStream} {line column : Nat} {frame : Word32} (hcs : Ordered x.candidates)
    (hcols : ∀ c ∈ x.candidates, c.column < 4096) (hcol : column < 4096) (hlen : x.candidates.length ≤ 64) (b : Bool) :
    let e := detectedEntry x.candidates line column frame
    let base := detectInto x.candidates line column frame
    let table := if b then markReported line column base else base
    Ordered table ∧ table.length ≤ 64 ∧
      ∀ c, c ∈ table ↔ c = { e with reported := e.reported || b } ∨ keptCandidates frame line column x.candidates c := by
  intro e base table
  obtain ⟨hordered, hshort, hmem⟩ := detectInto_spec frame hcs hcols hcol hlen
  have hsite : e.line = line ∧ e.column = column := detectedEntry_site ..
  cases b with
  | false =>
    refine ⟨hordered, hshort, fun c => (hmem c).trans ?_⟩
    rw [Bool.or_false]
  | true =>
    refine ⟨hordered.markReported line column, ?_, fun c => mem_markReported.trans ?_⟩
    · exact (List.length_map ..).trans_le hshort
    · rw [Bool.or_true]
      constructor
      · rintro (⟨d, hd, hds, rfl⟩ | ⟨hc, hcs⟩)
        · rcases (hmem d).mp hd with rfl | hkept
          · exact Or.inl rfl
          · exact absurd hds hkept.2.1
        · rcases (hmem c).mp hc with rfl | hkept
          · exact absurd hsite hcs
          · exact Or.inr hkept
      · rintro (rfl | hkept)
        · exact Or.inl ⟨e, (hmem e).mpr (Or.inl rfl), hsite, rfl⟩
        · exact Or.inr ⟨(hmem c).mpr (Or.inr hkept), hkept.2.1⟩

/-- The entry of a detection's site, from the entry that the table had there, or from none (R150). -/
theorem detectedEntry_eq {cs : List Candidate} {line column : Nat} {frame : Word32} {e : Candidate}
    (hknown : ∀ c ∈ cs, c.line = line ∧ c.column = column → e = { c with
      count := if c.lastFrame = frame - 1 then min (c.count + 1) 255 else 1
      lastFrame := frame
      seen := true })
    (hnew : (∀ c ∈ cs, ¬ (c.line = line ∧ c.column = column)) → e = ⟨line, column, 1, frame, false, true⟩) :
    e = detectedEntry cs line column frame := by
  unfold detectedEntry
  split
  · next c hc =>
    exact hknown c (List.mem_of_find?_eq_some hc) (by simpa using List.find?_some hc)
  · next hnone =>
    refine hnew fun c hc hsite => ?_
    have := List.find?_eq_none.mp hnone c hc
    exact this (by simpa using hsite)

section
variable {s : State} {st : StreamId} {clip : Nat} {frame : Word32} {line column mask : Nat}

theorem State.takeDetection_spot (h : (s.spot st).measures.detections < 256) :
    (s.takeDetection st clip frame line column mask).spot st =
      { (s.spot st).detected line column frame with
        candidates :=
          if (s.spot st).reports line column frame then
            markReported line column (detectInto (s.spot st).candidates line column frame)
          else detectInto (s.spot st).candidates line column frame } := by
  rw [State.takeDetection_of_lt _ _ _ _ _ _ _ h]
  split
  · rw [State.spot_modSpot, State.file_spot, State.spot_modSpot]
    rfl
  · rw [State.spot_modSpot]
    rfl

theorem State.takeDetection_log (h : (s.spot st).measures.detections < 256) (hroom : s.spotter.log.length < 128) :
    (s.takeDetection st clip frame line column mask).spotter.log = s.spotter.log ++
      (if (s.spot st).reports line column frame then
        [(hotPixelFiling st clip frame line column mask).entry s.now] else []) := by
  rw [State.takeDetection_of_lt _ _ _ _ _ _ _ h]
  split
  · exact ((s.modSpot st (·.detected line column frame)).adds_file _).log hroom
  · exact (List.append_nil _).symm

theorem State.takeDetection_frame (h : (s.spot st).measures.detections < 256) {f : FrameInProgress}
    (hf : (s.stream st).frame = some f) (hr : f.refused = false) (hclip : f.clip = clip) (hframe : f.number = frame) :
    ((s.takeDetection st clip frame line column mask).stream st).frame =
      some { f with damaged := f.damaged || (s.spot st).reports line column frame } := by
  rw [State.takeDetection_of_lt _ _ _ _ _ _ _ h]
  split
  · next hrep =>
    have hnamed : f.named (hotPixelFiling st clip frame line column mask) = true := by
      simp [FrameInProgress.named, hotPixelFiling, frameFiling, hr, hclip, hframe]
    refine (State.file_frame (s.modSpot st (·.detected line column frame)) rfl).trans ?_
    refine (congrArg (Option.map _) hf).trans ?_
    rw [Option.map_some, if_pos hnamed, hrep, Bool.or_true]
  · next hrep =>
    rw [Bool.not_eq_true] at hrep
    refine Eq.trans hf ?_
    rw [hrep, Bool.or_false]

end

/-! ### A line taken (R146, R147) -/

theorem Tap.choose_eq (k : Tap) (a b : List Rgb) : k.choose a b = if k = .a then a else b := by cases k <;> rfl

/-- Settles O59: a line's measures and detections, its hot pixels, and what each detection does. -/
theorem spotterLines : Obligations.SpotterLines := by
  refine ⟨fun s st clip frame line tapA tapB => ?_, fun h map tag line codes => ?_,
    fun s st clip frame line column mask => ?_⟩
  · intro x clipping black count
    simp only [State.spotLine, Measures.addLine, Tap.choose_eq]
    rfl
  · refine ⟨detections_ascending h map tag line codes, fun col mask => ?_⟩
    simp only [← hotMask_eq]
    exact mem_detections
  · intro x n t here
    refine ⟨fun hn => State.takeDetection_of_over _ _ _ _ _ _ _ hn, fun hn => ?_, fun hn hcs hcols hcol hlen e hknown hnew => ?_⟩
    · have ht : t = _ := State.takeDetection_of_limit s st clip frame line column mask hn
      rw [ht]
      refine ⟨?_, fun hroom => ?_⟩
      · rw [State.file_spot, State.spot_modSpot]
      · exact (State.adds_file (s.modSpot st _) _).log hroom
    · intro reports before table
      have he : e = detectedEntry x.candidates line column frame := detectedEntry_eq hknown hnew
      have hreports : x.reports line column frame = reports := by simp only [reports, SpotterStream.reports, he]
      have hspot : t.spot st = _ := State.takeDetection_spot hn
      have hbefore (a b : Candidate) : before a b ↔ a.Yields frame b := by
        simp only [before, Candidate.Yields, Candidate.behind, BitVec.toNat_inj]
      obtain ⟨hordered, hshort, hmem⟩ := detected_table (frame := frame) hcs hcols hcol hlen reports
      have htable : table = if reports then markReported line column (detectInto x.candidates line column frame)
          else detectInto x.candidates line column frame := by
        rw [← hreports]
        exact congrArg SpotterStream.candidates hspot
      rw [← htable] at hordered hshort hmem
      refine ⟨hordered, hshort, fun c => (hmem c).trans ?_, ?_, fun z hz => ?_, fun hroom => ?_, fun f hf hr hclip hframe => ?_⟩
      · simp only [keptCandidates, hbefore, he]
        rfl
      · exact congrArg SpotterStream.measures hspot
      · exact (State.other_of_elsewhere (State.takeDetection_elsewhere ..) hz).2
      · rw [← hreports]
        exact State.takeDetection_log hn hroom
      · rw [← hreports]
        exact State.takeDetection_frame hn hf hr hclip hframe

end Sys2Proof.Machine
end

section
/-!
The finalisation of a clip (R139), the repeat run (R137), and REVIEW CLOSE (R140).
-/

namespace Sys2Proof.Machine

/-! ### Finalisation (R139) -/

section
variable (s : State) (st : StreamId)

@[simp] theorem State.fileOpt_link (f : Option Filing) : (s.fileOpt f).link = s.link := by
  cases f <;> simp [State.fileOpt]
@[simp] theorem State.fileOpt_now (f : Option Filing) : (s.fileOpt f).now = s.now := by
  cases f <;> simp [State.fileOpt]
@[simp] theorem State.fileOpt_spot (f : Option Filing) (su : StreamId) : (s.fileOpt f).spot su = s.spot su := by
  cases f <;> simp [State.fileOpt]

theorem State.fileOpt_elsewhere {f : Option Filing} (h : ∀ g, f = some g → g.stream = some st) :
    (s.fileOpt f).elsewhere st = s.elsewhere st := by
  cases f with
  | none => rfl
  | some g => exact s.file_elsewhere st (h g rfl)

theorem State.fileOpt_aside {f : Option Filing} (h : ∀ g, f = some g → g.stream = some st) :
    ((s.fileOpt f).stream st).aside = (s.stream st).aside := by
  cases f with
  | none => rfl
  | some g => exact s.file_aside st (h g rfl)

/-- The FRAME_COUNT filing of a finalisation of clip `n`, if there is one (R139 step 1). -/
def State.countFiling (s : State) (st : StreamId) (n : Nat) : Option Filing := (s.clip? n).bind (frameCountFault st n)

theorem frameCountFault_eq (n : Nat) (c : ClipRecord) : frameCountFault st n c =
    if c.expectedFrames.any fun m => m.toNat != c.framesSeen then
      some { kind := .frameCount, clip := some n, stream := some st, detail := c.framesSeen }
    else none := by
  unfold frameCountFault
  cases hm : c.expectedFrames with
  | none => rfl
  | some m =>
    by_cases h : m.toNat = c.framesSeen <;> simp [h]

theorem State.countFiling_fields {n : Nat} {g : Filing} (h : s.countFiling st n = some g) :
    g.stream = some st ∧ g.clip = some n ∧ g.kind = .frameCount := by
  obtain ⟨c, -, hg⟩ := Option.bind_eq_some_iff.mp h
  rw [frameCountFault_eq] at hg
  split at hg
  · cases hg
    exact ⟨rfl, rfl, rfl⟩
  · exact nomatch hg

/-- A clip's record after its finalisation on a stream: FRAME_COUNT counted if filed, its QC state judged, the stream off its
current streams (R35, R36, R139). -/
def ClipRecord.finalised (c : ClipRecord) (st : StreamId) : ClipRecord :=
  ((if c.expectedFrames.any fun m => m.toNat != c.framesSeen then c.countFault .timing else c).judge).setCurrent st false

theorem State.finalise_of_none (h : (s.stream st).currentClip = none) :
    s.finalise st = s.modStream st fun x => { x with finaliseWaiting := false } := by
  simp only [State.finalise, h]

theorem State.finalise_of_some {n : Nat} (h : (s.stream st).currentClip = some n) : s.finalise st =
    ((((s.fileOpt (s.countFiling st n)).modClip n fun c => c.judge.setCurrent st false).modStream st fun x =>
      { x with currentClip := none, lastFrame := none, lookMissing := false, finaliseWaiting := false }).modSpot st
        (·.leaveClip)) := by
  simp only [State.finalise, h]
  rfl

@[simp] theorem State.finalise_elsewhere : (s.finalise st).elsewhere st = s.elsewhere st := by
  cases h : (s.stream st).currentClip with
  | none => rw [s.finalise_of_none st h, State.modStream_elsewhere]
  | some n =>
    rw [s.finalise_of_some st h, State.modSpot_elsewhere, State.modStream_elsewhere, State.modClip_elsewhere]
    exact State.fileOpt_elsewhere _ _ fun g hg => (s.countFiling_fields st hg).1

@[simp] theorem State.finalise_link : (s.finalise st).link = s.link := by
  cases h : (s.stream st).currentClip with
  | none => rw [s.finalise_of_none st h, State.modStream_link]
  | some n => rw [s.finalise_of_some st h]; simp

/-- A stream after its finalisation, but for what a filing changes (R139). -/
theorem State.finalise_aside : ((s.finalise st).stream st).aside =
    if (s.stream st).currentClip = none then { (s.stream st).aside with finaliseWaiting := false }
    else { (s.stream st).aside with currentClip := none, lastFrame := none, lookMissing := false, finaliseWaiting := false } := by
  cases h : (s.stream st).currentClip with
  | none =>
    rw [s.finalise_of_none st h, State.stream_modStream]
    rfl
  | some n =>
    rw [s.finalise_of_some st h, if_neg (by simp)]
    have hstream (t : State) (f : SpotterStream → SpotterStream) : (t.modSpot st f).stream st = t.stream st := rfl
    have hclip (t : State) (f : ClipRecord → ClipRecord) : (t.modClip n f).stream st = t.stream st := by
      simp [State.stream]
    rw [hstream, State.stream_modStream, hclip]
    have hfile := s.fileOpt_aside st (f := s.countFiling st n) fun g hg => (s.countFiling_fields st hg).1
    rw [Stream.eq_of_aside hfile]
    rfl

/-- What the spotter holds for a stream after its finalisation (R148, R153). -/
theorem State.finalise_spot : (s.finalise st).spot st =
    if (s.stream st).currentClip = none then s.spot st else (s.spot st).leaveClip := by
  cases h : (s.stream st).currentClip with
  | none =>
    rw [s.finalise_of_none st h]
    rfl
  | some n =>
    rw [s.finalise_of_some st h, State.spot_modSpot, if_neg (by simp)]
    refine congrArg SpotterStream.leaveClip ?_
    refine Eq.trans ?_ (s.fileOpt_spot (s.countFiling st n) st)
    simp [State.spot]

/-- The clip records after a finalisation (R35, R36, R139). -/
theorem State.finalise_clip? (m : Nat) : (s.finalise st).clip? m =
    if (s.stream st).currentClip = some m then (s.clip? m).map (·.finalised st) else s.clip? m := by
  cases h : (s.stream st).currentClip with
  | none =>
    rw [s.finalise_of_none st h, if_neg (by simp)]
    rfl
  | some n =>
    rw [s.finalise_of_some st h]
    refine (State.clip?_modClip (s.fileOpt (s.countFiling st n)) n m _).trans ?_
    by_cases hnm : n = m
    · subst hnm
      rw [if_pos rfl, if_pos rfl]
      cases hc : s.clip? n with
      | none =>
        have hnone : s.countFiling st n = none := by simp [State.countFiling, hc]
        rw [hnone]
        simp [State.fileOpt, hc]
      | some c =>
        have hfiling : s.countFiling st n = frameCountFault st n c := by simp [State.countFiling, hc]
        rw [hfiling, frameCountFault_eq]
        split
        · next hdiff =>
          simp only [State.fileOpt, State.file_clip?, if_true, hc, Option.map_some, ClipRecord.finalised, hdiff]
          rfl
        · next hdiff => simp only [State.fileOpt, hc, Option.map_some, ClipRecord.finalised, hdiff, Bool.false_eq_true, if_false]
    · rw [if_neg hnm, if_neg (by simpa using hnm)]
      cases hf : s.countFiling st n with
      | none => rfl
      | some g =>
        have := (s.countFiling_fields st hf).2.1
        rw [State.fileOpt, State.file_clip?, this, if_neg (by simpa using hnm)]

/-- The entries of a finalisation (R139 step 1). -/
theorem State.finalise_adds : State.Adds 1
    (((s.stream st).currentClip.bind fun n => s.countFiling st n).map (·.entry s.now)).toList s (s.finalise st) := by
  cases h : (s.stream st).currentClip with
  | none =>
    rw [s.finalise_of_none st h]
    exact ⟨rfl, Nat.zero_le 1, fun _ => (List.append_nil _).symm⟩
  | some n =>
    rw [s.finalise_of_some st h]
    exact (s.adds_fileOpt (s.countFiling st n)).quiet (by simp) (by simp [State.now])

/-! ### The repeat run (R137) -/

@[simp] theorem State.fileRun_elsewhere : (s.fileRun st).elsewhere st = s.elsewhere st := by
  rw [State.fileRun_eq]
  split
  · rfl
  · rw [State.modStream_elsewhere, State.file_elsewhere _ _ rfl]

@[simp] theorem State.fileRun_link : (s.fileRun st).link = s.link := by
  rw [State.fileRun_eq]
  split
  · rfl
  · simp

@[simp] theorem State.fileRun_spot (su : StreamId) : (s.fileRun st).spot su = s.spot su := by
  rw [State.fileRun_eq]
  split
  · rfl
  · exact State.file_spot ..

/-- A stream whose run has been filed, but for what a filing changes (R137). -/
theorem State.fileRun_aside : ∃ r, r.length = 0 ∧ ((s.fileRun st).stream st).aside = { (s.stream st).aside with run := r } := by
  rw [State.fileRun_eq]
  split
  · next h => exact ⟨(s.stream st).run, h, rfl⟩
  · refine ⟨⟨0, 0, 0⟩, rfl, ?_⟩
    rw [State.stream_modStream, State.file_stream _ _ rfl]
    rfl

theorem State.fileRun_clip? (m : Nat) : (s.fileRun st).clip? m =
    if (s.stream st).run.length ≠ 0 ∧ (s.stream st).run.clip = m then (s.clip? m).map (·.countFault .timing)
    else s.clip? m := by
  rw [State.fileRun_eq]
  by_cases h : (s.stream st).run.length = 0
  · simp [h]
  · rw [if_neg h]
    refine (State.file_clip? s _ m).trans ?_
    simp only [frameFiling, Option.some.injEq, ne_eq, h, not_false_eq_true, true_and]
    rfl

theorem State.fileRun_adds : State.Adds 1
    (if (s.stream st).run.length = 0 then []
      else [(frameFiling st .outputRepeat (s.stream st).run.clip (s.stream st).run.frame (s.stream st).run.length).entry s.now])
    s (s.fileRun st) := by
  rw [State.fileRun_eq]
  split
  · exact ⟨rfl, Nat.zero_le 1, fun _ => (List.append_nil _).symm⟩
  · exact (s.adds_file _).quiet rfl rfl

end

/-! ### Counting in a clip (R34, R35) -/

/-- What a counted timing fault leaves of a clip record: all but its count of them and its QC state. -/
theorem ClipRecord.countFault_timing (c : ClipRecord) : ∃ q, c.countFault .timing =
    { c with timingFaults := min (c.timingFaults + 1) 65535, qc := q } := by
  refine ⟨(c.countFault .timing).qc, ?_⟩
  rw [ClipRecord.countFault_eq]
  simp

/-- A finalised clip record, field by field (R35, R36, R139). -/
theorem ClipRecord.finalised_eq (c : ClipRecord) (st : StreamId) : c.finalised st =
    { c with
      timingFaults :=
        if c.expectedFrames.any fun m => m.toNat != c.framesSeen then min (c.timingFaults + 1) 65535 else c.timingFaults
      qc :=
        if c.copyFaults = 0 ∧ c.pictureFaults = 0 ∧
          (if c.expectedFrames.any fun m => m.toNat != c.framesSeen then min (c.timingFaults + 1) 65535
            else c.timingFaults) = 0 then .clean else .flagged
      currentStreams := c.currentStreams.set st.val false } := by
  unfold ClipRecord.finalised
  obtain ⟨q, hq⟩ := c.countFault_timing
  split
  · rw [hq]
    rfl
  · rfl

/-! ### REVIEW CLOSE (R140) -/

section
variable (s : State) (st : StreamId)

/-- The state of a close when its filings and the finalisation are done (R140 steps 1 to 4). -/
def State.ending (s : State) (st : StreamId) : State :=
  let t := (s.modStream st (·.dropFrame)).fileRun st
  if (s.stream st).currentClip = none then t else t.finalise st

theorem Stream.dropFrame_eq (x : Stream) : ∃ b g, x.dropFrame =
    { x with frame := none, latch := none, backState := b, back := g } := by
  unfold Stream.dropFrame
  split
  · exact ⟨_, _, rfl⟩
  · exact ⟨_, _, rfl⟩

/-- Of a stream whose frame is dropped and whose run is filed, what the finalisation and the close look at. -/
theorem State.dropped_stream :
    let x := ((s.modStream st (·.dropFrame)).fileRun st).stream st
    x.currentClip = (s.stream st).currentClip ∧ x.params = (s.stream st).params := by
  obtain ⟨r, -, h⟩ := (s.modStream st (·.dropFrame)).fileRun_aside st
  obtain ⟨b, g, hx⟩ := (s.stream st).dropFrame_eq
  rw [State.stream_modStream, hx] at h
  exact ⟨(congrArg Stream.currentClip h :), (congrArg Stream.params h :)⟩

theorem State.ending_stream : ((s.ending st).stream st).params = (s.stream st).params := by
  obtain ⟨-, hparams⟩ := s.dropped_stream st
  unfold State.ending
  split
  · exact hparams
  · refine Eq.trans ?_ hparams
    have h := ((s.modStream st (·.dropFrame)).fileRun st).finalise_aside st
    split at h
    · exact (congrArg Stream.params h :)
    · exact (congrArg Stream.params h :)

theorem State.closeStream_eq : s.closeStream st =
    (((s.ending st).modPort (s.stream st).params.output.port (·.removePackets fun o => o == .raster st)).modSpot st
      fun x => { x with measures := Measures.zero }).modStream st fun _ => Stream.closed (s.stream st).params := by
  obtain ⟨hclip, -⟩ := s.dropped_stream st
  have hend : (if (((s.modStream st (·.dropFrame)).fileRun st).stream st).currentClip.isSome then
      ((s.modStream st (·.dropFrame)).fileRun st).finalise st else (s.modStream st (·.dropFrame)).fileRun st) =
      s.ending st := by
    rw [hclip, State.ending]
    cases (s.stream st).currentClip <;> rfl
  simp only [State.closeStream, hend, s.ending_stream st]
  refine State.modStream_congr ?_
  exact congrArg Stream.closed (s.ending_stream st)

@[simp] theorem State.ending_elsewhere : (s.ending st).elsewhere st = s.elsewhere st := by
  unfold State.ending
  split <;> simp

@[simp] theorem State.ending_link : (s.ending st).link = s.link := by
  unfold State.ending
  split <;> simp

theorem State.ending_spot : (s.ending st).spot st =
    if (s.stream st).currentClip = none then s.spot st else (s.spot st).leaveClip := by
  obtain ⟨hclip, -⟩ := s.dropped_stream st
  unfold State.ending
  split
  · rw [State.fileRun_spot]
    rfl
  · next h =>
    rw [State.finalise_spot, hclip, if_neg h, State.fileRun_spot]
    rfl

theorem State.dropped_run : ((s.modStream st (·.dropFrame)).stream st).run = (s.stream st).run := by
  obtain ⟨b, g, hx⟩ := (s.stream st).dropFrame_eq
  rw [State.stream_modStream, hx]

/-- The clip records of a close: the run is counted in its clip, and the current clip is finalised. -/
theorem State.ending_clip? (m : Nat) : (s.ending st).clip? m =
    (if (s.stream st).run.length ≠ 0 ∧ (s.stream st).run.clip = m then (s.clip? m).map (·.countFault .timing)
      else s.clip? m).map fun c => if (s.stream st).currentClip = some m then c.finalised st else c := by
  obtain ⟨hclip, -⟩ := s.dropped_stream st
  have hrun := (s.modStream st (·.dropFrame)).fileRun_clip? st m
  rw [s.dropped_run st] at hrun
  have hbase : (s.modStream st (·.dropFrame)).clip? m = s.clip? m := rfl
  rw [hbase] at hrun
  rw [← hrun]
  unfold State.ending
  dsimp only
  split
  · next h => simp [h]
  · rw [State.finalise_clip?, hclip]
    split
    · rfl
    · simp

/-- The entries of a close: OUTPUT_REPEAT of an open run, then FRAME_COUNT of the current clip (R137, R139). -/
theorem State.ending_adds : State.Adds 2
    ((if (s.stream st).run.length = 0 then []
      else [(frameFiling st .outputRepeat (s.stream st).run.clip (s.stream st).run.frame (s.stream st).run.length).entry s.now]) ++
      (((s.stream st).currentClip.bind fun n => s.countFiling st n).map (·.entry s.now)).toList) s (s.ending st) := by
  obtain ⟨hclip, -⟩ := s.dropped_stream st
  have hrun := State.Adds.trans (State.Adds.nothing (s := s) (t := s.modStream st (·.dropFrame)) rfl rfl)
    ((s.modStream st (·.dropFrame)).fileRun_adds st)
  rw [s.dropped_run st] at hrun
  have hcount (n : Nat) : ((s.modStream st (·.dropFrame)).fileRun st).countFiling st n = s.countFiling st n := by
    unfold State.countFiling
    rw [State.fileRun_clip?]
    have hbase : (s.modStream st (·.dropFrame)).clip? n = s.clip? n := rfl
    rw [hbase]
    cases hc : s.clip? n with
    | none => simp
    | some c =>
      obtain ⟨q, hq⟩ := c.countFault_timing
      split
      · rw [Option.map_some, hq]
        rfl
      · rfl
  have hfinal := ((s.modStream st (·.dropFrame)).fileRun st).finalise_adds st
  rw [hclip] at hfinal
  simp only [hcount] at hfinal
  rw [hrun.now] at hfinal
  by_cases h : (s.stream st).currentClip = none
  · rw [State.ending, if_pos h, h, Option.bind_none, Option.map_none, Option.toList_none, List.append_nil]
    exact ⟨hrun.now, hrun.length_le.trans (by decide), fun hroom => hrun.log (Nat.le_of_succ_le hroom)⟩
  · rw [State.ending, if_neg h]
    exact hrun.trans hfinal

end

section
variable (s : State) (st : StreamId)

theorem State.closeStream_elsewhere : (s.closeStream st).elsewhere st = s.elsewhere st := by
  rw [State.closeStream_eq]
  simp

theorem State.closeStream_port (q : Port) : (s.closeStream st).port q =
    if q = (s.stream st).params.output.port then (s.port q).removePackets fun o => o == .raster st else s.port q := by
  rw [State.closeStream_eq]
  have hport : (s.ending st).port q = s.port q := congrArg (fun l : LinkUnit => l.ports[q.val]) (s.ending_link st)
  refine Eq.trans (rfl : _ = ((s.ending st).modPort (s.stream st).params.output.port
    (·.removePackets fun o => o == .raster st)).port q) ?_
  split
  · next h => rw [← h, State.port_modPort, hport]
  · next h => rw [State.port_modPort_ne _ _ (Ne.symm h), hport]

theorem State.closeStream_spot : (s.closeStream st).spot st =
    { (if (s.stream st).currentClip = none then s.spot st else (s.spot st).leaveClip) with measures := Measures.zero } := by
  rw [State.closeStream_eq, ← State.ending_spot]
  refine Eq.trans (rfl : _ = (((s.ending st).modPort (s.stream st).params.output.port
    (·.removePackets fun o => o == .raster st)).modSpot st fun x => { x with measures := Measures.zero }).spot st) ?_
  rw [State.spot_modSpot]
  rfl

theorem State.closeStream_clip? (m : Nat) : (s.closeStream st).clip? m = (s.ending st).clip? m := by
  rw [State.closeStream_eq]
  rfl

theorem State.closeStream_log (h : s.spotter.log.length ≤ 126) : (s.closeStream st).spotter.log = s.spotter.log ++
    ((if (s.stream st).run.length = 0 then []
      else [(frameFiling st .outputRepeat (s.stream st).run.clip (s.stream st).run.frame (s.stream st).run.length).entry s.now]) ++
      (((s.stream st).currentClip.bind fun n => s.countFiling st n).map (·.entry s.now)).toList) := by
  rw [State.closeStream_eq]
  exact (s.ending_adds st).log (Nat.add_le_add_right h 2)

end

/-- The FRAME_COUNT entry of a finalisation, by the clip and its record (R139 step 1). -/
theorem State.countFiling_entry (s : State) (st : StreamId) {n : Nat} {c : ClipRecord} (hc : s.clip? n = some c) :
    ((s.countFiling st n).map (·.entry s.now)).toList =
      if c.expectedFrames.any fun m => m.toNat != c.framesSeen then
        [⟨.frameCount, s.supply.timeBase, some n, none, none, none, some st, BitVec.ofNat 32 c.framesSeen, false⟩]
      else [] := by
  simp only [State.countFiling, hc, Option.bind_some, frameCountFault_eq]
  split <;> rfl

theorem State.countFiling_of_none (s : State) (st : StreamId) {n : Nat} (hc : s.clip? n = none) :
    s.countFiling st n = none := by
  simp [State.countFiling, hc]

theorem StreamId.byteOf_val (st : StreamId) : (byteOf st.val).toNat = st.val := by revert st; decide

theorem StreamId.byteOf_lt (st : StreamId) : (byteOf st.val).toNat < 2 := by rw [StreamId.byteOf_val]; exact st.isLt

/-- Settles O44: the checks of REVIEW CLOSE, and what the close leaves. -/
theorem reviewClose : Obligations.ReviewClose := by
  intro s p r h hn u
  have hexec := exec_serve_taking (c := .reviewClose) (rule := State.reviewClose) rfl h hn
  refine ⟨fun hbad => ?_, fun st hargs => ?_⟩
  · rw [hexec, State.reviewClose]
    by_cases hone : ∃ a, r.args = [a]
    · obtain ⟨a, ha⟩ := hone
      have := hbad a ha
      rw [ha, parseOne, withArgs_some, State.onStream_of_not_lt _ (by omega)]
      rfl
    · rw [parseOne_eq_none fun a ha => hone ⟨a, ha⟩]
      rfl
  · have hrule : State.reviewClose u r.args =
        if (u.stream st).state = .closed then u.refuse .wrongState else (u.closeStream st).done [] := by
      have hst : (byteOf st.val).toNat < 2 := StreamId.byteOf_lt st
      have heq : (⟨(byteOf st.val).toNat, hst⟩ : StreamId) = st := Fin.ext (StreamId.byteOf_val st)
      rw [hargs, State.reviewClose, parseOne, withArgs_some, State.onStream_of_lt _ hst, heq]
    have hu : u.stream st = s.stream st := rfl
    have huclip (n : Nat) : u.clip? n = s.clip? n := rfl
    rw [hu] at hrule
    refine ⟨fun hclosed => ?_, fun hopen => ⟨u.closeStream st, ?_, ?_⟩⟩
    · rw [hexec, hrule, if_pos hclosed]
      rfl
    · rw [hexec, hrule, if_neg hopen]
      rfl
    have helse := u.closeStream_elsewhere st
    have hspot := u.closeStream_spot st
    refine ⟨?_, fun z hz => (State.other_of_elsewhere helse hz).1, fun k => ?_, fun q hq => ?_, ?_, ?_, fun hclip => ?_,
      ⟨fun hroom => ?_, fun k c hk hc => ?_, fun n hclip hrun => ?_⟩, congrArg Elsewhere.look helse,
      congrArg Elsewhere.endpoints helse, congrArg Elsewhere.defectMap helse, congrArg Elsewhere.offload helse,
      congrArg Elsewhere.jobs helse, congrArg Elsewhere.supply helse, congrArg Elsewhere.control helse⟩
    · rw [State.closeStream_eq, State.stream_modStream]
      rfl
    · rw [State.closeStream_port, hu, if_pos rfl]
      simp only [PortState.removePackets, Fin.getElem_fin, Vector.getElem_map]
      rfl
    · rw [State.closeStream_port, hu, if_neg hq]
      rfl
    · rw [hspot]
      rfl
    · rw [hspot]
      split <;> rfl
    · rw [hspot, hu, if_neg hclip]
      exact ⟨rfl, rfl, rfl, rfl, rfl⟩
    · rw [u.closeStream_log st hroom, ← List.append_assoc, hu]
      refine congrArg₂ (· ++ ·) rfl ?_
      cases hk : (s.stream st).currentClip with
      | none => rfl
      | some k =>
        rw [Option.bind_some]
        cases hc : s.clip? k with
        | none =>
          rw [u.countFiling_of_none st hc]
          simp only [hc]
          rfl
        | some c =>
          rw [u.countFiling_entry st hc]
          simp only [hc]
          rfl
    · simp only [State.closeStream_clip?, State.ending_clip?, hu, huclip, hk, hc, if_true]
      obtain ⟨q, hq⟩ := c.countFault_timing
      by_cases hcount : (s.stream st).run.length ≠ 0 ∧ (s.stream st).run.clip = k
      · rw [if_pos hcount, Option.map_some, Option.map_some, hq, ClipRecord.finalised_eq]
        refine ⟨_, rfl, rfl, rfl, rfl, rfl, rfl, fun hrun => ?_⟩
        exact (hrun.elim (fun h => hcount.1 h) fun h => h hcount.2).elim
      · rw [if_neg hcount, Option.map_some, ClipRecord.finalised_eq]
        exact ⟨_, rfl, rfl, rfl, rfl, rfl, rfl, fun _ => rfl⟩
    · have hcount : ¬ ((s.stream st).run.length ≠ 0 ∧ (s.stream st).run.clip = n) := fun hh =>
        hrun.elim (fun h => hh.1 h) fun h => h hh.2
      simp only [State.closeStream_clip?, State.ending_clip?, hu, huclip, hcount, hclip, if_false]
      exact Option.map_id'

end Sys2Proof.Machine
end

section
/-!
An outgoing frame handed over (R135, R136), and the hold requests with the release of a HELD stream (R164, R168).
-/

namespace Sys2Proof.Machine

/-! ### An outgoing frame handed over (R135, R136) -/

section
variable (s : State) (st : StreamId)

@[simp] theorem State.stream_modPort (p : Port) (f : PortState → PortState) : (s.modPort p f).stream st = s.stream st := rfl

@[simp] theorem State.freeRaster_table (p : Port) : (s.freeRaster st p).table = s.table := by
  unfold State.freeRaster; split <;> rfl
@[simp] theorem State.freeRaster_review (p : Port) : (s.freeRaster st p).review = s.review := by
  unfold State.freeRaster; split <;> rfl
@[simp] theorem State.freeRaster_spotter (p : Port) : (s.freeRaster st p).spotter = s.spotter := by
  unfold State.freeRaster; split <;> rfl

@[simp] theorem State.handNext_table : (s.handNext st).table = s.table := by
  unfold State.handNext
  dsimp only
  split
  · rfl
  · split
    · rfl
    · split <;> rfl
@[simp] theorem State.handNext_spotter : (s.handNext st).spotter = s.spotter := by
  unfold State.handNext
  dsimp only
  split
  · rfl
  · split
    · rfl
    · split <;> rfl

@[simp] theorem State.sendFrame_table (l : List Packet) : (s.sendFrame st l).table = s.table := by simp [State.sendFrame]
@[simp] theorem State.sendFrame_spotter (l : List Packet) : (s.sendFrame st l).spotter = s.spotter := by
  simp [State.sendFrame]

@[simp] theorem State.releaseInHand_table : (s.releaseInHand st).table = s.table := by
  unfold State.releaseInHand
  dsimp only
  split
  · rfl
  · split
    · rfl
    · split <;> simp
@[simp] theorem State.releaseInHand_spotter : (s.releaseInHand st).spotter = s.spotter := by
  unfold State.releaseInHand
  dsimp only
  split
  · rfl
  · split
    · rfl
    · split <;> simp

/-- Handing over leaves of its stream all but the packets still to come. -/
theorem State.handNext_stream : ∃ l, (s.handNext st).stream st = { s.stream st with presenting := l } := by
  unfold State.handNext
  dsimp only
  split
  · exact ⟨_, rfl⟩
  · split
    · exact ⟨_, rfl⟩
    · split
      · next rest _ _ => exact ⟨rest, by rw [State.stream_modPort, State.stream_modStream]⟩
      · exact ⟨[], State.stream_modStream ..⟩

theorem State.sendFrame_stream (l : List Packet) :
    ∃ l', (s.sendFrame st l).stream st = { s.stream st with presenting := l' } := by
  obtain ⟨l', h⟩ := (s.modStream st fun x => { x with presenting := l }).handNext_stream st
  exact ⟨l', by rw [State.sendFrame, h, State.stream_modStream]⟩

variable {s st}

/-- A frame sent while nothing of the stream waits, on an UP port: its first packet is in the queue. -/
theorem State.sendFrame_of_up (h : s.rasterWaiting st = false) (hup : s.isUp (s.stream st).params.output.port = true)
    (pk : Packet) (rest : List Packet) : s.sendFrame st (pk :: rest) =
      (s.modStream st fun x => { x with presenting := rest }).modPort (s.stream st).params.output.port
        (·.enqueue (.raster st) pk) := by
  have hwait : (s.modStream st fun x => { x with presenting := pk :: rest }).rasterWaiting st = false := by
    rw [State.rasterWaiting_modStream rfl, h]
  rw [State.sendFrame, State.handNext_of_up hwait (by rw [State.stream_modStream]) hup]
  simp only [State.stream_modStream, State.modStream_modStream]

/-- On a port that is not UP every packet is dropped (R9). -/
theorem State.sendFrame_of_down (h : s.rasterWaiting st = false)
    (hdown : s.isUp (s.stream st).params.output.port = false) (l : List Packet) :
    s.sendFrame st l = s.modStream st fun x => { x with presenting := [] } := by
  have hwait : (s.modStream st fun x => { x with presenting := l }).rasterWaiting st = false := by
    rw [State.rasterWaiting_modStream rfl, h]
  have hdown' : (s.modStream st fun x => { x with presenting := l }).isUp (s.stream st).params.output.port = false := hdown
  cases l with
  | nil => simp only [State.sendFrame, State.handNext, hwait, State.stream_modStream, Bool.false_eq_true, if_false]
  | cons pk rest =>
    simp only [State.sendFrame, State.handNext, hwait, State.stream_modStream, hdown', Bool.false_eq_true, if_false,
      State.modStream_modStream]

theorem State.queueOf_of_not_waiting (h : s.rasterWaiting st = false) :
    (s.port (s.stream st).params.output.port).queueOf (.raster st) = [] := by
  simpa [State.rasterWaiting] using h

/-- A frame sent while nothing of the stream waits stands, on an UP port, in the queue and the packets still to come. -/
theorem State.sendFrame_queue (h : s.rasterWaiting st = false) (hup : s.isUp (s.stream st).params.output.port = true)
    (l : List Packet) :
    ((s.sendFrame st l).port (s.stream st).params.output.port).queueOf (.raster st) ++
      ((s.sendFrame st l).stream st).presenting = l := by
  have hqueue := State.queueOf_of_not_waiting h
  cases l with
  | nil =>
    have hwait : (s.modStream st fun x => { x with presenting := [] }).rasterWaiting st = false := by
      rw [State.rasterWaiting_modStream rfl, h]
    have hsend : s.sendFrame st [] = s.modStream st fun x => { x with presenting := [] } := by
      simp only [State.sendFrame, State.handNext, hwait, State.stream_modStream, Bool.false_eq_true, if_false]
    rw [hsend, State.stream_modStream, List.append_nil]
    exact hqueue
  | cons pk rest =>
    rw [State.sendFrame_of_up h hup, State.port_modPort, PortState.queueOf_enqueue, if_pos rfl,
      State.stream_modPort, State.stream_modStream]
    show ((s.port (s.stream st).params.output.port).queueOf (.raster st) ++ [pk]) ++ rest = _
    rw [hqueue]
    rfl

theorem State.present_of_some {f : GradedFrame} (h : (s.stream st).front = some f) :
    s.present st = s.sendFrame st (f.packets st (s.stream st).params) := by
  simp only [State.present, h]

theorem State.present_of_none (h : (s.stream st).front = none) : s.present st = s := by
  simp only [State.present, h]

variable (s st)

@[simp] theorem State.present_elsewhere : (s.present st).elsewhere st = s.elsewhere st := by
  cases h : (s.stream st).front with
  | none => rw [State.present_of_none h]
  | some f => rw [State.present_of_some h, State.sendFrame_elsewhere]

@[simp] theorem State.present_table : (s.present st).table = s.table := by
  cases h : (s.stream st).front with
  | none => rw [State.present_of_none h]
  | some f => rw [State.present_of_some h, State.sendFrame_table]

@[simp] theorem State.present_spotter : (s.present st).spotter = s.spotter := by
  cases h : (s.stream st).front with
  | none => rw [State.present_of_none h]
  | some f => rw [State.present_of_some h, State.sendFrame_spotter]

theorem State.present_stream : ∃ l, (s.present st).stream st = { s.stream st with presenting := l } := by
  cases h : (s.stream st).front with
  | none => rw [State.present_of_none h]; exact ⟨_, rfl⟩
  | some f => rw [State.present_of_some h]; exact s.sendFrame_stream st _

variable {s st}

theorem State.present_queue (h : s.rasterWaiting st = false) (hup : s.isUp (s.stream st).params.output.port = true)
    {f : GradedFrame} (hf : (s.stream st).front = some f) :
    ((s.present st).port (s.stream st).params.output.port).queueOf (.raster st) ++ ((s.present st).stream st).presenting =
      f.packets st (s.stream st).params := by
  rw [State.present_of_some hf]
  exact State.sendFrame_queue h hup _

/-! ### A hold tick (R166, R168) -/

theorem State.tick_hold_table : (s.tick st true).table = s.table := by
  unfold State.tick
  dsimp only
  split
  · rfl
  · split <;> simp

theorem State.tick_hold_elsewhere : (s.tick st true).elsewhere st = s.elsewhere st := by
  unfold State.tick
  dsimp only
  split
  · simp
  · split <;> simp

end

/-! ### Setting and clearing hold points (R164) -/

theorem be4_word (a b c d : Byte) : BitVec.ofNat 32 (be4 a b c d) = a ++ b ++ c ++ d := by
  apply BitVec.eq_of_toNat_eq
  have ha := a.isLt
  have hb := b.isLt
  have hc := c.isLt
  have hd := d.isLt
  simp only [be4, beNat, List.foldl_cons, List.foldl_nil, BitVec.toNat_ofNat, BitVec.toNat_append]
  rw [← Nat.shiftLeft_add_eq_or_of_lt hd, ← Nat.shiftLeft_add_eq_or_of_lt hc, ← Nat.shiftLeft_add_eq_or_of_lt hb]
  simp only [Nat.shiftLeft_eq]
  omega

/-- The kinds filed with a stream, by their codes (R164). -/
theorem FaultKind.ofStreamCode_eq (n : Nat) : FaultKind.ofStreamCode n =
    ([.hotPixel, .clipping, .blackFrame, .hotScanSaturated, .lookMissing, .lineGap, .geometry, .notSecured,
      .droppedFrames, .outOfOrder, .frameCount, .duplicateFrame, .stall, .outputRepeat].find?
        fun (x : FaultKind) => x.code == n) := by
  by_cases h : 11 ≤ n ∧ n ≤ 24
  · obtain ⟨hlow, hhigh⟩ := h
    interval_cases n <;> rfl
  · have hnone : FaultKind.ofStreamCode n = none := by
      unfold FaultKind.ofStreamCode
      split
      case h_15 => rfl
      all_goals omega
    rw [hnone]
    symm
    rw [List.find?_eq_none]
    simp only [List.mem_cons, List.not_mem_nil, or_false, forall_eq_or_imp, forall_eq, FaultKind.code, beq_iff_eq]
    omega

/-- The condition that HOLD SET names, byte by byte (R164). -/
theorem HoldArgs.cond_bytes (pt st ty c1 c0 f3 f2 f1 f0 k one : Byte) :
    (⟨pt.toNat, st.toNat, ty.toNat, be2 c1 c0, be4 f3 f2 f1 f0, k.toNat, one.toNat⟩ : HoldArgs).cond =
      if ty = 0 then
        if c1.toNat * 256 + c0.toNat ≤ 511 then some (.frame (c1.toNat * 256 + c0.toNat) (f3 ++ f2 ++ f1 ++ f0)) else none
      else if ty = 1 then (FaultKind.ofStreamCode k.toNat).map HoldCondition.fault
      else none := by
  have h0 : ty.toNat = 0 ↔ ty = 0 := by rw [← BitVec.toNat_inj]; rfl
  have h1 : ty.toNat = 1 ↔ ty = 1 := by rw [← BitVec.toNat_inj]; rfl
  simp only [HoldArgs.cond, be2_eq, be4_word, h0, h1]

theorem pointOf_of_lt {n : Nat} (h : n < 4) : pointOf n = some ⟨n, h⟩ := dif_pos h

theorem pointOf_of_not_lt {n : Nat} (h : ¬ n < 4) : pointOf n = none := dif_neg h

theorem streamOf_of_lt {n : Nat} (h : n < 2) : streamOf n = some ⟨n, h⟩ := dif_pos h

theorem streamOf_of_not_lt {n : Nat} (h : ¬ n < 2) : streamOf n = none := dif_neg h

/-- HOLD SET, by what its arguments name (R164). -/
theorem State.holdSet_of_some {s : State} {args : List Byte} {a : HoldArgs} (ha : parseHold args = some a)
    (h : a.point < 4 ∧ a.stream < 2 ∧ a.oneShot ≤ 1) {c : HoldCondition} (hc : a.cond = some c) :
    s.holdSet args =
      (s.setHold ⟨a.point, h.1⟩ (some ⟨⟨a.stream, h.2.1⟩, c, decide (a.oneShot = 1), true⟩)).done [] := by
  rw [State.holdSet, ha, withArgs_some, pointOf_of_lt h.1, streamOf_of_lt h.2.1, hc, flagOf_of_le h.2.2]

theorem State.holdSet_of_no_condition {s : State} {args : List Byte} {a : HoldArgs} (ha : parseHold args = some a)
    (hc : a.cond = none) : s.holdSet args = s.refuse .badArgument := by
  rw [State.holdSet, ha, withArgs_some, hc]
  split
  · next heq _ => exact nomatch heq
  · rfl

theorem State.holdSet_of_range {s : State} {args : List Byte} {a : HoldArgs} (ha : parseHold args = some a)
    (h : ¬ (a.point < 4 ∧ a.stream < 2 ∧ a.oneShot ≤ 1)) : s.holdSet args = s.refuse .badArgument := by
  rw [State.holdSet, ha, withArgs_some]
  split
  · next hp hs _ ho =>
    refine absurd ⟨?_, ?_, ?_⟩ h
    · by_contra hc
      rw [pointOf_of_not_lt hc] at hp
      exact nomatch hp
    · by_contra hc
      rw [streamOf_of_not_lt hc] at hs
      exact nomatch hs
    · by_contra hc
      rw [flagOf_of_gt hc] at ho
      exact nomatch ho
  · rfl

/-! ### The release of a HELD stream (R168) -/

/-- A stream whose regrade is cut short (R167). -/
def Stream.cut (x : Stream) : Stream :=
  if x.regrading then
    { x with
      latch := none
      regrading := false
      regradeAgain := false
      backState := if x.params.mode = .paced then .idle else x.backState
      presenting := if x.params.mode = .paced then x.presenting else [] }
  else x

section
variable (s : State) (st : StreamId)

theorem State.cutRegrade_eq : s.cutRegrade st = s.modStream st (·.cut) := by
  unfold State.cutRegrade
  split
  · next h =>
    refine State.modStream_congr ?_
    rw [Stream.cut, if_pos h]
    cases hm : (s.stream st).params.mode <;> simp [hm]
  · next h =>
    refine (State.modStream_self ?_).symm
    rw [Stream.cut, if_neg h]

/-- A release when the regrade is cut and a finalisation that waited is made (R168 steps 1 and 2). -/
def State.settledHold (s : State) (st : StreamId) : State :=
  if (s.stream st).finaliseWaiting then (s.modStream st (·.cut)).finalise st else s.modStream st (·.cut)

/-- A release when the pacing has started again (R168 step 3). -/
def State.paced (s : State) (st : StreamId) : State :=
  match (s.stream st).params.mode with
  | .streaming => s
  | .paced => (s.modStream st fun x => { x with origin := some s.now, tick := 0 }).tick st true

/-- A release before the packets that waited are taken (R168 steps 1 to 5). -/
def State.holdReleased (s : State) (st : StreamId) : State :=
  (((s.settledHold st).paced st).modStream st fun x =>
    { x.markWaiting with
      stallTimer := some (s.supply.timeBase + BitVec.ofNat 64 (x.params.stallMs * 1000))
      stallSilent := true
      state := .running
      holdPending := false
      heldFrame := none }).releaseInHand st

theorem Stream.cut_finaliseWaiting (x : Stream) : x.cut.finaliseWaiting = x.finaliseWaiting := by
  unfold Stream.cut; split <;> rfl

theorem State.settledHold_elsewhere : (s.settledHold st).elsewhere st = s.elsewhere st := by
  unfold State.settledHold
  split <;> simp

theorem State.paced_elsewhere : (s.paced st).elsewhere st = s.elsewhere st := by
  unfold State.paced
  split
  · rfl
  · rw [State.tick_hold_elsewhere, State.modStream_elsewhere]

theorem State.releaseHold_eq : s.releaseHold st =
    State.takeWaiting st ((s.holdReleased st).stream st).queue.length (s.holdReleased st) := by
  have hsettled : (if ((s.modStream st (·.cut)).stream st).finaliseWaiting then (s.modStream st (·.cut)).finalise st
      else s.modStream st (·.cut)) = s.settledHold st := by
    rw [State.stream_modStream, Stream.cut_finaliseWaiting]
    rfl
  have hpaced : ((s.settledHold st).paced st).now = s.now :=
    State.now_of_elsewhere (((s.settledHold st).paced_elsewhere st).trans (s.settledHold_elsewhere st))
  simp only [State.releaseHold, State.cutRegrade_eq, hsettled, State.holdReleased]
  cases hm : ((s.settledHold st).stream st).params.mode
  all_goals
    simp only [State.paced, hm] at hpaced
    simp only [State.restartStall, State.modStream_modStream, State.later, State.paced, hm, hpaced]
    rfl

theorem State.settledHold_link : (s.settledHold st).link = s.link := by
  unfold State.settledHold
  split <;> simp

theorem Stream.cut_paced {x : Stream} (h : x.params.mode = .paced) : x.cut =
    { x with
      latch := if x.regrading then none else x.latch
      regrading := false
      regradeAgain := if x.regrading then false else x.regradeAgain
      backState := if x.regrading then .idle else x.backState } := by
  cases hr : x.regrading
  · rw [Stream.cut, if_neg (by simp [hr])]
    simp only [Bool.false_eq_true, if_false]
    rw [← hr]
  · rw [Stream.cut, if_pos hr]
    simp only [h, if_true]

theorem Stream.cut_eq (x : Stream) : ∃ l b p, x.cut =
    { x with
      latch := l
      regrading := false
      regradeAgain := if x.regrading then false else x.regradeAgain
      backState := b
      presenting := p } ∧ (x.regrading = true → l = none ∧ (x.params.mode = .streaming → p = [])) := by
  cases hr : x.regrading
  · refine ⟨x.latch, x.backState, x.presenting, ?_, fun h => nomatch h⟩
    rw [Stream.cut, if_neg (by simp [hr])]
    simp only [Bool.false_eq_true, if_false]
    rw [← hr]
  · refine ⟨none, if x.params.mode = .paced then .idle else x.backState,
      if x.params.mode = .paced then x.presenting else [], ?_, fun _ => ⟨rfl, fun hm => by rw [hm]; rfl⟩⟩
    rw [Stream.cut, if_pos hr]
    rfl

/-- The stream of a release when the regrade is cut and a finalisation that waited is made. -/
theorem State.settledHold_stream : ∃ fr b lf lm, (s.settledHold st).stream st =
    { (s.stream st).cut with
      frame := fr
      holdPending := b
      currentClip := if (s.stream st).finaliseWaiting then none else (s.stream st).currentClip
      lastFrame := lf
      lookMissing := lm
      finaliseWaiting := false } := by
  have hcut : ((s.modStream st (·.cut)).stream st) = (s.stream st).cut := State.stream_modStream ..
  have hclip : (s.stream st).cut.currentClip = (s.stream st).currentClip := by unfold Stream.cut; split <;> rfl
  unfold State.settledHold
  split
  · have h := (s.modStream st (·.cut)).finalise_aside st
    rw [hcut] at h
    split at h
    · next hnone =>
      have hx := Stream.eq_of_aside (y := { (s.stream st).cut with finaliseWaiting := false }) h
      exact ⟨_, _, _, _, hx.trans (by rw [← hnone])⟩
    · exact ⟨_, _, none, false, Stream.eq_of_aside (y := { (s.stream st).cut with
        currentClip := none, lastFrame := none, lookMissing := false, finaliseWaiting := false }) h⟩
  · next hno =>
    have hoff : (s.stream st).cut.finaliseWaiting = false := by rw [Stream.cut_finaliseWaiting]; simpa using hno
    refine ⟨(s.stream st).cut.frame, (s.stream st).cut.holdPending, (s.stream st).cut.lastFrame,
      (s.stream st).cut.lookMissing, ?_⟩
    rw [hcut, ← hclip, ← hoff]

theorem State.settledHold_table (h : (s.stream st).finaliseWaiting = false) : (s.settledHold st).table = s.table := by
  rw [State.settledHold, if_neg (by simp [h])]
  rfl

theorem State.settledHold_clip? (h : (s.stream st).finaliseWaiting = true) (m : Nat) : (s.settledHold st).clip? m =
    if (s.stream st).currentClip = some m then (s.clip? m).map (·.finalised st) else s.clip? m := by
  have hclip : (s.stream st).cut.currentClip = (s.stream st).currentClip := by unfold Stream.cut; split <;> rfl
  rw [State.settledHold, if_pos h, State.finalise_clip?, State.stream_modStream, hclip]
  rfl

/-! #### The pacing started again (R136, R166, R168) -/

theorem State.paced_of_streaming (h : (s.stream st).params.mode = .streaming) : s.paced st = s := by
  simp only [State.paced, h]

theorem State.paced_table : (s.paced st).table = s.table := by
  unfold State.paced
  split
  · rfl
  · rw [State.tick_hold_table]
    rfl

variable {s st}

theorem State.paced_of_presenting (hm : (s.stream st).params.mode = .paced) (h : s.presentingNow st = true) :
    s.paced st = s.modStream st fun x =>
      { x with origin := some s.now, tick := 0, overruns := min (x.overruns + 1) 4294967295 } := by
  have hnow : (s.modStream st fun x => { x with origin := some s.now, tick := 0 }).presentingNow st = true := by
    rw [State.presentingNow_iff] at h ⊢
    rw [State.stream_modStream]
    exact h
  simp only [State.paced, hm, State.tick_of_presenting hnow, State.modStream_modStream, bump32_eq]

theorem State.paced_of_idle (hm : (s.stream st).params.mode = .paced) (h : s.presentingNow st = false) :
    s.paced st = (s.modStream st fun x =>
      if x.backState = .ready then
        { x with origin := some s.now, tick := 0, front := x.back, back := x.front, backState := .idle }
      else { x with origin := some s.now, tick := 0 }).present st := by
  have hnow : (s.modStream st fun x => { x with origin := some s.now, tick := 0 }).presentingNow st = false := by
    rw [Bool.eq_false_iff, Ne, State.presentingNow_iff] at h ⊢
    rw [State.stream_modStream]
    exact h
  have hback : ((s.modStream st fun x => { x with origin := some s.now, tick := 0 }).stream st).backState =
      (s.stream st).backState := by rw [State.stream_modStream]
  simp only [State.paced, hm]
  by_cases hr : (s.stream st).backState = .ready
  · rw [State.tick_of_ready hnow (hback.trans hr), if_pos rfl, State.modStream_modStream]
    refine congrArg (State.present · st) (State.modStream_congr ?_)
    rw [if_pos hr]
    rfl
  · rw [State.tick_of_not_ready hnow (fun e => hr (hback.symm.trans e)), if_pos rfl]
    refine congrArg (State.present · st) (State.modStream_congr ?_)
    rw [if_neg hr]

variable (s st)

/-- Starting the pacing again leaves of its stream all but the pacing itself and the buffers. -/
theorem State.paced_stream : ∃ o k n f bs g l, (s.paced st).stream st =
    { s.stream st with
      origin := o, tick := k, overruns := n, front := f, backState := bs, back := g, presenting := l } := by
  cases hm : (s.stream st).params.mode with
  | streaming => rw [s.paced_of_streaming st hm]; exact ⟨_, _, _, _, _, _, _, rfl⟩
  | paced =>
    cases hp : s.presentingNow st with
    | true =>
      rw [State.paced_of_presenting hm hp, State.stream_modStream]
      exact ⟨_, _, _, _, _, _, _, rfl⟩
    | false =>
      rw [State.paced_of_idle hm hp]
      obtain ⟨l, hl⟩ := State.present_stream (s.modStream st fun x =>
        if x.backState = .ready then
          { x with origin := some s.now, tick := 0, front := x.back, back := x.front, backState := .idle }
        else { x with origin := some s.now, tick := 0 }) st
      rw [hl, State.stream_modStream]
      split
      · exact ⟨_, _, _, _, _, _, _, rfl⟩
      · exact ⟨_, _, _, _, _, _, _, rfl⟩

/-! #### What a release leaves (R168) -/

/-- The stream of a release before the packets that waited are taken. -/
theorem State.holdReleased_stream : ∃ b, (s.holdReleased st).stream st =
    { ((s.settledHold st).paced st).stream st with
      queue := (((s.settledHold st).paced st).stream st).queue.map fun pk => { pk with waitedRelease := true }
      stallTimer := some (s.supply.timeBase +
        BitVec.ofNat 64 ((((s.settledHold st).paced st).stream st).params.stallMs * 1000))
      stallSilent := true
      state := .running
      holdPending := false
      heldFrame := none
      inHand := b } := by
  obtain ⟨b, hb⟩ := State.releaseInHand_stream (st := st) (s := (((s.settledHold st).paced st).modStream st fun x =>
    { x.markWaiting with
      stallTimer := some (s.supply.timeBase + BitVec.ofNat 64 (x.params.stallMs * 1000))
      stallSilent := true
      state := .running
      holdPending := false
      heldFrame := none }))
  refine ⟨b, hb.trans ?_⟩
  rw [State.stream_modStream]
  rfl

theorem State.holdReleased_elsewhere : (s.holdReleased st).elsewhere st = s.elsewhere st := by
  rw [State.holdReleased, State.releaseInHand_elsewhere, State.modStream_elsewhere, State.paced_elsewhere,
    State.settledHold_elsewhere]

theorem State.holdReleased_table : (s.holdReleased st).table = (s.settledHold st).table := by
  rw [State.holdReleased, State.releaseInHand_table, State.modStream_table, State.paced_table]

theorem State.holdReleased_queues (q : Port) :
    ((s.holdReleased st).port q).queues = (((s.settledHold st).paced st).port q).queues :=
  State.releaseInHand_port q |>.1

variable {s st}

theorem State.settledHold_presentingNow (hm : (s.stream st).params.mode = .paced) :
    (s.settledHold st).presentingNow st = s.presentingNow st := by
  obtain ⟨fr, b, lf, lm, hy⟩ := s.settledHold_stream st
  rw [Stream.cut_paced hm] at hy
  have hport (q : Port) : (s.settledHold st).port q = s.port q :=
    congrArg (fun l : LinkUnit => l.ports[q.val]) (s.settledHold_link st)
  rw [Bool.eq_iff_iff, State.presentingNow_iff, State.presentingNow_iff, hy, hport]

/-- Of a PACED stream that presents something, a release counts an overrun (R136, R168). -/
theorem State.holdReleased_of_presenting (hm : (s.stream st).params.mode = .paced) (h : s.presentingNow st = true) :
    let y := (s.holdReleased st).stream st
    y.origin = some s.supply.timeBase ∧ y.tick = 0 ∧ y.overruns = min ((s.stream st).overruns + 1) 4294967295 ∧
      y.front = (s.stream st).front ∧
      y.backState = (if (s.stream st).regrading then .idle else (s.stream st).backState) := by
  obtain ⟨c, hc⟩ := s.holdReleased_stream st
  obtain ⟨fr, b, lf, lm, hy⟩ := s.settledHold_stream st
  rw [Stream.cut_paced hm] at hy
  have hmode : ((s.settledHold st).stream st).params.mode = .paced := by rw [hy]; exact hm
  have hnow : (s.settledHold st).now = s.now := State.now_of_elsewhere (s.settledHold_elsewhere st)
  rw [State.paced_of_presenting hmode ((State.settledHold_presentingNow hm).trans h), State.stream_modStream, hy, hnow] at hc
  rw [hc]
  exact ⟨rfl, rfl, rfl, rfl, rfl⟩

/-- Of a PACED stream that presents nothing, a release shows the READY back buffer or the front frame again, and that frame's
packets are handed over (R136, R168). -/
theorem State.holdReleased_of_idle (hm : (s.stream st).params.mode = .paced) (h : s.presentingNow st = false) :
    let x := s.stream st
    let y := (s.holdReleased st).stream st
    let out := x.params.output.port
    let shown := if x.backState = .ready ∧ x.regrading = false then x.back else x.front
    y.origin = some s.supply.timeBase ∧ y.tick = 0 ∧ y.front = shown ∧
      (x.backState = .ready → x.regrading = false → y.back = x.front ∧ y.backState = .idle) ∧
      (x.regrading = true → y.backState = .idle) ∧
      ∀ f, shown = some f → s.isUp out = true →
        ((s.holdReleased st).port out).queueOf (.raster st) ++ y.presenting = f.packets st x.params := by
  intro x y out shown
  obtain ⟨c, hc⟩ := s.holdReleased_stream st
  obtain ⟨fr, b, lf, lm, hy⟩ := s.settledHold_stream st
  rw [Stream.cut_paced hm] at hy
  have hmode : ((s.settledHold st).stream st).params.mode = .paced := by rw [hy]; exact hm
  have hnow : (s.settledHold st).now = s.now := State.now_of_elsewhere (s.settledHold_elsewhere st)
  have hpaced := State.paced_of_idle hmode ((State.settledHold_presentingNow hm).trans h)
  rw [hnow] at hpaced
  generalize hv : (s.settledHold st).modStream st _ = v at hpaced
  have hwait : v.rasterWaiting st = false := by
    have hs : (s.settledHold st).presentingNow st = false := (State.settledHold_presentingNow hm).trans h
    have hw : (s.settledHold st).rasterWaiting st = false := by
      simp only [State.presentingNow, Bool.or_eq_false_iff] at hs
      exact hs.2
    rw [← hv, State.rasterWaiting_modStream (by split <;> rfl), hw]
  have hvs : v.stream st = if ((s.settledHold st).stream st).backState = .ready then
        { (s.settledHold st).stream st with
          origin := some s.now
          tick := 0
          front := ((s.settledHold st).stream st).back
          back := ((s.settledHold st).stream st).front
          backState := .idle }
      else { (s.settledHold st).stream st with origin := some s.now, tick := 0 } := by
    rw [← hv, State.stream_modStream]
  have hready : ((s.settledHold st).stream st).backState = .ready ↔ x.backState = .ready ∧ x.regrading = false := by
    rw [hy]
    cases hr : x.regrading <;> simp [x, hr]
  have hvp : (v.stream st).params = x.params := by
    rw [hvs]
    split
    · rw [hy]
    · rw [hy]
  have hvf : (v.stream st).front = shown := by
    rw [hvs]
    simp only [hready, shown]
    split
    · rw [hy]
    · rw [hy]
  obtain ⟨l, hl⟩ := v.present_stream st
  rw [hpaced, hl] at hc
  have hyfields : y = _ := hc
  refine ⟨?_, ?_, ?_, fun hback hoff => ?_, fun hon => ?_, fun f hf hup => ?_⟩
  · rw [hyfields, hvs]
    split <;> rfl
  · rw [hyfields, hvs]
    split <;> rfl
  · rw [hyfields]
    exact hvf
  · rw [hyfields, hvs, if_pos (hready.mpr ⟨hback, hoff⟩), hy]
    exact ⟨rfl, rfl⟩
  · have hnot : ¬ ((s.settledHold st).stream st).backState = .ready := fun e => by
      have := (hready.mp e).2
      rw [hon] at this
      exact nomatch this
    rw [hyfields, hvs, if_neg hnot, hy]
    exact if_pos hon
  · have hvup : v.isUp (v.stream st).params.output.port = true := by
      rw [hvp, ← hv]
      have hlink := s.settledHold_link st
      simpa [State.isUp, State.port, hlink] using hup
    have hqueue := State.present_queue hwait hvup (hvf.trans hf)
    rw [hvp, hl] at hqueue
    rw [hyfields, PortState.queueOf, s.holdReleased_queues st, hpaced]
    exact hqueue

end

section
variable {s : State} {st : StreamId}

/-- Of a STREAMING stream, a release frees the buffer of the last taken packet if that packet's own outgoing packet is gone
(R7, R132, R168; log entry 20). -/
theorem State.holdReleased_of_streaming (hm : (s.stream st).params.mode = .streaming) :
    let x := s.stream st
    let y := (s.holdReleased st).stream st
    (x.inHand = none → y.inHand = none ∧ (s.holdReleased st).link = s.link) ∧
      ∀ b, x.inHand = some b →
        (b.outputGone = false → s.rasterWaiting st = true → y.inHand = some b ∧ (s.holdReleased st).link = s.link) ∧
        (b.outputGone = true ∨ s.rasterWaiting st = false → y.inHand = none ∧
          (s.holdReleased st).link =
            if x.params.decoder.port = b.port ∧ (s.port b.port).link = .up then
              (s.modPort b.port (·.grant (.raster st))).link
            else s.link) := by
  intro x y
  obtain ⟨fr, hp, lf, lm, hy⟩ := s.settledHold_stream st
  obtain ⟨la, bs, pr, hcut, -⟩ := (s.stream st).cut_eq
  rw [hcut] at hy
  have hmode : ((s.settledHold st).stream st).params.mode = .streaming := by rw [hy]; exact hm
  have hlink := s.settledHold_link st
  obtain ⟨v, hreleased, hvlink, hvs⟩ : ∃ v : State, s.holdReleased st = v.releaseInHand st ∧ v.link = s.link ∧
      (v.stream st).inHand = x.inHand ∧ (v.stream st).state = .running ∧ (v.stream st).params = x.params := by
    refine ⟨(s.settledHold st).modStream st fun z =>
      { z.markWaiting with
        stallTimer := some (s.supply.timeBase + BitVec.ofNat 64 (z.params.stallMs * 1000))
        stallSilent := true
        state := .running
        holdPending := false
        heldFrame := none }, by rw [State.holdReleased, State.paced_of_streaming _ _ hmode], hlink, ?_⟩
    rw [State.stream_modStream, hy]
    exact ⟨rfl, rfl, rfl⟩
  obtain ⟨hhand, hstate, hparams⟩ := hvs
  have hport (q : Port) : v.port q = s.port q := congrArg (fun l : LinkUnit => l.ports[q.val]) hvlink
  have hwait : v.rasterWaiting st = s.rasterWaiting st := by
    simp only [State.rasterWaiting, hparams, hport]
    rfl
  have hyr : y = (v.releaseInHand st).stream st := congrArg (State.stream · st) hreleased
  have hlr : (s.holdReleased st).link = (v.releaseInHand st).link := congrArg State.link hreleased
  rw [hlr, hyr]
  refine ⟨fun hnone => ?_, fun b hb => ⟨fun hgone hwaits => ?_, fun hgone => ?_⟩⟩
  · have : v.releaseInHand st = v := by simp only [State.releaseInHand, hhand, hnone]
    rw [this, hhand, hnone]
    exact ⟨rfl, hvlink⟩
  · have : v.releaseInHand st = v := by
      simp only [State.releaseInHand, hhand, hb, hgone, hwait, hwaits, Bool.not_false, Bool.and_self, if_true]
    rw [this, hhand, hb]
    exact ⟨rfl, hvlink⟩
  · have hfree : (!b.outputGone && v.rasterWaiting st) = false := by
      rw [hwait]
      rcases hgone with h | h <;> simp [h]
    have hrel : v.releaseInHand st = (v.modStream st fun z => { z with inHand := none }).freeRaster st b.port := by
      simp only [State.releaseInHand, hhand, hb, hfree, hstate, Bool.false_eq_true, reduceCtorEq, if_false]
    rw [hrel, State.freeRaster_eq, State.stream_modStream, hstate]
    have hcond : (StreamState.running ≠ .closed ∧ (v.stream st).params.decoder.port = b.port ∧
        ((v.modStream st fun z => { z with inHand := none }).port b.port).link = .up) ↔
        x.params.decoder.port = b.port ∧ (s.port b.port).link = .up := by
      rw [hparams, ← hport b.port]
      exact and_iff_right (by decide)
    simp only [hcond]
    split
    · rw [State.stream_modPort, State.stream_modStream]
      refine ⟨rfl, ?_⟩
      simp only [State.modPort, State.modStream_link, hvlink]
      rw [← hport b.port]
      rfl
    · rw [State.stream_modStream]
      exact ⟨rfl, hvlink⟩

end

/-- The stream of a release, but for the pacing, the buffers and the packets in them. -/
theorem State.holdReleased_fields (s : State) (st : StreamId) :
    let x := s.stream st
    let y := (s.holdReleased st).stream st
    y.state = .running ∧ y.params = x.params ∧ y.holdPending = false ∧ y.heldFrame = none ∧ y.regrading = false ∧
      y.queue = x.queue.map (fun pk => { pk with waitedRelease := true }) ∧
      (x.regrading = true → y.latch = none ∧ y.regradeAgain = false) ∧ y.finaliseWaiting = false ∧
      y.currentClip = (if x.finaliseWaiting then none else x.currentClip) ∧ y.run = x.run ∧ y.stallSilent = true ∧
      y.stallTimer = some (s.supply.timeBase + BitVec.ofNat 64 (x.params.stallMs * 1000)) := by
  intro x y
  obtain ⟨c, hc⟩ := s.holdReleased_stream st
  obtain ⟨o, k, n, f, bs, g, l, hz⟩ := (s.settledHold st).paced_stream st
  obtain ⟨fr, hp, lf, lm, hy⟩ := s.settledHold_stream st
  obtain ⟨la, bs', pr, hcut, hoff⟩ := (s.stream st).cut_eq
  rw [hz, hy, hcut] at hc
  rw [show y = _ from hc]
  exact ⟨rfl, rfl, rfl, rfl, rfl, rfl, fun hon => ⟨(hoff hon).1, if_pos hon⟩, rfl, rfl, rfl, rfl, rfl⟩

/-- A STREAMING stream's regrade that a release cuts sends no more packets (R167). -/
theorem State.holdReleased_presenting {s : State} {st : StreamId} (hm : (s.stream st).params.mode = .streaming)
    (hon : (s.stream st).regrading = true) : ((s.holdReleased st).stream st).presenting = [] := by
  obtain ⟨c, hc⟩ := s.holdReleased_stream st
  obtain ⟨fr, hp, lf, lm, hy⟩ := s.settledHold_stream st
  obtain ⟨la, bs', pr, hcut, hoff⟩ := (s.stream st).cut_eq
  rw [hcut] at hy
  have hmode : ((s.settledHold st).stream st).params.mode = .streaming := by rw [hy]; exact hm
  rw [State.paced_of_streaming _ _ hmode, hy] at hc
  rw [hc]
  exact (hoff hon).2 hm

theorem StreamId.raster_index (st : StreamId) : (PacketClass.raster st).index = if st = 0 then 2 else 3 := by
  revert st; decide

/-- Settles O50: the three hold requests, and the release of a HELD stream. -/
theorem holdRequests : Obligations.HoldRequests := by
  refine ⟨fun s p r h => ⟨fun hn => ?_, fun hn => ?_, fun hn => ?_⟩, fun s st hheld => ?_,
    fun s st n => ⟨rfl, rfl, fun hrun => exec_whenRunning (f := fun s => s.takeRaster st) rfl hrun⟩⟩
  · rw [exec_serve_taking (rule := State.holdSet) rfl h hn]
    refine congrArg Host.Outcome.next ?_
    split
    case h_1 pt st ty c1 c0 f3 f2 f1 f0 k one hargs =>
      rw [hargs, ← FaultKind.ofStreamCode_eq]
      have hcond := HoldArgs.cond_bytes pt st ty c1 c0 f3 f2 f1 f0 k one
      by_cases hrange : pt.toNat < 4 ∧ st.toNat < 2 ∧ one.toNat ≤ 1
      · rw [dif_pos hrange]
        split
        case h_1 hnone => rw [State.holdSet_of_no_condition rfl (hcond.trans hnone)]; rfl
        case h_2 c hsome =>
          rw [State.holdSet_of_some rfl hrange (hcond.trans hsome)]
          have hone : decide (one.toNat = 1) = decide (one = 1) := by
            rw [decide_eq_decide, ← BitVec.toNat_inj]
            rfl
          simp only [hone]
          rfl
      · rw [dif_neg hrange, State.holdSet_of_range rfl hrange]
        rfl
    case h_2 hargs =>
      have hnone : parseHold r.args = none := by
        unfold parseHold
        split
        · next heq => exact absurd heq (hargs _ _ _ _ _ _ _ _ _ _ _)
        · rfl
      rw [State.holdSet, hnone]
      rfl
  · rw [exec_serve_taking (rule := State.holdClear) rfl h hn]
    refine congrArg Host.Outcome.next ?_
    split
    case h_1 pt hargs =>
      rw [hargs, State.holdClear, parseOne, withArgs_some]
      by_cases hpt : pt.toNat < 4
      · rw [dif_pos hpt, pointOf_of_lt hpt]
        simp only [Option.isNone_iff_eq_none, State.answer_ite, State.answer_refuse, State.answer_done]
        rfl
      · rw [dif_neg hpt, pointOf_of_not_lt hpt]
        rfl
    case h_2 hargs =>
      rw [State.holdClear, parseOne_eq_none hargs]
      rfl
  · rw [exec_serve_taking (rule := State.holdRelease) rfl h hn]
    refine congrArg Host.Outcome.next ?_
    split
    case h_1 a hargs =>
      rw [hargs, State.holdRelease, parseOne, withArgs_some]
      by_cases ha : a.toNat < 2
      · rw [dif_pos ha, State.onStream_of_lt _ ha]
        simp only [StreamState.takes_eq, Bool.and_eq_true, Bool.or_eq_true, beq_iff_eq, State.answer_ite,
          State.answer_refuse, State.answer_done]
        rfl
      · rw [dif_neg ha, State.onStream_of_not_lt _ ha]
        rfl
    case h_2 hargs =>
      rw [State.holdRelease, parseOne_eq_none hargs]
      rfl
  · intro x out idle
    obtain ⟨hstate, hparams, hpending, hframe, hregrading, hqueue, hcut, hfinal, hclip, hrun, hsilent, htimer⟩ :=
      s.holdReleased_fields st
    have hidle : idle ↔ s.presentingNow st = false := by
      rw [Bool.eq_false_iff, Ne, State.presentingNow_iff]
      simp only [idle, not_or, not_not]
      exact Iff.rfl
    have hwaits : s.rasterWaiting st = true ↔ (s.port out).queueOf (.raster st) ≠ [] := by
      simp [State.rasterWaiting, out, x]
    refine ⟨s.holdReleased st, ?_, hstate, hparams, hpending, hframe, hregrading, hqueue,
      fun hon => ⟨(hcut hon).1, (hcut hon).2, fun hm => ?_, fun hm => State.holdReleased_presenting hm hon⟩, hfinal,
      fun hf => hclip.trans (if_pos hf), fun hf => ⟨hclip.trans (if_neg (Bool.eq_false_iff.mp hf)), ?_⟩,
      fun k c hf hk hc => ?_, fun hm => ?_, fun hm => ?_, hrun, hsilent, htimer,
      fun z hz => (State.other_of_elsewhere (s.holdReleased_elsewhere st) hz).1⟩
    · rw [State.releaseHold_eq, hqueue, List.length_map]
    · cases hp : s.presentingNow st with
      | true => exact (State.holdReleased_of_presenting hm hp).2.2.2.2.trans (if_pos hon)
      | false =>
        obtain ⟨-, -, -, -, hback, -⟩ := State.holdReleased_of_idle hm hp
        exact hback hon
    · rw [State.holdReleased_table, s.settledHold_table st hf]
    · have hrecord : (s.holdReleased st).clip? k = (s.settledHold st).clip? k := by
        simp only [State.clip?, State.holdReleased_table]
      rw [hrecord, s.settledHold_clip? st hf, if_pos hk, hc, Option.map_some, ClipRecord.finalised_eq]
      exact ⟨_, rfl, rfl, rfl⟩
    · cases hp : s.presentingNow st with
      | true =>
        obtain ⟨horigin, htick, hover, hfront, -⟩ := State.holdReleased_of_presenting hm hp
        have hbusy : ¬ idle := fun hi => by
          rw [hidle, hp] at hi
          exact nomatch hi
        exact ⟨horigin, htick, fun _ => ⟨hover, hfront⟩, fun hi => absurd hi hbusy⟩
      | false =>
        obtain ⟨horigin, htick, hfront, hback, -, hpackets⟩ := State.holdReleased_of_idle hm hp
        exact ⟨horigin, htick, fun hbusy => absurd (hidle.mpr hp) hbusy, fun _ => ⟨hfront, hback, hpackets⟩⟩
    · obtain ⟨hnone, hsome⟩ := State.holdReleased_of_streaming hm
      intro waits
      refine ⟨hnone, fun b hb => ⟨fun hgone hw => (hsome b hb).1 hgone (hwaits.mpr hw), fun hgone => ?_⟩⟩
      have hfree : b.outputGone = true ∨ s.rasterWaiting st = false := by
        refine hgone.imp_right fun hw => ?_
        rw [← Bool.not_eq_true, hwaits]
        exact hw
      obtain ⟨hhand, hlink⟩ := (hsome b hb).2 hfree
      refine ⟨hhand, fun hno => ?_, fun hdecoder hup => ?_⟩
      · rw [hlink, if_neg]
        rintro ⟨h1, h2⟩
        exact hno.elim (fun h => h h1) fun h => h h2
      · intro k
        rw [hlink, if_pos ⟨hdecoder, hup⟩]
        have hk : (PacketClass.raster st).index = k := StreamId.raster_index st
        simp only [PortState.grant, hk]

end Sys2Proof.Machine
end

section
/-!
The lines of a packet of the frame in progress (R129, R132, R135, R146, R147).
-/

namespace Sys2Proof.Machine

/-! ### Clip records that filings alone change (R34, R35) -/

/-- From `s` to `t` each clip record keeps all but its fault counts and its QC state. -/
def State.OnlyCounts (s t : State) : Prop :=
  ∀ m c, s.clip? m = some c → ∃ a b d q, t.clip? m =
    some { c with copyFaults := a, pictureFaults := b, timingFaults := d, qc := q }

theorem State.OnlyCounts.of_table {s t : State} (h : t.table = s.table) : s.OnlyCounts t := by
  intro m c hc
  refine ⟨c.copyFaults, c.pictureFaults, c.timingFaults, c.qc, ?_⟩
  have : t.clip? m = s.clip? m := by simp only [State.clip?, h]
  rw [this, hc]

theorem State.OnlyCounts.trans {s t u : State} (h : s.OnlyCounts t) (k : t.OnlyCounts u) : s.OnlyCounts u := by
  intro m c hc
  obtain ⟨a, b, d, q, ht⟩ := h m c hc
  obtain ⟨a', b', d', q', hu⟩ := k m _ ht
  exact ⟨a', b', d', q', hu⟩

theorem ClipRecord.countFault_aside (c : ClipRecord) (x : FaultClass) : ∃ a b d q, c.countFault x =
    { c with copyFaults := a, pictureFaults := b, timingFaults := d, qc := q } := ⟨_, _, _, _, c.countFault_eq x⟩

theorem State.onlyCounts_file (s : State) (f : Filing) : s.OnlyCounts (s.file f) := by
  intro m c hc
  rw [State.file_clip?, hc]
  split
  · obtain ⟨a, b, d, q, h⟩ := c.countFault_aside f.kind.faultClass
    exact ⟨a, b, d, q, by rw [Option.map_some, h]⟩
  · exact ⟨_, _, _, _, rfl⟩

/-! ### The entries that the spotter's scan adds (R151, R152) -/

/-- From `s` to `t` the log gains none but entries of the hot-pixel scan. -/
def State.AddsHot (s t : State) : Prop :=
  ∃ hot : List FaultEntry, t.spotter.log = s.spotter.log ++ hot ∧
    ∀ e ∈ hot, e.kind = .hotPixel ∨ e.kind = .hotScanSaturated

theorem State.AddsHot.of_log {s t : State} (h : t.spotter.log = s.spotter.log) : s.AddsHot t :=
  ⟨[], by rw [h, List.append_nil], by simp⟩

theorem State.AddsHot.trans {s t u : State} (h : s.AddsHot t) (k : t.AddsHot u) : s.AddsHot u := by
  obtain ⟨es, ht, hes⟩ := h
  obtain ⟨fs, hu, hfs⟩ := k
  refine ⟨es ++ fs, by rw [hu, ht, List.append_assoc], fun e he => ?_⟩
  exact (List.mem_append.mp he).elim (hes e) (hfs e)

theorem State.addsHot_file (s : State) {f : Filing} (h : f.kind = .hotPixel ∨ f.kind = .hotScanSaturated) :
    s.AddsHot (s.file f) := by
  unfold State.AddsHot
  rw [State.file_log, FaultSpotter.filed]
  split
  · refine ⟨[f.entry s.now], rfl, fun e he => ?_⟩
    rw [List.mem_singleton.mp he]
    exact h
  · exact ⟨[], (List.append_nil _).symm, by simp⟩

/-! ### What the spotter's scan of a line changes (R146 to R152) -/

/-- A stream's frame in progress after filings: the same one, damaged or not. -/
def FrameKept (old new : Option FrameInProgress) : Prop :=
  ∀ f, old = some f → ∃ d, new = some { f with damaged := d } ∧ (f.damaged = true → d = true)

theorem FrameKept.refl (x : Option FrameInProgress) : FrameKept x x := fun f h => ⟨f.damaged, h, id⟩

theorem FrameKept.trans {x y z : Option FrameInProgress} (h : FrameKept x y) (k : FrameKept y z) : FrameKept x z := by
  intro f hf
  obtain ⟨d, hy, hd⟩ := h f hf
  obtain ⟨e, hz, he⟩ := k _ hy
  exact ⟨e, hz, fun hdam => he (hd hdam)⟩

theorem State.file_frameKept (s : State) {st : StreamId} {g : Filing} (h : g.stream = some st) :
    FrameKept (s.stream st).frame ((s.file g).stream st).frame := by
  intro f hf
  rw [State.file_frame s h, hf, Option.map_some]
  split
  · exact ⟨true, rfl, fun _ => rfl⟩
  · exact ⟨f.damaged, rfl, id⟩

/-- The measures but for the scan's own count and mark, which the measures of the taps do not use. -/
def Measures.aside (m : Measures) : Measures := { m with detections := 0, saturated := false }

/-- What the spotter's scan leaves of a state: everything but the stream's frame mark, hold-pending mark, candidates and
detection count, the log, the hold points and the counts of clips. -/
structure State.Scanned (st : StreamId) (s t : State) : Prop where
  elsewhere : t.elsewhere st = s.elsewhere st
  link : t.link = s.link
  aside : (t.stream st).aside = (s.stream st).aside
  frame : FrameKept (s.stream st).frame (t.stream st).frame
  counts : s.OnlyCounts t
  config : (t.spot st).config = (s.spot st).config
  log : s.AddsHot t

theorem State.Scanned.refl (st : StreamId) (s : State) : State.Scanned st s s :=
  ⟨rfl, rfl, rfl, .refl _, .of_table rfl, rfl, .of_log rfl⟩

theorem State.Scanned.trans {st : StreamId} {s t u : State} (h : State.Scanned st s t) (k : State.Scanned st t u) :
    State.Scanned st s u :=
  ⟨k.elsewhere.trans h.elsewhere, k.link.trans h.link, k.aside.trans h.aside, h.frame.trans k.frame,
    h.counts.trans k.counts, k.config.trans h.config, h.log.trans k.log⟩

theorem State.scanned_modSpot (s : State) (st : StreamId) {f : SpotterStream → SpotterStream}
    (h : (f (s.spot st)).config = (s.spot st).config) : State.Scanned st s (s.modSpot st f) :=
  ⟨State.modSpot_elsewhere .., rfl, rfl, .refl _, .of_table rfl, by rw [State.spot_modSpot, h], .of_log rfl⟩

theorem State.scanned_file (s : State) (st : StreamId) {f : Filing} (h : f.stream = some st)
    (hk : f.kind = .hotPixel ∨ f.kind = .hotScanSaturated) : State.Scanned st s (s.file f) :=
  ⟨State.file_elsewhere _ _ h, State.file_link .., State.file_aside _ _ h, State.file_frameKept _ h,
    s.onlyCounts_file f, by rw [State.file_spot], s.addsHot_file hk⟩

section
variable (s : State) (st : StreamId) (clip : Nat) (frame : Word32)

theorem State.takeDetection_scanned (line column mask : Nat) :
    State.Scanned st s (s.takeDetection st clip frame line column mask) := by
  refine State.takeDetection_cases (motive := State.Scanned st s) _ _ _ _ _ _ _ (.refl st s) ?_ ?_ ?_
  · exact (s.scanned_modSpot st rfl).trans (State.scanned_file _ _ rfl (Or.inr rfl))
  · exact s.scanned_modSpot st rfl
  · exact ((s.scanned_modSpot st rfl).trans (State.scanned_file _ _ rfl (Or.inl rfl))).trans (State.scanned_modSpot _ st rfl)

theorem State.takeDetection_measures (line column mask : Nat) :
    ((s.takeDetection st clip frame line column mask).spot st).measures.aside = (s.spot st).measures.aside := by
  refine State.takeDetection_cases
    (motive := fun t => (t.spot st).measures.aside = (s.spot st).measures.aside) _ _ _ _ _ _ _ rfl ?_ ?_ ?_
  · rw [State.file_spot, State.spot_modSpot]
    rfl
  · rw [State.spot_modSpot]
    rfl
  · rw [State.spot_modSpot, State.file_spot, State.spot_modSpot]
    rfl

/-- The measures of a line, the scan's own count aside (R146, R147). -/
theorem State.spotLine_measures (line : Nat) (tapA tapB : List Rgb) :
    ((s.spotLine st clip frame line tapA tapB).spot st).measures.aside =
      ((s.spot st).measures.aside).addLine (s.spot st).config tapA tapB := by
  have hfold (l : List (Nat × Nat)) (t : State) :
      ((l.foldl (fun s cm => s.takeDetection st clip frame line cm.1 cm.2) t).spot st).measures.aside =
        (t.spot st).measures.aside := by
    induction l generalizing t with
    | nil => rfl
    | cons cm l ih => rw [List.foldl_cons, ih, State.takeDetection_measures]
  refine (hfold _ _).trans ?_
  rw [State.spot_modSpot]
  rfl

theorem State.spotLine_scanned (line : Nat) (tapA tapB : List Rgb) :
    State.Scanned st s (s.spotLine st clip frame line tapA tapB) := by
  have hfold (l : List (Nat × Nat)) (t : State) (h : State.Scanned st s t) :
      State.Scanned st s (l.foldl (fun s cm => s.takeDetection st clip frame line cm.1 cm.2) t) := by
    induction l generalizing t with
    | nil => exact h
    | cons cm l ih => exact ih _ (h.trans (t.takeDetection_scanned st clip frame line cm.1 cm.2))
  exact hfold _ _ (s.scanned_modSpot st rfl)

/-- With a hot threshold of 0 nothing is detected, and no frame is damaged (R149). -/
theorem State.spotLine_frame_of_zero (h : (s.spot st).config.hotThreshold = 0) (line : Nat) (tapA tapB : List Rgb) :
    ((s.spotLine st clip frame line tapA tapB).stream st).frame = (s.stream st).frame := by
  simp only [State.spotLine, detections, h, if_true, List.foldl_nil]
  rfl

end

/-! ### A packet's lines before the spotter (R146, R147) -/

/-- The state when the spotter has taken lines, each with its number and its graded copy (R145). -/
def State.spotLines (s : State) (st : StreamId) (clip : Nat) (frame : Word32) (l : List ((Nat × List Rgb) × List Rgb)) :
    State := l.foldl (fun s ng => s.spotLine st clip frame ng.1.1 ng.1.2 ng.2) s

section
variable (s : State) (st : StreamId) (clip : Nat) (frame : Word32) (l : List ((Nat × List Rgb) × List Rgb))

theorem State.spotLines_scanned : State.Scanned st s (s.spotLines st clip frame l) := by
  induction l generalizing s with
  | nil => exact .refl st s
  | cons ng l ih => exact (s.spotLine_scanned st clip frame ng.1.1 ng.1.2 ng.2).trans (ih _)

theorem State.spotLines_frame_of_zero (h : (s.spot st).config.hotThreshold = 0) :
    ((s.spotLines st clip frame l).stream st).frame = (s.stream st).frame := by
  induction l generalizing s with
  | nil => rfl
  | cons ng l ih =>
    have hconfig := (s.spotLine_scanned st clip frame ng.1.1 ng.1.2 ng.2).config
    exact (ih _ (by rw [hconfig, h])).trans (s.spotLine_frame_of_zero st clip frame h ng.1.1 ng.1.2 ng.2)

theorem State.spotLines_measures : ((s.spotLines st clip frame l).spot st).measures.aside =
    l.foldl (fun m ng => m.addLine (s.spot st).config ng.1.2 ng.2) (s.spot st).measures.aside := by
  induction l generalizing s with
  | nil => rfl
  | cons ng l ih =>
    rw [State.spotLines, List.foldl_cons, List.foldl_cons]
    refine (ih _).trans ?_
    rw [(s.spotLine_scanned st clip frame ng.1.1 ng.1.2 ng.2).config, State.spotLine_measures]

end

/-- The measures of several lines: sums over the lines (R146, R147). -/
theorem foldl_addLine (c : QcConfig) (l : List ((Nat × List Rgb) × List Rgb)) (m : Measures) :
    let n := l.foldl (fun m ng => m.addLine c ng.1.2 ng.2) m
    let count (f : Rgb → Nat) : Nat :=
      ((l.map fun ng => c.clipTap.choose ng.1.2 ng.2).map fun q => (q.filter fun x => c.clipLevel ≤ f x).length).sum
    n.clipped = ⟨m.clipped.r + count (·.r), m.clipped.g + count (·.g), m.clipped.b + count (·.b)⟩ ∧
      n.lumaSum = m.lumaSum + ((l.map fun ng => c.blackTap.choose ng.1.2 ng.2).map fun q => (q.map luma).sum).sum ∧
      n.unjudged = m.unjudged := by
  induction l generalizing m with
  | nil => exact ⟨rfl, rfl, rfl⟩
  | cons ng l ih =>
    obtain ⟨hclip, hluma, hun⟩ := ih (m.addLine c ng.1.2 ng.2)
    simp only [List.foldl_cons, List.map_cons, List.sum_cons]
    refine ⟨hclip.trans ?_, hluma.trans ?_, hun⟩
    · simp only [Measures.addLine, Nat.add_assoc]
    · simp only [Measures.addLine, Nat.add_assoc]

/-- The lines at a tap: those received, or their graded copies (R125). -/
theorem map_choose_zip (k : Tap) (first : Nat) (lines : List (List Rgb)) (g : Nat × List Rgb → List Rgb) :
    let numbered := lines.zipIdx.map fun li => (first + li.2, li.1)
    ((numbered.zip (numbered.map g)).map fun ng => k.choose ng.1.2 ng.2) =
      if k = .a then lines else numbered.map g := by
  intro numbered
  rw [← List.map_prod_left_eq_zip, List.map_map]
  cases k with
  | a =>
    rw [if_pos rfl]
    refine Eq.trans ?_ (List.zipIdx_map_fst 0 lines)
    simp only [numbered, List.map_map]
    rfl
  | b =>
    rw [if_neg (by decide)]
    rfl

/-! ### Missing lines before a packet's (R132) -/

/-- The state of a packet that fits when the lines missing before it are noted (R132). -/
def State.filled (s : State) (st : StreamId) (pk : RasterPacket) (f : FrameInProgress) : State :=
  if f.next < pk.firstLine then (s.noteGap st f f.next).modStream st (·.fillBack pk.firstLine) else s

theorem Stream.fillBack_eq (x : Stream) (n : Nat) : x.fillBack n =
    { x with back :=
        if x.params.mode = .paced then x.back.map fun g => g.fillTo x.params.encoding x.params.width n else x.back } := by
  cases h : x.params.mode <;> simp [Stream.fillBack, h]

section
variable {s : State} {st : StreamId} {f : FrameInProgress}

/-- A filing of the frame in progress's clip and number, which the processed frame is named by (R131). -/
theorem FrameInProgress.named_frameFiling (hr : f.refused = false) (k : FaultKind) (d : Nat) :
    f.named (frameFiling st k f.clip f.number d) = true := by
  simp [FrameInProgress.named, frameFiling, hr]

/-- A filing that names the processed frame in progress damages it, and of its stream changes the hold-pending mark besides. -/
theorem State.file_frame_named (hf : (s.stream st).frame = some f) (hr : f.refused = false) (k : FaultKind) (d : Nat) :
    ∃ b, (s.file (frameFiling st k f.clip f.number d)).stream st =
      { s.stream st with frame := some { f with damaged := true }, holdPending := b } := by
  have hframe : ((s.file (frameFiling st k f.clip f.number d)).stream st).frame = some { f with damaged := true } := by
    rw [State.file_frame s rfl, hf, Option.map_some, if_pos (FrameInProgress.named_frameFiling hr k d)]
  have haside := Stream.eq_of_aside (s.file_frameFiling_aside st k f.clip f.number d)
  exact ⟨_, haside.trans (by rw [hframe])⟩

/-- The gap mark and LINE_GAP, once for the frame (R132, R133). -/
theorem State.noteGap_stream (hf : (s.stream st).frame = some f) (hr : f.refused = false) (n : Nat) :
    ∃ b, (s.noteGap st f n).stream st =
      { s.stream st with frame := some { f with gap := true, damaged := f.damaged || !f.gap }, holdPending := b } := by
  unfold State.noteGap
  split
  · next hg =>
    refine ⟨(s.stream st).holdPending, ?_⟩
    rw [hg, Bool.not_true, Bool.or_false, ← hg, ← hf]
  · next hg =>
    have hoff : f.gap = false := by simpa using hg
    obtain ⟨b, hb⟩ := State.file_frame_named hf hr .lineGap n
    refine ⟨b, ?_⟩
    rw [State.modFrame, State.stream_modStream, hb, hoff, Bool.not_false, Bool.or_true]
    rfl

theorem State.noteGap_elsewhere (n : Nat) : (s.noteGap st f n).elsewhere st = s.elsewhere st := by
  unfold State.noteGap
  split
  · rfl
  · rw [State.modFrame_elsewhere, State.file_frameFiling_elsewhere]

theorem State.noteGap_link (n : Nat) : (s.noteGap st f n).link = s.link := by
  unfold State.noteGap
  split
  · rfl
  · exact State.file_link ..

theorem State.noteGap_spot (n : Nat) : (s.noteGap st f n).spot st = s.spot st := by
  unfold State.noteGap
  split
  · rfl
  · exact State.file_spot ..

theorem State.noteGap_counts (n : Nat) : s.OnlyCounts (s.noteGap st f n) := by
  unfold State.noteGap
  split
  · exact .of_table rfl
  · exact (s.onlyCounts_file _).trans (.of_table rfl)

theorem State.noteGap_adds (n : Nat) :
    State.Adds 1 (if f.gap then [] else [(frameFiling st .lineGap f.clip f.number n).entry s.now]) s (s.noteGap st f n) := by
  unfold State.noteGap
  split
  · exact ⟨rfl, Nat.zero_le 1, fun _ => (List.append_nil _).symm⟩
  · exact (s.adds_file _).quiet rfl rfl

variable {pk : RasterPacket}

theorem State.filled_stream (hf : (s.stream st).frame = some f) (hr : f.refused = false) : ∃ b,
    (s.filled st pk f).stream st =
      { s.stream st with
        frame := some { f with
          gap := f.gap || decide (f.next < pk.firstLine)
          damaged := f.damaged || (decide (f.next < pk.firstLine) && !f.gap) }
        holdPending := b
        back :=
          if (s.stream st).params.mode = .paced ∧ f.next < pk.firstLine then
            (s.stream st).back.map fun g => g.fillTo (s.stream st).params.encoding (s.stream st).params.width pk.firstLine
          else (s.stream st).back } := by
  unfold State.filled
  by_cases hgap : f.next < pk.firstLine
  · obtain ⟨b, hb⟩ := State.noteGap_stream hf hr f.next
    refine ⟨b, ?_⟩
    rw [if_pos hgap, State.stream_modStream, Stream.fillBack_eq, hb]
    simp [hgap]
  · refine ⟨(s.stream st).holdPending, ?_⟩
    simp [hgap, ← hf]

theorem State.filled_elsewhere : (s.filled st pk f).elsewhere st = s.elsewhere st := by
  unfold State.filled
  split
  · rw [State.modStream_elsewhere, State.noteGap_elsewhere]
  · rfl

theorem State.filled_link : (s.filled st pk f).link = s.link := by
  unfold State.filled
  split
  · exact State.noteGap_link _
  · rfl

theorem State.filled_spot : (s.filled st pk f).spot st = s.spot st := by
  unfold State.filled
  split
  · exact State.noteGap_spot _
  · rfl

theorem State.filled_counts : s.OnlyCounts (s.filled st pk f) := by
  unfold State.filled
  split
  · exact (State.noteGap_counts _).trans (.of_table rfl)
  · exact .of_table rfl

theorem State.filled_adds : State.Adds 1
    (if decide (f.next < pk.firstLine) && !f.gap then [(frameFiling st .lineGap f.clip f.number f.next).entry s.now] else [])
    s (s.filled st pk f) := by
  unfold State.filled
  by_cases hgap : f.next < pk.firstLine
  · rw [if_pos hgap]
    have h := (State.noteGap_adds (s := s) (st := st) (f := f) f.next).quiet
      (u := (s.noteGap st f f.next).modStream st (·.fillBack pk.firstLine)) rfl rfl
    refine h.of_eq ?_
    cases hg : f.gap <;> simp [hgap]
  · rw [if_neg hgap]
    exact ⟨rfl, by simp [hgap], fun _ => by simp [hgap]⟩

end

/-! ### Lines graded and handed on (R115, R125, R132, R135) -/

/-- The graded copies of a packet's lines (R115). -/
def State.gradedOf (s : State) (st : StreamId) (pk : RasterPacket) : List (List Rgb) :=
  pk.numbered.map fun nl =>
    gradeLine (s.bankOf (s.stream st).graded) (s.stream st).params.encoding (s.stream st).concealment nl.1 nl.2

/-- The state when a packet's lines are in the source buffer and at the taps (R125, R132). -/
def State.tapped (s : State) (st : StreamId) (pk : RasterPacket) (f : FrameInProgress) : State :=
  ((s.modStream st fun z => { z with source := z.source ++ pk.numbered }).spotLines st f.clip f.number
    (pk.numbered.zip (s.gradedOf st pk))).modFrame st fun z => { z with next := pk.firstLine + pk.lines.length }

/-- The outgoing packet of a packet's lines in STREAMING mode (R135). -/
def linesPacket (st : StreamId) (p : StreamParams) (pk : RasterPacket) (f : FrameInProgress) (damaged : Bool)
    (graded : List (List Rgb)) : Packet :=
  outgoingRaster st p f.clip f.number pk.firstLine ⟨pk.frameStart, pk.frameEnd, pk.clipEnd, pk.frameEnd && damaged⟩ graded

section
variable {s : State} {st : StreamId} {pk : RasterPacket} {f : FrameInProgress}

theorem State.gradeLines_paced (hm : (s.stream st).params.mode = .paced) : s.gradeLines st pk f =
    ((s.tapped st pk f).modStream st fun z =>
      { z with back := z.back.map fun g => { g with lines := g.lines ++ s.gradedOf st pk } }).freeRaster st pk.port := by
  simp only [State.gradeLines, hm]
  rfl

theorem State.gradeLines_streaming (hm : (s.stream st).params.mode = .streaming) {z : FrameInProgress}
    (hz : ((s.tapped st pk f).stream st).frame = some z) : s.gradeLines st pk f =
    (((s.tapped st pk f).modStream st fun y => { y with inHand := some ⟨pk.port, false⟩ }).sendFrame st
      [linesPacket st (s.stream st).params pk f z.damaged (s.gradedOf st pk)]).releaseInHand st := by
  have hz' : (((State.modFrame (State.spotLines (s.modStream st fun z => { z with source := z.source ++ pk.numbered }) st
      f.clip f.number (pk.numbered.zip (s.gradedOf st pk))) st fun z =>
        { z with next := pk.firstLine + pk.lines.length }).stream st).frame) = some z := hz
  simp only [State.spotLines, State.gradedOf] at hz'
  simp only [State.gradeLines, hm, hz']
  rfl

/-- What the taps leave of a state, and the frame in progress (R132, R145). -/
theorem State.tapped_scanned :
    let u := s.modStream st fun z => { z with source := z.source ++ pk.numbered }
    State.Scanned st u (u.spotLines st f.clip f.number (pk.numbered.zip (s.gradedOf st pk))) := State.spotLines_scanned ..

theorem State.tapped_stream {g : FrameInProgress} (hg : (s.stream st).frame = some g) : ∃ d b,
    (s.tapped st pk f).stream st =
      { s.stream st with
        source := (s.stream st).source ++ pk.numbered
        frame := some { g with damaged := d, next := pk.firstLine + pk.lines.length }
        holdPending := b } ∧
    (g.damaged = true → d = true) ∧ ((s.spot st).config.hotThreshold = 0 → d = g.damaged) := by
  have h := State.tapped_scanned (s := s) (st := st) (pk := pk) (f := f)
  dsimp only at h
  have hu : (s.modStream st fun z => { z with source := z.source ++ pk.numbered }).stream st =
      { s.stream st with source := (s.stream st).source ++ pk.numbered } := State.stream_modStream ..
  obtain ⟨d, hframe, hd⟩ := h.frame g (by rw [hu]; exact hg)
  refine ⟨d, (((s.modStream st fun z => { z with source := z.source ++ pk.numbered }).spotLines st
      f.clip f.number (pk.numbered.zip (s.gradedOf st pk))).stream st).holdPending, ?_, hd, fun hzero => ?_⟩
  · have haside := Stream.eq_of_aside h.aside
    rw [hu] at haside
    rw [State.tapped, State.modFrame, State.stream_modStream, hframe, haside]
    rfl
  · have hsame := State.spotLines_frame_of_zero (s.modStream st fun z => { z with source := z.source ++ pk.numbered }) st
      f.clip f.number (pk.numbered.zip (s.gradedOf st pk)) hzero
    rw [hframe, hu] at hsame
    have := hsame.trans hg
    simp only [Option.some.injEq] at this
    exact congrArg FrameInProgress.damaged this

end

/-! ### A packet's lines (R132) -/

theorem RasterPacket.misfits_iff (pk : RasterPacket) (p : StreamParams) (f : FrameInProgress) :
    pk.misfits p f = true ↔
      pk.width ≠ p.width ∨ p.height < pk.firstLine + pk.lines.length ∨ pk.firstLine < f.next := by
  simp [RasterPacket.misfits, or_assoc]

/-- Geometry failed, before the raster buffer is freed (R132). -/
def State.geometryFailed (s : State) (st : StreamId) (pk : RasterPacket) (f : FrameInProgress) : State :=
  if f.geometry then s
  else (s.file (frameFiling st .geometry f.clip f.number (pk.firstLine + 65536 * pk.width))).modFrame st fun y =>
    { y with geometry := true }

section
variable {s : State} {st : StreamId} {pk : RasterPacket} {f : FrameInProgress}

theorem State.takeLines_misfit (hf : (s.stream st).frame = some f) (h : pk.misfits (s.stream st).params f = true) :
    s.takeLines st pk = (s.geometryFailed st pk f).freeRaster st pk.port := by
  simp only [State.takeLines, hf, h, if_true]
  rfl

theorem State.takeLines_fit (hf : (s.stream st).frame = some f) (h : pk.misfits (s.stream st).params f = false) :
    s.takeLines st pk = (s.filled st pk f).gradeLines st pk f := by
  simp only [State.takeLines, hf, h, Bool.false_eq_true, if_false]
  rfl

theorem State.geometryFailed_stream (hf : (s.stream st).frame = some f) (hr : f.refused = false) : ∃ b,
    (s.geometryFailed st pk f).stream st =
      { s.stream st with
        frame := some { f with geometry := true, damaged := f.damaged || !f.geometry }
        holdPending := b } := by
  unfold State.geometryFailed
  split
  · next hg =>
    refine ⟨(s.stream st).holdPending, ?_⟩
    rw [hg, Bool.not_true, Bool.or_false, ← hg, ← hf]
  · next hg =>
    have hoff : f.geometry = false := by simpa using hg
    obtain ⟨b, hb⟩ := State.file_frame_named hf hr .geometry (pk.firstLine + 65536 * pk.width)
    refine ⟨b, ?_⟩
    rw [State.modFrame, State.stream_modStream, hb, hoff, Bool.not_false, Bool.or_true]
    rfl

theorem State.geometryFailed_elsewhere : (s.geometryFailed st pk f).elsewhere st = s.elsewhere st := by
  unfold State.geometryFailed
  split
  · rfl
  · rw [State.modFrame_elsewhere, State.file_frameFiling_elsewhere]

theorem State.geometryFailed_link : (s.geometryFailed st pk f).link = s.link := by
  unfold State.geometryFailed
  split
  · rfl
  · exact State.file_link ..

theorem State.geometryFailed_streams : (s.geometryFailed st pk f).spotter.streams = s.spotter.streams := by
  unfold State.geometryFailed
  split
  · rfl
  · exact State.file_streams ..

theorem State.geometryFailed_counts : s.OnlyCounts (s.geometryFailed st pk f) := by
  unfold State.geometryFailed
  split
  · exact .of_table rfl
  · exact (s.onlyCounts_file _).trans (.of_table rfl)

theorem State.geometryFailed_adds : State.Adds 1
    (if f.geometry then []
      else [(frameFiling st .geometry f.clip f.number (pk.firstLine + 65536 * pk.width)).entry s.now])
    s (s.geometryFailed st pk f) := by
  unfold State.geometryFailed
  split
  · exact ⟨rfl, Nat.zero_le 1, fun _ => (List.append_nil _).symm⟩
  · exact (s.adds_file _).quiet rfl rfl

/-- The credit that a freed raster buffer returns depends on the ports and on the stream's state and endpoints (R7). -/
theorem State.freeRaster_link_congr {t : State} (hlink : t.link = s.link) (hstate : (t.stream st).state = (s.stream st).state)
    (hparams : (t.stream st).params = (s.stream st).params) (p : Port) :
    (t.freeRaster st p).link = (s.freeRaster st p).link := by
  have hport (q : Port) : t.port q = s.port q := congrArg (fun l : LinkUnit => l.ports[q.val]) hlink
  simp only [State.freeRaster_eq, hstate, hparams, hport]
  split
  · simp only [State.modPort, hlink, hport]
  · exact hlink

@[simp] theorem State.freeRaster_stream (p : Port) (su : StreamId) : (s.freeRaster st p).stream su = s.stream su := by
  simp [State.stream]

@[simp] theorem State.freeRaster_spot (p : Port) (su : StreamId) : (s.freeRaster st p).spot su = s.spot su := by
  simp [State.spot]

/-- The state of a packet that fits when its lines are graded and at the taps. -/
theorem State.fitted_stream (hf : (s.stream st).frame = some f) (hr : f.refused = false) : ∃ d b,
    ((s.filled st pk f).tapped st pk f).stream st =
      { s.stream st with
        source := (s.stream st).source ++ pk.numbered
        frame := some { f with
          gap := f.gap || decide (f.next < pk.firstLine)
          damaged := d
          next := pk.firstLine + pk.lines.length }
        holdPending := b
        back :=
          if (s.stream st).params.mode = .paced ∧ f.next < pk.firstLine then
            (s.stream st).back.map fun g => g.fillTo (s.stream st).params.encoding (s.stream st).params.width pk.firstLine
          else (s.stream st).back } ∧
    ((f.damaged || (decide (f.next < pk.firstLine) && !f.gap)) = true → d = true) ∧
    ((s.spot st).config.hotThreshold = 0 → d = (f.damaged || (decide (f.next < pk.firstLine) && !f.gap))) := by
  obtain ⟨b, hb⟩ := State.filled_stream (pk := pk) hf hr
  obtain ⟨d, b', htapped, hd, hzero⟩ := State.tapped_stream (s := s.filled st pk f) (st := st) (pk := pk) (f := f)
    (g := { f with
      gap := f.gap || decide (f.next < pk.firstLine)
      damaged := f.damaged || (decide (f.next < pk.firstLine) && !f.gap) }) (by rw [hb])
  refine ⟨d, b', ?_, hd, fun h => hzero (by rw [State.filled_spot]; exact h)⟩
  rw [htapped, hb]

theorem State.fitted_elsewhere : ((s.filled st pk f).tapped st pk f).elsewhere st = s.elsewhere st := by
  have h := State.tapped_scanned (s := s.filled st pk f) (st := st) (pk := pk) (f := f)
  dsimp only at h
  rw [State.tapped, State.modFrame_elsewhere, h.elsewhere, State.modStream_elsewhere, State.filled_elsewhere]

theorem State.fitted_link : ((s.filled st pk f).tapped st pk f).link = s.link := by
  have h := State.tapped_scanned (s := s.filled st pk f) (st := st) (pk := pk) (f := f)
  exact h.link.trans State.filled_link

theorem State.fitted_counts : s.OnlyCounts ((s.filled st pk f).tapped st pk f) := by
  have h := State.tapped_scanned (s := s.filled st pk f) (st := st) (pk := pk) (f := f)
  exact (State.filled_counts (pk := pk)).trans ((State.OnlyCounts.of_table rfl).trans (h.counts.trans (.of_table rfl)))

theorem State.filled_gradedOf (hf : (s.stream st).frame = some f) (hr : f.refused = false) :
    (s.filled st pk f).gradedOf st pk = s.gradedOf st pk := by
  obtain ⟨b, hb⟩ := State.filled_stream (pk := pk) hf hr
  have hlook : (s.filled st pk f).look = s.look := congrArg Elsewhere.look State.filled_elsewhere
  have hbank (r : Resolution) : (s.filled st pk f).bankOf r = s.bankOf r := by
    cases r with
    | bypass => rfl
    | bank k n => simp only [State.bankOf, State.slot, hlook]
  simp only [State.gradedOf, hb, hbank]

/-- The outgoing packet of lines that fit: it waits in the queue of an UP output port, and its raster buffer is kept until it
has gone (R135). -/
theorem State.lines_up {v : State} (hwait : v.rasterWaiting st = false)
    (hup : v.isUp (v.stream st).params.output.port = true) (p : Port) (pkt : Packet) :
    (((v.modStream st fun y => { y with inHand := some ⟨p, false⟩ }).sendFrame st [pkt]).releaseInHand st) =
      (v.modStream st fun y => { y with inHand := some ⟨p, false⟩, presenting := [] }).modPort (v.stream st).params.output.port
        (·.enqueue (.raster st) pkt) := by
  have hwait' : (v.modStream st fun y => { y with inHand := some ⟨p, false⟩ }).rasterWaiting st = false := by
    rw [State.rasterWaiting_modStream rfl, hwait]
  have hout : ((v.modStream st fun y => { y with inHand := some ⟨p, false⟩ }).stream st).params = (v.stream st).params := by
    rw [State.stream_modStream]
  rw [State.sendFrame_of_up hwait' (by rw [hout]; exact hup), hout, State.modStream_modStream]
  generalize hw : (v.modStream st _).modPort _ _ = w
  have hqueue : w.rasterWaiting st = true := by
    rw [← hw]
    simp only [State.rasterWaiting, State.stream_modPort, State.stream_modStream, State.port_modPort,
      PortState.queueOf_enqueue, if_true]
    simp
  have hhand : (w.stream st).inHand = some ⟨p, false⟩ := by rw [← hw, State.stream_modPort, State.stream_modStream]
  simp only [State.releaseInHand, hhand, hqueue, Bool.not_false, Bool.and_self, if_true]

/-- On an output port that is not UP the packet is dropped and the raster buffer freed at once (R9, R135). -/
theorem State.lines_down {v : State} (hwait : v.rasterWaiting st = false)
    (hdown : v.isUp (v.stream st).params.output.port = false) (hstate : (v.stream st).state ≠ .held) (p : Port)
    (pkt : Packet) :
    (((v.modStream st fun y => { y with inHand := some ⟨p, false⟩ }).sendFrame st [pkt]).releaseInHand st) =
      (v.modStream st fun y => { y with inHand := none, presenting := [] }).freeRaster st p := by
  have hwait' : (v.modStream st fun y => { y with inHand := some ⟨p, false⟩ }).rasterWaiting st = false := by
    rw [State.rasterWaiting_modStream rfl, hwait]
  have hout : ((v.modStream st fun y => { y with inHand := some ⟨p, false⟩ }).stream st).params = (v.stream st).params := by
    rw [State.stream_modStream]
  rw [State.sendFrame_of_down hwait' (by rw [hout]; exact hdown), State.modStream_modStream]
  have hgone : (v.modStream st fun y => { y with inHand := some ⟨p, false⟩, presenting := [] }).rasterWaiting st = false := by
    rw [State.rasterWaiting_modStream rfl, hwait]
  simp only [State.releaseInHand, State.stream_modStream, hgone, hstate, Bool.and_false, Bool.false_eq_true, if_false,
    State.modStream_modStream]

end

/-! ### A packet taken (R129) -/

section
variable {s : State} {st : StreamId}

theorem State.canTake_of (hstate : (s.stream st).state = .waiting ∨ (s.stream st).state = .running)
    (hidle : (s.stream st).params.mode = .streaming → (s.stream st).presenting = [] ∧
      (s.port (s.stream st).params.output.port).queueOf (.raster st) = []) : s.canTake st = true := by
  rw [State.canTake, Bool.and_eq_true]
  refine ⟨by rcases hstate with h | h <;> rw [h] <;> rfl, ?_⟩
  cases hm : (s.stream st).params.mode with
  | paced => rfl
  | streaming =>
    obtain ⟨hp, hq⟩ := hidle hm
    rw [State.presentingNow_eq_false hp hq]
    rfl

/-- The stream once its oldest packet is out of the queue (R129, R168). -/
def State.dequeued (s : State) (st : StreamId) (pk : RasterPacket) (rest : List RasterPacket) : State :=
  s.modStream st fun y =>
    { y with
      queue := rest
      stallSilent := false
      stallTimer :=
        if pk.waitedRelease then some (s.supply.timeBase + BitVec.ofNat 64 ((s.stream st).params.stallMs * 1000))
        else (s.stream st).stallTimer }

theorem State.takeRaster_of (h : s.canTake st = true) {pk : RasterPacket} {rest : List RasterPacket}
    (hq : (s.stream st).queue = pk :: rest) :
    s.takeRaster st = if pk.frameStart then (s.dequeued st pk rest).takeStart st pk else (s.dequeued st pk rest).takeRest st pk := by
  have hout : (if pk.waitedRelease then (s.modStream st fun x => { x with queue := rest, stallSilent := false }).restartStall st
      else s.modStream st fun x => { x with queue := rest, stallSilent := false }) = s.dequeued st pk rest := by
    unfold State.dequeued
    cases pk.waitedRelease
    · rfl
    · rw [if_pos rfl, State.restartStall, State.modStream_modStream]
      refine State.modStream_congr ?_
      rw [if_pos rfl]
      rfl
  simp only [State.takeRaster, h, if_true, hq, hout]

theorem exec_rasterTaken (hrun : s.running = true) : exec (.rasterTaken st) s = .next (s.takeRaster st) :=
  exec_whenRunning (f := fun s => s.takeRaster st) rfl hrun

theorem State.dequeued_stream (pk : RasterPacket) (rest : List RasterPacket) : (s.dequeued st pk rest).stream st =
    { s.stream st with
      queue := rest
      stallSilent := false
      stallTimer :=
        if pk.waitedRelease then some (s.supply.timeBase + BitVec.ofNat 64 ((s.stream st).params.stallMs * 1000))
        else (s.stream st).stallTimer } := State.stream_modStream ..

end

/-- The flags of an outgoing packet as a byte (section 1.7). -/
theorem RasterFlags.code_eq (a b c d : Bool) : (⟨a, b, c, d⟩ : RasterFlags).code =
    (if a then 1 else 0) + (if b then 2 else 0) + (if c then 4 else 0) + (if d then 8 else 0) := rfl

section
variable {s : State} {st : StreamId} {pk : RasterPacket} {f : FrameInProgress}

/-- Lines that fail the geometry check (R132). -/
theorem State.takeLines_of_misfit (hf : (s.stream st).frame = some f) (hr : f.refused = false)
    (h : pk.misfits (s.stream st).params f = true) :
    let t := s.takeLines st pk
    let y := t.stream st
    y.frame = some { f with geometry := true, damaged := f.damaged || !f.geometry } ∧
      (s.spotter.log.length < 128 → t.spotter.log = s.spotter.log ++
        (if f.geometry then []
          else [(frameFiling st .geometry f.clip f.number (pk.firstLine + 65536 * pk.width)).entry s.now])) ∧
      y.source = (s.stream st).source ∧ y.back = (s.stream st).back ∧ t.spotter.streams = s.spotter.streams ∧
      t.link = (s.freeRaster st pk.port).link ∧ y.queue = (s.stream st).queue ∧ t.elsewhere st = s.elsewhere st := by
  intro t y
  obtain ⟨b, hb⟩ := State.geometryFailed_stream (pk := pk) hf hr
  have ht : t = _ := State.takeLines_misfit hf h
  have hy : y = (s.geometryFailed st pk f).stream st := by rw [show y = t.stream st from rfl, ht, State.freeRaster_stream]
  rw [hb] at hy
  refine ⟨by rw [hy], fun hroom => ?_, by rw [hy], by rw [hy], ?_, ?_, by rw [hy], ?_⟩
  · rw [ht, State.freeRaster_spotter]
    exact State.geometryFailed_adds.log hroom
  · rw [ht, State.freeRaster_spotter, State.geometryFailed_streams]
  · rw [ht]
    exact State.freeRaster_link_congr State.geometryFailed_link (by rw [hb]) (by rw [hb]) _
  · rw [ht, State.freeRaster_elsewhere, State.geometryFailed_elsewhere]

/-- Lines that fit, in PACED mode: the back buffer receives them, and the raster buffer is freed (R132). -/
theorem State.takeLines_paced (hf : (s.stream st).frame = some f) (hr : f.refused = false)
    (h : pk.misfits (s.stream st).params f = false) (hm : (s.stream st).params.mode = .paced) :
    s.takeLines st pk = (((s.filled st pk f).tapped st pk f).modStream st fun z =>
      { z with back := z.back.map fun g => { g with lines := g.lines ++ s.gradedOf st pk } }).freeRaster st pk.port := by
  obtain ⟨b, hb⟩ := State.filled_stream (pk := pk) hf hr
  rw [State.takeLines_fit hf h, State.gradeLines_paced (by rw [hb]; exact hm), State.filled_gradedOf hf hr]

/-- The outgoing packet of lines that fit, damaged as its frame is then (log entry 21). -/
def State.linesOut (s : State) (st : StreamId) (pk : RasterPacket) (f : FrameInProgress) : Packet :=
  linesPacket st (s.stream st).params pk f
    ((((s.filled st pk f).tapped st pk f).stream st).frame.any (·.damaged)) (s.gradedOf st pk)

theorem State.takeLines_streaming (hf : (s.stream st).frame = some f) (hr : f.refused = false)
    (h : pk.misfits (s.stream st).params f = false) (hm : (s.stream st).params.mode = .streaming) :
    s.takeLines st pk = ((((s.filled st pk f).tapped st pk f).modStream st fun y =>
      { y with inHand := some ⟨pk.port, false⟩ }).sendFrame st [s.linesOut st pk f]).releaseInHand st := by
  obtain ⟨b, hb⟩ := State.filled_stream (pk := pk) hf hr
  obtain ⟨d, b', hfit, -, -⟩ := State.fitted_stream (pk := pk) hf hr
  rw [State.takeLines_fit hf h, State.gradeLines_streaming (by rw [hb]; exact hm) (by rw [hfit]), State.filled_gradedOf hf hr,
    State.linesOut, hfit, hb]
  rfl

/-- What lines that fit leave, in both modes: the spotter as the taps left it, and of the stream all but the buffers and the
packets to come. -/
theorem State.takeLines_of_fit (hf : (s.stream st).frame = some f) (hr : f.refused = false)
    (h : pk.misfits (s.stream st).params f = false) :
    (s.takeLines st pk).spotter = ((s.filled st pk f).tapped st pk f).spotter ∧
      (s.takeLines st pk).table = ((s.filled st pk f).tapped st pk f).table ∧
      (s.takeLines st pk).elsewhere st = s.elsewhere st ∧
      ∃ g l b, (s.takeLines st pk).stream st =
        { ((s.filled st pk f).tapped st pk f).stream st with back := g, presenting := l, inHand := b } := by
  cases hm : (s.stream st).params.mode with
  | paced =>
    rw [State.takeLines_paced hf hr h hm]
    refine ⟨State.freeRaster_spotter .., State.freeRaster_table .., ?_, ?_⟩
    · rw [State.freeRaster_elsewhere, State.modStream_elsewhere, State.fitted_elsewhere]
    · rw [State.freeRaster_stream, State.stream_modStream]
      exact ⟨_, _, _, rfl⟩
  | streaming =>
    rw [State.takeLines_streaming hf hr h hm]
    refine ⟨?_, ?_, ?_, ?_⟩
    · rw [State.releaseInHand_spotter, State.sendFrame_spotter, State.modStream_spotter]
    · rw [State.releaseInHand_table, State.sendFrame_table, State.modStream_table]
    · rw [State.releaseInHand_elsewhere, State.sendFrame_elsewhere, State.modStream_elsewhere, State.fitted_elsewhere]
    · generalize hu : (State.modStream _ st _).sendFrame st _ = u
      obtain ⟨b, hb⟩ := State.releaseInHand_stream (s := u) (st := st)
      obtain ⟨l, hl⟩ := State.sendFrame_stream (((s.filled st pk f).tapped st pk f).modStream st fun y =>
        { y with inHand := some ⟨pk.port, false⟩ }) st [s.linesOut st pk f]
      rw [hb, ← hu, hl, State.stream_modStream]
      exact ⟨_, l, b, rfl⟩

/-- The measures after lines that fit (R146, R147). -/
theorem State.fitted_measures (hf : (s.stream st).frame = some f) (hr : f.refused = false) :
    let old := (s.spot st).measures
    let now := (((s.filled st pk f).tapped st pk f).spot st).measures
    let tap (k : Tap) : List (List Rgb) := if k = .a then pk.lines else s.gradedOf st pk
    let count (c : Rgb → Nat) : Nat := ((tap (s.spot st).config.clipTap).map fun l =>
      (l.filter fun q => (s.spot st).config.clipLevel ≤ c q).length).sum
    now.clipped = ⟨old.clipped.r + count (·.r), old.clipped.g + count (·.g), old.clipped.b + count (·.b)⟩ ∧
      now.lumaSum = old.lumaSum + ((tap (s.spot st).config.blackTap).map fun l => (l.map luma).sum).sum ∧
      now.unjudged = old.unjudged := by
  intro old now tap count
  have hmeasures := State.spotLines_measures ((s.filled st pk f).modStream st fun z => { z with source := z.source ++ pk.numbered })
    st f.clip f.number (pk.numbered.zip ((s.filled st pk f).gradedOf st pk))
  have hspot : ((s.filled st pk f).modStream st fun z => { z with source := z.source ++ pk.numbered }).spot st = s.spot st :=
    State.filled_spot
  rw [hspot, State.filled_gradedOf hf hr] at hmeasures
  have hnow : now.aside = (pk.numbered.zip (s.gradedOf st pk)).foldl
      (fun m ng => m.addLine (s.spot st).config ng.1.2 ng.2) old.aside := by
    rw [← hmeasures, ← State.filled_gradedOf (pk := pk) hf hr]
    rfl
  obtain ⟨hclip, hluma, hun⟩ := foldl_addLine (s.spot st).config (pk.numbered.zip (s.gradedOf st pk)) old.aside
  have htap (k : Tap) : (pk.numbered.zip (s.gradedOf st pk)).map (fun ng => k.choose ng.1.2 ng.2) = tap k :=
    map_choose_zip k pk.firstLine pk.lines _
  rw [← hnow, htap] at hclip hluma
  rw [← hnow] at hun
  exact ⟨hclip, hluma, hun⟩

/-- The entries of lines that fit: LINE_GAP of lines missing before them, then the scan's (R132, R151, R152). -/
theorem State.fitted_log (hroom : s.spotter.log.length < 128) : ∃ hot : List FaultEntry,
    ((s.filled st pk f).tapped st pk f).spotter.log = s.spotter.log ++
      (if decide (f.next < pk.firstLine) && !f.gap then
        [(frameFiling st .lineGap f.clip f.number f.next).entry s.now] else []) ++ hot ∧
      ∀ e ∈ hot, e.kind = .hotPixel ∨ e.kind = .hotScanSaturated := by
  have h := State.tapped_scanned (s := s.filled st pk f) (st := st) (pk := pk) (f := f)
  obtain ⟨hot, hlog, hkinds⟩ := h.log
  have hgap := (State.filled_adds (s := s) (st := st) (pk := pk) (f := f)).log hroom
  refine ⟨hot, ?_, hkinds⟩
  rw [← hgap]
  exact hlog

theorem State.gradedOf_length : (s.gradedOf st pk).length = pk.lines.length := by
  simp [State.gradedOf, RasterPacket.numbered]

/-- The port side of lines that fit: the taps touch no port. -/
theorem State.fitted_rasterWaiting (hf : (s.stream st).frame = some f) (hr : f.refused = false)
    (hq : (s.port (s.stream st).params.output.port).queueOf (.raster st) = []) :
    ((s.filled st pk f).tapped st pk f).rasterWaiting st = false := by
  obtain ⟨d, b, hfit, -⟩ := State.fitted_stream (pk := pk) hf hr
  have hlink : ((s.filled st pk f).tapped st pk f).link = s.link := State.fitted_link
  refine State.rasterWaiting_eq_false ?_
  rw [hfit]
  simp only [State.port, hlink]
  exact hq

theorem State.fitted_params (hf : (s.stream st).frame = some f) (hr : f.refused = false) :
    (((s.filled st pk f).tapped st pk f).stream st).params = (s.stream st).params := by
  obtain ⟨d, b, hfit, -⟩ := State.fitted_stream (pk := pk) hf hr
  rw [hfit]

theorem State.fitted_state (hf : (s.stream st).frame = some f) (hr : f.refused = false) :
    (((s.filled st pk f).tapped st pk f).stream st).state = (s.stream st).state := by
  obtain ⟨d, b, hfit, -⟩ := State.fitted_stream (pk := pk) hf hr
  rw [hfit]

theorem State.fitted_isUp (q : Port) : ((s.filled st pk f).tapped st pk f).isUp q = s.isUp q := by
  have hlink : ((s.filled st pk f).tapped st pk f).link = s.link := State.fitted_link
  simp only [State.isUp, State.port, hlink]

/-- In STREAMING mode with an UP output port, lines that fit go out in one packet (R135). -/
theorem State.takeLines_up (hf : (s.stream st).frame = some f) (hr : f.refused = false)
    (h : pk.misfits (s.stream st).params f = false) (hm : (s.stream st).params.mode = .streaming)
    (hq : (s.port (s.stream st).params.output.port).queueOf (.raster st) = [])
    (hup : s.isUp (s.stream st).params.output.port = true) :
    ((s.takeLines st pk).stream st).presenting = [] ∧ ((s.takeLines st pk).stream st).inHand = some ⟨pk.port, false⟩ ∧
      ((s.takeLines st pk).port (s.stream st).params.output.port).queueOf (.raster st) = [s.linesOut st pk f] := by
  have hwait := State.fitted_rasterWaiting (pk := pk) hf hr hq
  have hparams := State.fitted_params (pk := pk) hf hr
  have hqueue := State.queueOf_of_not_waiting hwait
  rw [State.takeLines_streaming hf hr h hm, State.lines_up hwait (by rw [hparams, State.fitted_isUp]; exact hup)]
  rw [hparams] at hqueue ⊢
  rw [State.stream_modPort, State.stream_modStream, State.port_modPort, PortState.queueOf_enqueue, if_pos rfl]
  exact ⟨rfl, rfl, congrArg (· ++ [s.linesOut st pk f]) hqueue⟩

/-- With the output port not UP nothing goes out (R9). -/
theorem State.takeLines_down (hf : (s.stream st).frame = some f) (hr : f.refused = false)
    (h : pk.misfits (s.stream st).params f = false) (hm : (s.stream st).params.mode = .streaming)
    (hq : (s.port (s.stream st).params.output.port).queueOf (.raster st) = [])
    (hdown : s.isUp (s.stream st).params.output.port = false) (hstate : (s.stream st).state ≠ .held) :
    ((s.takeLines st pk).stream st).presenting = [] ∧ ((s.takeLines st pk).stream st).inHand = none := by
  have hwait := State.fitted_rasterWaiting (pk := pk) hf hr hq
  have hparams := State.fitted_params (pk := pk) hf hr
  have hstate' := (State.fitted_state (pk := pk) hf hr).trans_ne hstate
  rw [State.takeLines_streaming hf hr h hm,
    State.lines_down hwait (by rw [hparams, State.fitted_isUp]; exact hdown) hstate', State.freeRaster_stream,
    State.stream_modStream]
  exact ⟨rfl, rfl⟩

/-- In PACED mode the back buffer receives the missing lines black, then the graded ones, and the raster buffer is freed. -/
theorem State.takeLines_back (hf : (s.stream st).frame = some f) (hr : f.refused = false)
    (h : pk.misfits (s.stream st).params f = false) (hm : (s.stream st).params.mode = .paced) :
    (s.takeLines st pk).link = (s.freeRaster st pk.port).link ∧ ∀ g, (s.stream st).back = some g →
      ((s.takeLines st pk).stream st).back = some { g with
        lines := g.lines ++ List.replicate (if decide (f.next < pk.firstLine) then pk.firstLine - g.lines.length else 0)
          (blackLine (s.stream st).params.encoding (s.stream st).params.width) ++ s.gradedOf st pk } := by
  have hlink : ((s.filled st pk f).tapped st pk f).link = s.link := State.fitted_link
  rw [State.takeLines_paced hf hr h hm]
  refine ⟨State.freeRaster_link_congr (t := ((s.filled st pk f).tapped st pk f).modStream st _) hlink ?_ ?_ _,
    fun g hg => ?_⟩
  · rw [State.stream_modStream]
    exact State.fitted_state hf hr
  · rw [State.stream_modStream]
    exact State.fitted_params hf hr
  · obtain ⟨d, b, hfit, -⟩ := State.fitted_stream (pk := pk) hf hr
    rw [State.freeRaster_stream, State.stream_modStream, hfit]
    by_cases hgap : f.next < pk.firstLine
    · simp only [hgap, hm, hg, and_self, if_true, decide_true, Option.map_some, GradedFrame.fillTo]
    · simp only [hgap, hg, and_false, if_false, decide_false, Bool.false_eq_true, Option.map_some, List.replicate_zero,
        List.append_nil]

/-- The frame in progress and the source buffer after lines that fit (R132). -/
theorem State.takeLines_frame (hf : (s.stream st).frame = some f) (hr : f.refused = false)
    (h : pk.misfits (s.stream st).params f = false) : ∃ d,
    ((s.takeLines st pk).stream st).frame = some { f with
      gap := f.gap || decide (f.next < pk.firstLine), damaged := d, next := pk.firstLine + pk.lines.length } ∧
    ((f.damaged || (decide (f.next < pk.firstLine) && !f.gap)) = true → d = true) ∧
    ((s.spot st).config.hotThreshold = 0 → d = (f.damaged || (decide (f.next < pk.firstLine) && !f.gap))) ∧
    ((s.takeLines st pk).stream st).source = (s.stream st).source ++ pk.numbered ∧
    ((s.takeLines st pk).stream st).queue = (s.stream st).queue ∧
    s.linesOut st pk f = linesPacket st (s.stream st).params pk f d (s.gradedOf st pk) := by
  obtain ⟨-, -, -, g, l, b, hy⟩ := State.takeLines_of_fit hf hr h
  obtain ⟨d, b', hfit, hd, hzero⟩ := State.fitted_stream (pk := pk) hf hr
  rw [hy]
  refine ⟨d, ?_, hd, hzero, ?_, ?_, ?_⟩
  · rw [hfit]
  · rw [hfit]
  · rw [hfit]
  · rw [State.linesOut, hfit]
    rfl

/-- The outgoing packet of a packet's lines, byte by byte (section 1.7). -/
theorem linesPacket_eq {p : StreamParams} {graded : List (List Rgb)} (hw : pk.width = p.width)
    (hlen : graded.length = pk.lines.length) (d : Bool) : linesPacket st p pk f d graded =
      { kind := .raster
        endpoint := p.output.id
        stream := st.val
        tag := 0
        payload := beBytes 2 f.clip ++ beBytes 4 f.number.toNat ++ beBytes 2 pk.firstLine ++
          [byteOf pk.lines.length] ++ beBytes 2 pk.width ++
          [byteOf ((if pk.frameStart then 1 else 0) + (if pk.frameEnd then 2 else 0) + (if pk.clipEnd then 4 else 0) +
            (if pk.frameEnd && d then 8 else 0))] ++
          (graded.flatten.map fun c => beBytes 2 c.r ++ beBytes 2 c.g ++ beBytes 2 c.b).flatten
        owner := .raster st } := by
  simp only [linesPacket, outgoingRaster, rasterPayload, RasterFlags.code_eq, hw, hlen]
  rfl

end

/-- Settles O57: a packet without FRAME_START taken, and the lines of a packet of the frame in progress. -/
theorem rasterLines : Obligations.RasterLines := by
  refine ⟨fun s st pk rest f hrun => ?_, fun s st pk f => ?_⟩
  · intro x hstate hidle hqueue hf hstart u
    have htaken : exec (.rasterTaken st) s = .next (u.takeRest st pk) := by
      rw [exec_rasterTaken hrun, State.takeRaster_of (State.canTake_of hstate hidle) hqueue, hstart]
      rfl
    have hus := State.dequeued_stream (s := s) (st := st) pk rest
    have huf : (u.stream st).frame = some f := (congrArg Stream.frame hus :).trans hf
    have hstray : (u.stream st).stray = x.stray := (congrArg Stream.stray hus :)
    refine ⟨fun hother => ?_, fun hclip hnumber hrefused => ?_, fun hclip hnumber hrefused => ?_⟩
    · have hne : ¬ (f.clip = pk.clip ∧ f.number = pk.frame) := fun h => hother.elim (fun e => e h.1) fun e => e h.2
      rw [htaken]
      simp only [State.takeRest, huf, if_neg hne, bump32_eq]
      refine congrArg (fun v : State => Host.Outcome.next (v.freeRaster st pk.port)) (State.modStream_congr ?_)
      rw [hstray]
    · rw [htaken]
      simp only [State.takeRest, huf, hclip, hnumber, and_self, if_true, hrefused]
      rfl
    · rw [htaken]
      simp only [State.takeRest, huf, hclip, hnumber, and_self, hrefused, Bool.false_eq_true, if_true, if_false]
      rfl
  · intro x hf hr hidle hopen t y p entry
    have hfits (h : pk.width = p.width) (h1 : pk.firstLine + pk.lines.length ≤ p.height) (h2 : f.next ≤ pk.firstLine) :
        pk.misfits p f = false := by
      rw [Bool.eq_false_iff, Ne, RasterPacket.misfits_iff]
      omega
    have hboth : y.queue = x.queue ∧ t.elsewhere st = s.elsewhere st := by
      cases hmis : pk.misfits p f with
      | true =>
        obtain ⟨-, -, -, -, -, -, hqueue, helse⟩ := State.takeLines_of_misfit hf hr hmis
        exact ⟨hqueue, helse⟩
      | false =>
        obtain ⟨-, -, helse, -⟩ := State.takeLines_of_fit hf hr hmis
        obtain ⟨-, -, -, -, -, hqueue, -⟩ := State.takeLines_frame hf hr hmis
        exact ⟨hqueue, helse⟩
    refine ⟨hboth.1, fun z hz => State.other_of_elsewhere hboth.2 hz, fun hmis => ?_, fun hw hh hn => ?_⟩
    · obtain ⟨hframe, hlog, hsource, hback, hstreams, hlink, -, -⟩ :=
        State.takeLines_of_misfit hf hr ((RasterPacket.misfits_iff ..).mpr hmis)
      exact ⟨hframe, hlog, hsource, hback, hstreams, hlink⟩
    · intro gap lines graded
      have hmis := hfits hw hh hn
      obtain ⟨d, hframe, hd, hzero, hsource, -, hout⟩ := State.takeLines_frame hf hr hmis
      obtain ⟨hspotter, -⟩ := State.takeLines_of_fit hf hr hmis
      rw [linesPacket_eq hw State.gradedOf_length] at hout
      refine ⟨⟨_, hframe, rfl, rfl, hr, rfl, rfl, rfl, rfl, fun hdam => hd ?_, hzero, fun hm hup => ?_⟩, fun hroom => ?_,
        hsource, fun hm => State.takeLines_back hf hr hmis hm,
        fun hm hdown => State.takeLines_down hf hr hmis hm (hidle hm).2 hdown (hopen hm), ?_⟩
      · rw [Bool.or_eq_true, Bool.and_eq_true, Bool.not_eq_true']
        exact hdam
      · obtain ⟨hpresenting, hhand, hqueue⟩ := State.takeLines_up hf hr hmis hm (hidle hm).2 hup
        exact ⟨hpresenting, hhand, hqueue.trans (congrArg (fun q => [q]) hout)⟩
      · obtain ⟨hot, hlog, hkinds⟩ := State.fitted_log (st := st) (pk := pk) (f := f) hroom
        exact ⟨hot, (congrArg FaultSpotter.log hspotter).trans hlog, hkinds⟩
      · have hspot : t.spot st = ((s.filled st pk f).tapped st pk f).spot st :=
          congrArg (fun v : FaultSpotter => v.streams[st.val]) hspotter
        rw [hspot]
        exact State.fitted_measures hf hr

end Sys2Proof.Machine
end

section
/-!
The start of a frame (R130, R131), with what it files and the hold points that meet it (R165).
-/

namespace Sys2Proof.Machine

/-! ### Hold points met along several steps (R165) -/

/-- From `s` to `t`, the stream's armed points of the conditions `p` are met: the stream's hold-pending mark is set if there is
one, and the one-shot ones are disarmed (R165). -/
structure State.Met (st : StreamId) (p : HoldCondition → Bool) (s t : State) : Prop where
  holds : ∀ a : Fin 4, t.spotter.holds[a] = (s.spotter.holds[a]).map fun h =>
    if h.meets st p && h.oneShot then { h with armed := false } else h
  pending : (t.stream st).holdPending = ((s.stream st).holdPending || s.holdMatches st p)
  takes : (t.stream st).state.takes = (s.stream st).state.takes

theorem HoldPoint.meets_false (st : StreamId) (h : HoldPoint) : h.meets st (fun _ => false) = false := by
  simp [HoldPoint.meets]

theorem State.holdMatches_false (s : State) (st : StreamId) : s.holdMatches st (fun _ => false) = false := by
  rw [State.holdMatches_eq, List.any_eq_false]
  intro h _
  cases h <;> simp [HoldPoint.meets]

theorem State.met_none {s t : State} {st : StreamId} (hholds : t.spotter.holds = s.spotter.holds)
    (hpending : (t.stream st).holdPending = (s.stream st).holdPending)
    (htakes : (t.stream st).state.takes = (s.stream st).state.takes) : State.Met st (fun _ => false) s t where
  holds := fun a => by
    rw [hholds]
    cases (s.spotter.holds[a]) <;> simp [HoldPoint.meets_false]
  pending := by rw [hpending, State.holdMatches_false, Bool.or_false]
  takes := htakes

theorem State.holdMatches_iff (s : State) (st : StreamId) (p : HoldCondition → Bool) :
    s.holdMatches st p = true ↔ ∃ a : Fin 4, ∃ h, s.spotter.holds[a] = some h ∧ h.meets st p = true := by
  rw [State.holdMatches_eq, List.any_eq_true]
  constructor
  · rintro ⟨x, hx, hmeets⟩
    obtain ⟨i, hi, rfl⟩ := List.getElem_of_mem hx
    cases hx : s.spotter.holds.toList[i] with
    | none => rw [hx] at hmeets; exact nomatch hmeets
    | some h =>
      rw [hx] at hmeets
      exact ⟨⟨i, by simpa using hi⟩, h, by simpa using hx, hmeets⟩
  · rintro ⟨a, h, hh, hm⟩
    exact ⟨some h, by rw [← hh]; simp, hm⟩

theorem HoldPoint.meets_or (st : StreamId) (p q : HoldCondition → Bool) (h : HoldPoint) :
    h.meets st (fun c => p c || q c) = (h.meets st p || h.meets st q) := by
  simp only [HoldPoint.meets, Bool.and_or_distrib_left]

/-- A point after a match of `p` meets `q` if it met `q` before and was not disarmed. -/
theorem HoldPoint.meets_disarmed (st : StreamId) (p q : HoldCondition → Bool) (h : HoldPoint) :
    (if h.meets st p && h.oneShot then { h with armed := false } else h).meets st q =
      (h.meets st q && !(h.meets st p && h.oneShot)) := by
  split
  · next hm =>
    rw [hm, Bool.not_true, Bool.and_false]
    rfl
  · next hm =>
    rw [Bool.not_eq_true] at hm
    rw [hm]
    simp

theorem State.Met.trans {st : StreamId} {p q : HoldCondition → Bool} {s t u : State} (h : State.Met st p s t)
    (k : State.Met st q t u) : State.Met st (fun c => p c || q c) s u where
  holds := fun a => by
    rw [k.holds, h.holds, Option.map_map]
    cases s.spotter.holds[a] with
    | none => rfl
    | some x =>
      simp only [Option.map_some, Function.comp_apply, HoldPoint.meets_disarmed, HoldPoint.meets_or]
      cases hp : x.meets st p <;> cases hq : x.meets st q <;> cases ho : x.oneShot <;> simp [ho]
  pending := by
    rw [k.pending, h.pending, Bool.or_assoc]
    congr 1
    rw [Bool.eq_iff_iff, Bool.or_eq_true, State.holdMatches_iff, State.holdMatches_iff, State.holdMatches_iff]
    have hnew (a : Fin 4) : (∃ x, t.spotter.holds[a] = some x ∧ x.meets st q = true) ↔
        ∃ x, s.spotter.holds[a] = some x ∧ (x.meets st q && !(x.meets st p && x.oneShot)) = true := by
      rw [h.holds]
      cases s.spotter.holds[a] with
      | none => simp
      | some x => simp only [Option.map_some, Option.some.injEq, exists_eq_left', HoldPoint.meets_disarmed]
    simp only [hnew, HoldPoint.meets_or, Bool.or_eq_true, Bool.and_eq_true, Bool.not_eq_true']
    constructor
    · rintro (⟨a, x, hx, hp⟩ | ⟨a, x, hx, hq, -⟩)
      · exact ⟨a, x, hx, Or.inl hp⟩
      · exact ⟨a, x, hx, Or.inr hq⟩
    · rintro ⟨a, x, hx, hpq⟩
      cases hp : x.meets st p with
      | true => exact Or.inl ⟨a, x, hx, hp⟩
      | false => exact Or.inr ⟨a, x, hx, by simpa [hp] using hpq, by simp [hp]⟩
  takes := k.takes.trans h.takes

theorem State.met_matchHolds {s : State} {st : StreamId} (h : (s.stream st).state.takes = true) (p : HoldCondition → Bool) :
    State.Met st p s (s.matchHolds st p) where
  holds := fun a => by
    rw [State.matchHolds_holds, h]
    rfl
  pending := by
    rw [State.matchHolds_stream, h]
    rfl
  takes := by rw [State.matchHolds_stream]

theorem State.met_file {s : State} {st : StreamId} (h : (s.stream st).state.takes = true) {f : Filing}
    (hf : f.stream = some st) : State.Met st (HoldCondition.isFault f.kind) s (s.file f) where
  holds := fun a => by
    rw [State.file_holds _ _ hf, h]
    rfl
  pending := by
    rw [State.file_stream _ _ hf, h]
    rfl
  takes := by rw [State.file_stream _ _ hf]; rfl

theorem State.met_fileOpt {s : State} {st : StreamId} (h : (s.stream st).state.takes = true) {o : Option Filing}
    (ho : ∀ f, o = some f → f.stream = some st) :
    State.Met st (fun c => o.any fun f => HoldCondition.isFault f.kind c) s (s.fileOpt o) := by
  cases o with
  | none => exact State.met_none rfl rfl rfl
  | some f => exact State.met_file h (ho f rfl)

/-! ### Steps that file for a stream (R131, R160, R165) -/

/-- From `s` to `t` a stream's own work adds at most `m` entries `es` to the log and meets hold points of the conditions `p`. -/
structure State.Reported (st : StreamId) (p : HoldCondition → Bool) (m : Nat) (es : List FaultEntry) (s t : State) :
    Prop where
  elsewhere : t.elsewhere st = s.elsewhere st
  link : t.link = s.link
  met : State.Met st p s t
  adds : State.Adds m es s t

theorem State.Reported.trans {st : StreamId} {p q : HoldCondition → Bool} {m n : Nat} {es fs : List FaultEntry}
    {s t u : State} (h : State.Reported st p m es s t) (k : State.Reported st q n fs t u) :
    State.Reported st (fun c => p c || q c) (m + n) (es ++ fs) s u :=
  ⟨k.elsewhere.trans h.elsewhere, k.link.trans h.link, h.met.trans k.met, h.adds.trans k.adds⟩

/-- The conditions that a filing made or not meets. -/
def faultsOf (o : Option Filing) : HoldCondition → Bool := fun c => o.any fun f => HoldCondition.isFault f.kind c

section
variable (s : State) (st : StreamId)

theorem State.reported_none {s t : State} {st : StreamId} (helse : t.elsewhere st = s.elsewhere st) (hlink : t.link = s.link)
    (hlog : t.spotter.log = s.spotter.log) (hholds : t.spotter.holds = s.spotter.holds)
    (hpending : (t.stream st).holdPending = (s.stream st).holdPending)
    (htakes : (t.stream st).state.takes = (s.stream st).state.takes) :
    State.Reported st (fun _ => false) 0 [] s t :=
  ⟨helse, hlink, State.met_none hholds hpending htakes, .nothing hlog (State.now_of_elsewhere helse)⟩

theorem State.reported_modStream {f : Stream → Stream} (hpending : (f (s.stream st)).holdPending = (s.stream st).holdPending)
    (htakes : (f (s.stream st)).state.takes = (s.stream st).state.takes) :
    State.Reported st (fun _ => false) 0 [] s (s.modStream st f) :=
  State.reported_none (State.modStream_elsewhere ..) rfl rfl rfl (by rw [State.stream_modStream, hpending])
    (by rw [State.stream_modStream, htakes])

@[simp] theorem State.stream_modClip (n : Nat) (f : ClipRecord → ClipRecord) (su : StreamId) :
    (s.modClip n f).stream su = s.stream su := by simp [State.stream]

@[simp] theorem State.spot_modClip (n : Nat) (f : ClipRecord → ClipRecord) (su : StreamId) :
    (s.modClip n f).spot su = s.spot su := by simp [State.spot]

@[simp] theorem State.stream_modSpot (f : SpotterStream → SpotterStream) (su : StreamId) :
    (s.modSpot st f).stream su = s.stream su := rfl

@[simp] theorem State.spot_modStream (f : Stream → Stream) (su : StreamId) : (s.modStream st f).spot su = s.spot su := rfl

@[simp] theorem State.clip?_modStream (f : Stream → Stream) (m : Nat) : (s.modStream st f).clip? m = s.clip? m := rfl

theorem State.reported_modClip (n : Nat) (f : ClipRecord → ClipRecord) :
    State.Reported st (fun _ => false) 0 [] s (s.modClip n f) :=
  State.reported_none (State.modClip_elsewhere ..) (State.modClip_link ..) (by simp) (by simp) (by simp) (by simp)

theorem State.reported_modSpot (f : SpotterStream → SpotterStream) :
    State.Reported st (fun _ => false) 0 [] s (s.modSpot st f) :=
  State.reported_none (State.modSpot_elsewhere ..) rfl rfl rfl rfl rfl

theorem State.reported_matchHolds (h : (s.stream st).state.takes = true) (p : HoldCondition → Bool) :
    State.Reported st p 0 [] s (s.matchHolds st p) :=
  ⟨State.matchHolds_elsewhere .., State.matchHolds_link .., State.met_matchHolds h p,
    .nothing (State.matchHolds_log ..) (by simp [State.now])⟩

theorem State.reported_fileOpt (h : (s.stream st).state.takes = true) {o : Option Filing}
    (ho : ∀ f, o = some f → f.stream = some st) :
    State.Reported st (faultsOf o) 1 (o.map (·.entry s.now)).toList s (s.fileOpt o) :=
  ⟨State.fileOpt_elsewhere _ _ ho, State.fileOpt_link .., State.met_fileOpt h ho, s.adds_fileOpt o⟩

/-- The same conditions and entries, written in another way. -/
theorem State.Reported.of_eq {p q : HoldCondition → Bool} {m n : Nat} {es fs : List FaultEntry} {s t : State}
    {st : StreamId} (h : State.Reported st p m es s t) (hp : p = q) (hn : m = n) (he : es = fs) :
    State.Reported st q n fs s t := by
  subst hp hn he
  exact h

/-- A finalisation reports FRAME_COUNT if it files it (R139). -/
theorem State.reported_finalise (h : (s.stream st).state.takes = true) : State.Reported st
    (faultsOf ((s.stream st).currentClip.bind (s.countFiling st))) 1
    (((s.stream st).currentClip.bind (s.countFiling st)).map (·.entry s.now)).toList s (s.finalise st) := by
  cases hc : (s.stream st).currentClip with
  | none =>
    rw [s.finalise_of_none st hc]
    have hquiet := s.reported_modStream st (f := fun x => { x with finaliseWaiting := false }) rfl rfl
    exact ⟨hquiet.elsewhere, hquiet.link, hquiet.met, hquiet.adds.now, Nat.zero_le 1,
      fun hroom => hquiet.adds.log (Nat.le_of_succ_le hroom)⟩
  | some n =>
    rw [s.finalise_of_some st hc]
    have hfile := s.reported_fileOpt st h (o := s.countFiling st n) fun f hf => (s.countFiling_fields st hf).1
    have hclip := State.reported_modClip (s.fileOpt (s.countFiling st n)) st n fun c => c.judge.setCurrent st false
    have hstream := State.reported_modStream ((s.fileOpt (s.countFiling st n)).modClip n fun c => c.judge.setCurrent st false)
      st (f := fun x => { x with currentClip := none, lastFrame := none, lookMissing := false, finaliseWaiting := false })
      rfl rfl
    refine (((hfile.trans hclip).trans hstream).trans (State.reported_modSpot _ st (·.leaveClip))).of_eq ?_ rfl ?_
    · funext c
      simp [faultsOf]
    · simp

end

/-! ### Frames none of which is in progress -/

theorem State.fileOpt_frame {s : State} {st : StreamId} (h : (s.stream st).frame = none) {o : Option Filing}
    (ho : ∀ f, o = some f → f.stream = some st) : ((s.fileOpt o).stream st).frame = none := by
  cases o with
  | none => exact h
  | some f => rw [State.fileOpt, State.file_frame s (ho f rfl), h, Option.map_none]

theorem State.finalise_frame {s : State} {st : StreamId} (h : (s.stream st).frame = none) :
    ((s.finalise st).stream st).frame = none := by
  cases hc : (s.stream st).currentClip with
  | none => rw [s.finalise_of_none st hc, State.stream_modStream]; exact h
  | some n =>
    rw [s.finalise_of_some st hc]
    have hfile := State.fileOpt_frame h (o := s.countFiling st n) fun f hf => (s.countFiling_fields st hf).1
    rw [State.stream_modSpot, State.stream_modStream, State.stream_modClip]
    exact hfile

/-! ### The clip record of a frame's clip (R36) -/

theorem State.fileOpt_clip?_ne (s : State) {o : Option Filing} {k m : Nat} (ho : ∀ f, o = some f → f.clip = some k)
    (h : m ≠ k) : (s.fileOpt o).clip? m = s.clip? m := by
  cases o with
  | none => rfl
  | some f => rw [State.fileOpt, State.file_clip?, ho f rfl, if_neg (by simpa using h.symm)]

theorem State.onlyCounts_fileOpt (s : State) (o : Option Filing) : s.OnlyCounts (s.fileOpt o) := by
  cases o with
  | none => exact .of_table rfl
  | some f => exact s.onlyCounts_file f

/-! ### A frame starts (R131) -/

section
variable (s : State) (st : StreamId) (k : Nat) (n : Word32)

/-- Whether a frame of clip `k` finalises another current clip of the stream (R131 step 1). -/
def State.changesClip (s : State) (st : StreamId) (k : Nat) : Bool := (s.stream st).currentClip.any (· != k)

/-- The FRAME_COUNT filing of the clip that a frame start finalises. -/
def State.startCounted (s : State) (st : StreamId) (k : Nat) : Option Filing :=
  if s.changesClip st k then (s.stream st).currentClip.bind (s.countFiling st) else none

/-- The continuity filing of a frame start (R131 step 2). -/
def State.startContinuity (s : State) (st : StreamId) (k : Nat) (n : Word32) : Option Filing :=
  if s.changesClip st k then none else (s.stream st).lastFrame.bind fun last => continuityFault st k last n

/-- The LOOK_MISSING filing of a frame start (R110). -/
def State.startMissing (s : State) (st : StreamId) (k : Nat) (n : Word32) : Option Filing :=
  if (s.stream st).lookMissing && !s.changesClip st k then none else (s.chain k).missing st k n (s.lookOf k)

/-- A frame start until the clip is current (R131 step 1). -/
def State.startClip (s : State) (st : StreamId) (k : Nat) (n : Word32) : State :=
  let t := (s.modStream st fun x => { x with notSecured := none }).matchHolds st (HoldCondition.isFrame k n)
  (if s.changesClip st k then t.finalise st else t).modStream st fun x => { x with currentClip := some k }

/-- A frame start until the clip has counted the frame (R131 steps 2 and 3). -/
def State.startCount (s : State) (st : StreamId) (k : Nat) (n : Word32) : State :=
  (((s.startClip st k n).fileOpt (s.startContinuity st k n)).modStream st fun x => { x with lastFrame := some n }).modClip k
    (·.noteFrame st n)

/-- The stream before a frame start, but for what filings and hold points change, once the clip is current. -/
def Stream.atClip (x : Stream) (k : Nat) (change : Bool) : Stream :=
  { x with
    notSecured := none
    currentClip := some k
    lastFrame := if change then none else x.lastFrame
    lookMissing := x.lookMissing && !change
    finaliseWaiting := x.finaliseWaiting && !change }

theorem continuityFault_fields {last : Word32} {f : Filing} (h : continuityFault st k last n = some f) :
    f.stream = some st ∧ f.clip = some k := by
  unfold continuityFault at h
  dsimp only at h
  split at h
  · exact nomatch h
  · split at h
    · cases h; exact ⟨rfl, rfl⟩
    · split at h
      · cases h; exact ⟨rfl, rfl⟩
      · cases h; exact ⟨rfl, rfl⟩

theorem State.startContinuity_fields {f : Filing} (h : s.startContinuity st k n = some f) :
    f.stream = some st ∧ f.clip = some k := by
  unfold State.startContinuity at h
  split at h
  · exact nomatch h
  · obtain ⟨last, -, hf⟩ := Option.bind_eq_some_iff.mp h
    exact continuityFault_fields st k n hf

theorem Chain.missing_fields {c : Chain} {look : Option Nat} {f : Filing} (h : c.missing st k n look = some f) :
    f.stream = some st ∧ f.clip = some k := by
  cases c with
  | reached => exact nomatch h
  | broken cause => cases h; exact ⟨rfl, rfl⟩

theorem State.startMissing_fields {f : Filing} (h : s.startMissing st k n = some f) :
    f.stream = some st ∧ f.clip = some k := by
  unfold State.startMissing at h
  split at h
  · exact nomatch h
  · exact Chain.missing_fields st k n h

variable {s st k n}

/-- The stream of a frame start when its FRAME points have been met. -/
theorem State.startMet_stream : ∃ b,
    ((s.modStream st fun x => { x with notSecured := none }).matchHolds st (HoldCondition.isFrame k n)).stream st =
      { s.stream st with notSecured := none, holdPending := b } :=
  ⟨_, (State.matchHolds_stream ..).trans (by rw [State.stream_modStream])⟩

theorem State.countFiling_startMet (m : Nat) :
    ((s.modStream st fun x => { x with notSecured := none }).matchHolds st (HoldCondition.isFrame k n)).countFiling st m =
      s.countFiling st m := by
  have : ((s.modStream st fun x => { x with notSecured := none }).matchHolds st (HoldCondition.isFrame k n)).clip? m =
      s.clip? m := by
    simp [State.clip?]
  simp only [State.countFiling, this]

theorem State.startClip_reported (htakes : (s.stream st).state.takes = true) : State.Reported st
    (fun c => HoldCondition.isFrame k n c || faultsOf (s.startCounted st k) c) 1
    ((s.startCounted st k).map (·.entry s.now)).toList s (s.startClip st k n) := by
  have hclear := s.reported_modStream st (f := fun x => { x with notSecured := none }) rfl rfl
  have hmet := State.reported_matchHolds (s.modStream st fun x => { x with notSecured := none }) st
    (by rw [State.stream_modStream]; exact htakes) (HoldCondition.isFrame k n)
  have hstart := hclear.trans hmet
  obtain ⟨b, hb⟩ := State.startMet_stream (s := s) (st := st) (k := k) (n := n)
  unfold State.startClip State.startCounted
  dsimp only
  split
  · have hfinal := State.reported_finalise
      ((s.modStream st fun x => { x with notSecured := none }).matchHolds st (HoldCondition.isFrame k n)) st
      (by rw [hb]; exact htakes)
    rw [hb, hstart.adds.now] at hfinal
    simp only [funext (State.countFiling_startMet (s := s) (st := st) (k := k) (n := n))] at hfinal
    refine ((hstart.trans hfinal).trans (State.reported_modStream _ st rfl rfl)).of_eq ?_ rfl ?_
    · funext c
      simp
    · simp
  · have hlast := hstart.trans (State.reported_modStream
      ((s.modStream st fun x => { x with notSecured := none }).matchHolds st (HoldCondition.isFrame k n)) st
      (f := fun x => { x with currentClip := some k }) rfl rfl)
    exact ⟨hlast.elsewhere, hlast.link, (hlast.of_eq (by funext c; simp [faultsOf]) rfl rfl).met, hlast.adds.now,
      Nat.zero_le 1, fun hroom => hlast.adds.log (Nat.le_of_succ_le hroom)⟩

theorem State.startClip_stream (hframe : (s.stream st).frame = none) : ∃ b, (s.startClip st k n).stream st =
    { (s.stream st).atClip k (s.changesClip st k) with holdPending := b } := by
  obtain ⟨b, hb⟩ := State.startMet_stream (s := s) (st := st) (k := k) (n := n)
  unfold State.startClip
  dsimp only
  rw [State.stream_modStream]
  generalize (s.modStream st fun x => { x with notSecured := none }).matchHolds st (HoldCondition.isFrame k n) = t at hb
  cases hch : s.changesClip st k with
  | false =>
    rw [if_neg Bool.false_ne_true, hb]
    exact ⟨b, by simp [Stream.atClip]⟩
  | true =>
    rw [if_pos rfl]
    have hsome : (t.stream st).currentClip ≠ none := by
      rw [hb]
      intro hnone
      have hn : (s.stream st).currentClip = none := hnone
      rw [State.changesClip, hn] at hch
      exact nomatch hch
    have haside := t.finalise_aside st
    rw [if_neg hsome] at haside
    have hf : ((t.finalise st).stream st).frame = none := State.finalise_frame (by rw [hb]; exact hframe)
    have hx := Stream.eq_of_aside (y := { t.stream st with
      currentClip := none, lastFrame := none, lookMissing := false, finaliseWaiting := false }) haside
    rw [hf] at hx
    refine ⟨((t.finalise st).stream st).holdPending, (congrArg (fun x : Stream => { x with currentClip := some k }) hx).trans ?_⟩
    rw [hb]
    simp [Stream.atClip, hframe]

theorem State.startClip_spot : (s.startClip st k n).spot st =
    if s.changesClip st k then (s.spot st).leaveClip else s.spot st := by
  obtain ⟨b, hb⟩ := State.startMet_stream (s := s) (st := st) (k := k) (n := n)
  have hspot : ((s.modStream st fun x => { x with notSecured := none }).matchHolds st (HoldCondition.isFrame k n)).spot st =
      s.spot st := by simp [State.spot]
  unfold State.startClip
  dsimp only
  rw [State.spot_modStream]
  cases hch : s.changesClip st k with
  | false => rw [if_neg Bool.false_ne_true, if_neg Bool.false_ne_true, hspot]
  | true =>
    rw [if_pos rfl, if_pos rfl, State.finalise_spot, if_neg, hspot]
    rw [hb]
    intro hnone
    have hn : (s.stream st).currentClip = none := hnone
    rw [State.changesClip, hn] at hch
    exact nomatch hch

theorem State.startClip_clip? (m : Nat) : (s.startClip st k n).clip? m =
    if s.changesClip st k ∧ (s.stream st).currentClip = some m then (s.clip? m).map (·.finalised st) else s.clip? m := by
  obtain ⟨b, hb⟩ := State.startMet_stream (s := s) (st := st) (k := k) (n := n)
  have hclip : ((s.modStream st fun x => { x with notSecured := none }).matchHolds st (HoldCondition.isFrame k n)).clip? m =
      s.clip? m := by simp [State.clip?]
  unfold State.startClip
  dsimp only
  rw [State.clip?_modStream]
  cases hch : s.changesClip st k with
  | false => rw [if_neg Bool.false_ne_true, hclip]; simp
  | true =>
    rw [if_pos rfl, State.finalise_clip?, hb, hclip]
    simp

theorem State.changesClip_ne (h : s.changesClip st k = true) : (s.stream st).currentClip ≠ some k := by
  intro hk
  rw [State.changesClip, hk] at h
  simp at h

theorem State.startClip_clip?_self : (s.startClip st k n).clip? k = s.clip? k := by
  rw [State.startClip_clip?, if_neg]
  rintro ⟨hch, hk⟩
  exact State.changesClip_ne hch hk

theorem State.atClip_takes (htakes : (s.stream st).state.takes = true) (hframe : (s.stream st).frame = none) :
    ((s.startClip st k n).stream st).state.takes = true := by
  obtain ⟨b, hb⟩ := State.startClip_stream (k := k) (n := n) hframe
  rw [hb]
  exact htakes

theorem State.startCount_reported (htakes : (s.stream st).state.takes = true) (hframe : (s.stream st).frame = none) :
    State.Reported st (faultsOf (s.startContinuity st k n)) 1 ((s.startContinuity st k n).map (·.entry s.now)).toList
      (s.startClip st k n) (s.startCount st k n) := by
  have hfile := State.reported_fileOpt (s.startClip st k n) st (State.atClip_takes htakes hframe)
    (o := s.startContinuity st k n) fun f hf => (s.startContinuity_fields st k n hf).1
  rw [(State.startClip_reported (k := k) (n := n) htakes).adds.now] at hfile
  have hstream := State.reported_modStream ((s.startClip st k n).fileOpt (s.startContinuity st k n)) st
    (f := fun x => { x with lastFrame := some n }) rfl rfl
  have hclip := State.reported_modClip (((s.startClip st k n).fileOpt (s.startContinuity st k n)).modStream st
    fun x => { x with lastFrame := some n }) st k (·.noteFrame st n)
  exact ((hfile.trans hstream).trans hclip).of_eq (by funext c; simp) rfl (by simp)

theorem State.startCount_stream (hframe : (s.stream st).frame = none) : ∃ b, (s.startCount st k n).stream st =
    { (s.stream st).atClip k (s.changesClip st k) with lastFrame := some n, holdPending := b } := by
  obtain ⟨b, hb⟩ := State.startClip_stream (k := k) (n := n) hframe
  have hf : (((s.startClip st k n).fileOpt (s.startContinuity st k n)).stream st).frame = none :=
    State.fileOpt_frame (by rw [hb]; exact hframe) fun f hf => (s.startContinuity_fields st k n hf).1
  have hx := Stream.eq_of_aside (State.fileOpt_aside (s.startClip st k n) st (f := s.startContinuity st k n)
    fun f hf => (s.startContinuity_fields st k n hf).1)
  rw [hf] at hx
  refine ⟨(((s.startClip st k n).fileOpt (s.startContinuity st k n)).stream st).holdPending, ?_⟩
  rw [State.startCount, State.stream_modClip, State.stream_modStream, hx, hb]
  simp [Stream.atClip, hframe]

theorem State.startCount_spot : (s.startCount st k n).spot st =
    if s.changesClip st k then (s.spot st).leaveClip else s.spot st := by
  rw [← State.startClip_spot (k := k) (n := n), State.startCount, State.spot_modClip, State.spot_modStream,
    State.fileOpt_spot]

theorem State.startCount_clip? {c : ClipRecord} (hc : s.clip? k = some c) : ∃ a b d q, (s.startCount st k n).clip? k =
    some (({ c with copyFaults := a, pictureFaults := b, timingFaults := d, qc := q } : ClipRecord).noteFrame st n) := by
  obtain ⟨a, b, d, q, h⟩ := State.onlyCounts_fileOpt (s.startClip st k n) (s.startContinuity st k n) k c
    (State.startClip_clip?_self.trans hc)
  refine ⟨a, b, d, q, ?_⟩
  rw [State.startCount, State.clip?_modClip, if_pos rfl, State.clip?_modStream, h]
  rfl

theorem State.startCount_clip?_ne {m : Nat} (h : m ≠ k) : (s.startCount st k n).clip? m = (s.startClip st k n).clip? m := by
  rw [State.startCount, State.clip?_modClip, if_neg h.symm, State.clip?_modStream,
    State.fileOpt_clip?_ne _ (fun f hf => (s.startContinuity_fields st k n hf).2) h]

/-! #### The look resolved (R109, R110, R116) -/

/-- What the resolution of a clip's look reads: its look number and camera tag, the looks and the defect map. -/
theorem State.resolution_congr {t : State} {c c' : ClipRecord} (hlook : t.look = s.look)
    (hmap : t.spotter.defectMap = s.spotter.defectMap) (hc : s.clip? k = some c) (hc' : t.clip? k = some c')
    (hl : c'.look = c.look) (htag : c'.cameraTag = c.cameraTag) :
    t.chain k = s.chain k ∧ t.lookOf k = s.lookOf k ∧ t.concealmentFor k = s.concealmentFor k := by
  have hof : t.lookOf k = s.lookOf k := by simp only [State.lookOf, hc, hc', Option.bind_some, hl]
  refine ⟨?_, hof, ?_⟩
  · simp only [State.chain, hof, State.directoryAt, State.slot, hlook]
  · simp only [State.concealmentFor, hc, hc', htag, hmap]

theorem State.resolve_eq (t : State) (su : StreamId) (m : Nat) (g : Word32) : t.resolve su m g =
    (t.modStream su fun x =>
      { x with
        graded := (t.chain m).resolution
        latch := (t.chain m).latch
        concealment := t.concealmentFor m
        lookMissing := x.lookMissing || (t.resolutionFault su m g).isSome }).fileOpt (t.resolutionFault su m g) := by
  simp only [State.resolve]
  cases t.resolutionFault su m g <;> rfl

theorem State.startCount_resolution (hframe : (s.stream st).frame = none) {c : ClipRecord} (hc : s.clip? k = some c)
    (helse : (s.startCount st k n).elsewhere st = s.elsewhere st) :
    (s.startCount st k n).chain k = s.chain k ∧ (s.startCount st k n).concealmentFor k = s.concealmentFor k ∧
      (s.startCount st k n).resolutionFault st k n = s.startMissing st k n := by
  obtain ⟨a, b, d, q, hc'⟩ := State.startCount_clip? (st := st) (n := n) hc
  obtain ⟨hchain, hlook, hset⟩ := State.resolution_congr (s := s) (t := s.startCount st k n)
    (congrArg Elsewhere.look helse) (congrArg Elsewhere.defectMap helse) hc hc' rfl rfl
  obtain ⟨hp, hs⟩ := State.startCount_stream (k := k) (n := n) hframe
  refine ⟨hchain, hset, ?_⟩
  rw [State.resolutionFault, hchain, hlook, hs]
  rfl

/-- A frame start until the look is resolved (R131 step 4). -/
def State.startLook (s : State) (st : StreamId) (k : Nat) (n : Word32) : State :=
  ((s.startCount st k n).modStream st fun x =>
    { x with
      graded := (s.chain k).resolution
      latch := (s.chain k).latch
      concealment := s.concealmentFor k
      lookMissing := x.lookMissing || (s.startMissing st k n).isSome }).fileOpt (s.startMissing st k n)

theorem State.startCount_elsewhere (htakes : (s.stream st).state.takes = true) (hframe : (s.stream st).frame = none) :
    (s.startCount st k n).elsewhere st = s.elsewhere st :=
  (State.startCount_reported htakes hframe).elsewhere.trans (State.startClip_reported htakes).elsewhere

/-- A frame start, its steps one after another (R131). -/
theorem State.startFrame_eq (htakes : (s.stream st).state.takes = true) (hframe : (s.stream st).frame = none)
    {c : ClipRecord} (hc : s.clip? k = some c) : s.startFrame st k n =
      (s.startLook st k n).modStream st
        (·.beginFrame k n ((s.startContinuity st k n).isSome || (s.startMissing st k n).isSome)) := by
  obtain ⟨b, hb⟩ := State.startMet_stream (s := s) (st := st) (k := k) (n := n)
  have hcurrent : (((s.modStream st fun x => { x with notSecured := none }).matchHolds st
      (HoldCondition.isFrame k n)).stream st).currentClip = (s.stream st).currentClip := by rw [hb]
  have hcont : ((s.startClip st k n).stream st).lastFrame.bind (fun last => continuityFault st k last n) =
      s.startContinuity st k n := by
    obtain ⟨b', hb'⟩ := State.startClip_stream (k := k) (n := n) hframe
    rw [hb', State.startContinuity]
    simp only [Stream.atClip]
    cases s.changesClip st k <;> rfl
  obtain ⟨hchain, hset, hfault⟩ := State.startCount_resolution hframe hc (State.startCount_elsewhere (n := n) htakes hframe)
  have hresolve : (s.startCount st k n).resolve st k n = s.startLook st k n := by
    rw [State.resolve_eq, hchain, hset, hfault, State.startLook]
  have hsteps : s.startFrame st k n =
      (((((s.startClip st k n).fileOpt (((s.startClip st k n).stream st).lastFrame.bind fun last =>
        continuityFault st k last n)).modStream st fun x => { x with lastFrame := some n }).modClip k
          (·.noteFrame st n)).resolve st k n).modStream st (·.beginFrame k n
        ((((s.startClip st k n).stream st).lastFrame.bind fun last => continuityFault st k last n).isSome ||
          (((((s.startClip st k n).fileOpt (((s.startClip st k n).stream st).lastFrame.bind fun last =>
            continuityFault st k last n)).modStream st fun x => { x with lastFrame := some n }).modClip k
              (·.noteFrame st n)).resolutionFault st k n).isSome)) := by
    rcases hcur : (s.stream st).currentClip with _ | a
    · simp only [State.startFrame, State.startClip, State.changesClip, hcurrent, hcur, Option.any_none]
    · simp only [State.startFrame, State.startClip, State.changesClip, hcurrent, hcur, Option.any_some]
  rw [hsteps, hcont]
  have hcount : ((((s.startClip st k n).fileOpt (s.startContinuity st k n)).modStream st fun x =>
      { x with lastFrame := some n }).modClip k (·.noteFrame st n)) = s.startCount st k n := rfl
  rw [hcount, hresolve, hfault]

/-- A frame start reports its FRAME points and its filings, in their order (R131, R165). -/
theorem State.startLook_reported (htakes : (s.stream st).state.takes = true) (hframe : (s.stream st).frame = none) :
    State.Reported st
      (fun c => HoldCondition.isFrame k n c || faultsOf (s.startCounted st k) c || faultsOf (s.startContinuity st k n) c ||
        faultsOf (s.startMissing st k n) c) 3
      (((s.startCounted st k).map (·.entry s.now)).toList ++ ((s.startContinuity st k n).map (·.entry s.now)).toList ++
        ((s.startMissing st k n).map (·.entry s.now)).toList) s (s.startLook st k n) := by
  have hbefore := (State.startClip_reported (k := k) (n := n) htakes).trans (State.startCount_reported (n := n) htakes hframe)
  obtain ⟨b, hb⟩ := State.startCount_stream (k := k) (n := n) hframe
  have hstream := State.reported_modStream (s.startCount st k n) st (f := fun x =>
    { x with
      graded := (s.chain k).resolution
      latch := (s.chain k).latch
      concealment := s.concealmentFor k
      lookMissing := x.lookMissing || (s.startMissing st k n).isSome }) rfl rfl
  have hgo := hbefore.trans hstream
  have hfile := State.reported_fileOpt ((s.startCount st k n).modStream st fun x =>
    { x with
      graded := (s.chain k).resolution
      latch := (s.chain k).latch
      concealment := s.concealmentFor k
      lookMissing := x.lookMissing || (s.startMissing st k n).isSome }) st (by rw [State.stream_modStream, hb]; exact htakes)
    (o := s.startMissing st k n) fun f hf => (s.startMissing_fields st k n hf).1
  rw [hgo.adds.now] at hfile
  exact (hgo.trans hfile).of_eq (by funext c; simp) rfl (by simp)

theorem State.startLook_stream (hframe : (s.stream st).frame = none) : ∃ b, (s.startLook st k n).stream st =
    { (s.stream st).atClip k (s.changesClip st k) with
      lastFrame := some n
      graded := (s.chain k).resolution
      latch := (s.chain k).latch
      concealment := s.concealmentFor k
      lookMissing := ((s.stream st).lookMissing && !s.changesClip st k) || (s.startMissing st k n).isSome
      holdPending := b } := by
  obtain ⟨b, hb⟩ := State.startCount_stream (k := k) (n := n) hframe
  unfold State.startLook
  generalize hu : (s.startCount st k n).modStream st _ = u
  have hus : u.stream st = { (s.stream st).atClip k (s.changesClip st k) with
      lastFrame := some n
      graded := (s.chain k).resolution
      latch := (s.chain k).latch
      concealment := s.concealmentFor k
      lookMissing := ((s.stream st).lookMissing && !s.changesClip st k) || (s.startMissing st k n).isSome
      holdPending := b } := by
    rw [← hu, State.stream_modStream, hb]
    simp [Stream.atClip]
  have hf : ((u.fileOpt (s.startMissing st k n)).stream st).frame = none :=
    State.fileOpt_frame (by rw [hus]; exact hframe) fun f hf => (s.startMissing_fields st k n hf).1
  have hx := Stream.eq_of_aside (State.fileOpt_aside u st (f := s.startMissing st k n)
    fun f hf => (s.startMissing_fields st k n hf).1)
  rw [hf, hus] at hx
  refine ⟨((u.fileOpt (s.startMissing st k n)).stream st).holdPending, hx.trans ?_⟩
  simp [Stream.atClip, hframe]

theorem State.startLook_clip? {c : ClipRecord} (hc : s.clip? k = some c) : ∃ c' a b d q, (s.startLook st k n).clip? k = some c' ∧
    c' = { c.noteFrame st n with copyFaults := a, pictureFaults := b, timingFaults := d, qc := q } := by
  obtain ⟨a, b, d, q, h⟩ := State.startCount_clip? (st := st) (n := n) hc
  have hcounts := State.onlyCounts_fileOpt ((s.startCount st k n).modStream st fun x =>
    { x with
      graded := (s.chain k).resolution
      latch := (s.chain k).latch
      concealment := s.concealmentFor k
      lookMissing := x.lookMissing || (s.startMissing st k n).isSome }) (s.startMissing st k n) k _ h
  obtain ⟨a', b', d', q', h'⟩ := hcounts
  exact ⟨_, a', b', d', q', h', rfl⟩

theorem State.startLook_clip?_ne {m : Nat} (h : m ≠ k) : (s.startLook st k n).clip? m = (s.startClip st k n).clip? m := by
  rw [State.startLook, State.fileOpt_clip?_ne _ (fun f hf => (s.startMissing_fields st k n hf).2) h, State.clip?_modStream,
    State.startCount_clip?_ne h]

theorem State.startLook_spot : (s.startLook st k n).spot st =
    if s.changesClip st k then (s.spot st).leaveClip else s.spot st := by
  rw [State.startLook, State.fileOpt_spot, State.spot_modStream, State.startCount_spot]

end

/-! ### What a frame start files, entry by entry -/

section
variable {s : State} {st : StreamId} {k : Nat} {n : Word32}

theorem State.changesClip_eq : s.changesClip st k = (s.stream st).currentClip.any fun a => decide (a ≠ k) := by
  unfold State.changesClip
  cases (s.stream st).currentClip with
  | none => rfl
  | some a => simp [bne, beq_eq_decide]

theorem State.startContinuity_entry {last : Word32} (hch : s.changesClip st k = false)
    (hl : (s.stream st).lastFrame = some last) :
    let d := (n - last).toNat
    let entry (kind : FaultKind) (detail : Nat) : FaultEntry :=
      ⟨kind, s.supply.timeBase, some k, some n, none, none, some st, BitVec.ofNat 32 detail, false⟩
    ((s.startContinuity st k n).map (·.entry s.now)).toList =
      if d = 1 then []
      else if d = 0 then [entry .duplicateFrame 0]
      else if d ≤ 2 ^ 31 then [entry .droppedFrames (d - 1)]
      else [entry .outOfOrder last.toNat] := by
  intro d entry
  have h31 : (2 : Nat) ^ 31 = 2147483648 := by norm_num
  rw [h31]
  simp only [State.startContinuity, hch, Bool.false_eq_true, if_false, hl, Option.bind_some, continuityFault]
  by_cases h1 : d = 1
  · rw [if_pos h1, if_pos h1]
    rfl
  · rw [if_neg h1, if_neg h1]
    by_cases h0 : d = 0
    · rw [if_pos h0, if_pos h0]
      rfl
    · rw [if_neg h0, if_neg h0]
      by_cases h2 : d ≤ 2147483648
      · rw [if_pos h2, if_pos h2]
        rfl
      · rw [if_neg h2, if_neg h2]
        rfl

theorem lookCode_eq (look : Option Nat) : lookCode look = look.getD 255 := by cases look <;> rfl

end

end Sys2Proof.Machine
end

section
/-!
RASTER_TAKEN of a packet with FRAME_START while no frame is in progress (R130, R131).
-/

namespace Sys2Proof.Machine

section
variable {s : State} {st : StreamId} {k : Nat} {n : Word32}

/-! ### The entries and conditions of a frame start -/

theorem State.startCounted_of_same (h : s.changesClip st k = false) : s.startCounted st k = none := by
  rw [State.startCounted, h]
  rfl

theorem State.startCounted_of_change (h : s.changesClip st k = true) {a : Nat} (ha : (s.stream st).currentClip = some a) :
    s.startCounted st k = s.countFiling st a := by
  rw [State.startCounted, h, ha]
  rfl

theorem State.changesClip_current (h : s.changesClip st k = true) : ∃ a, (s.stream st).currentClip = some a ∧ a ≠ k := by
  unfold State.changesClip at h
  cases hcur : (s.stream st).currentClip with
  | none => rw [hcur] at h; exact nomatch h
  | some a =>
    rw [hcur] at h
    exact ⟨a, rfl, bne_iff_ne.mp h⟩

theorem State.startContinuity_of_change (h : s.changesClip st k = true) : s.startContinuity st k n = none := by
  rw [State.startContinuity, h]
  rfl

theorem State.startContinuity_of_first (h : (s.stream st).lastFrame = none) : s.startContinuity st k n = none := by
  rw [State.startContinuity, h]
  cases s.changesClip st k <;> rfl

theorem State.startMissing_of_reached {a : Fin 16} {name : BankName} (h : s.chain k = .reached a name) :
    s.startMissing st k n = none := by
  rw [State.startMissing, h]
  split <;> rfl

theorem State.startMissing_of_broken {cause : Nat} (h : s.chain k = .broken cause) : s.startMissing st k n =
    if (s.stream st).lookMissing && !s.changesClip st k then none
    else some (frameFiling st .lookMissing k n (cause + 256 * (s.lookOf k).getD 255)) := by
  rw [State.startMissing, h, Chain.missing, lookCode_eq]

/-- The FAULT conditions a filing meets are those that name the kind of its entry. -/
theorem faultsOf_fault (o : Option Filing) (q : FaultKind) (t : Word64) :
    faultsOf o (.fault q) = (o.map (·.entry t)).toList.any fun e => e.kind == q := by
  cases o with
  | none => rfl
  | some f =>
    rw [faultsOf, Option.any_some, HoldCondition.isFault, Option.map_some, Option.toList_some, List.any_cons, List.any_nil,
      Bool.or_false]
    exact BEq.comm

theorem faultsOf_frame (o : Option Filing) (a : Nat) (m : Word32) : faultsOf o (.frame a m) = false := by
  cases o <;> rfl

/-- The hold points met at a frame start (R165). -/
def State.startMeets (s : State) (st : StreamId) (k : Nat) (n : Word32) (c : HoldCondition) : Bool :=
  HoldCondition.isFrame k n c || faultsOf (s.startCounted st k) c || faultsOf (s.startContinuity st k n) c ||
    faultsOf (s.startMissing st k n) c

theorem State.startMeets_fault (q : FaultKind) : s.startMeets st k n (.fault q) =
    (((s.startCounted st k).map (·.entry s.now)).toList ++ ((s.startContinuity st k n).map (·.entry s.now)).toList ++
      ((s.startMissing st k n).map (·.entry s.now)).toList).any fun e => e.kind == q := by
  simp only [State.startMeets, faultsOf_fault _ _ s.now, List.any_append, HoldCondition.isFrame, Bool.false_or]

theorem State.startMeets_frame (a : Nat) (m : Word32) : s.startMeets st k n (.frame a m) = (a == k && m == n) := by
  simp only [State.startMeets, faultsOf_frame, HoldCondition.isFrame, Bool.or_false]

/-! ### The started frame -/

theorem Stream.beginFrame_paced {x : Stream} (h : x.params.mode = .paced) (d : Bool) : x.beginFrame k n d =
    { x with
      backState := .writing
      back := some ⟨k, n, d, []⟩
      skipped := if x.backState = .ready then min (x.skipped + 1) 4294967295 else x.skipped
      state := .running
      frame := some ⟨k, n, false, 0, false, false, d, false⟩
      source := []
      processed := min (x.processed + 1) 4294967295 } := by
  simp only [Stream.beginFrame, Stream.beginBack, h, bump32_eq]

theorem Stream.beginFrame_streaming {x : Stream} (h : x.params.mode = .streaming) (d : Bool) : x.beginFrame k n d =
    { x with
      state := .running
      frame := some ⟨k, n, false, 0, false, false, d, false⟩
      source := []
      processed := min (x.processed + 1) 4294967295 } := by
  simp only [Stream.beginFrame, Stream.beginBack, h, bump32_eq]

/-- Whether a continuity or look fault is filed at a frame start (R131 step 5). -/
def State.startDamaged (s : State) (st : StreamId) (k : Nat) (n : Word32) : Bool :=
  (s.startContinuity st k n).isSome || (s.startMissing st k n).isSome

theorem State.startDamaged_eq : s.startDamaged st k n =
    !(((s.startContinuity st k n).map (·.entry s.now)).toList ++
      ((s.startMissing st k n).map (·.entry s.now)).toList).isEmpty := by
  rw [State.startDamaged]
  cases s.startContinuity st k n <;> cases s.startMissing st k n <;> rfl

/-- What the work of a started frame reports, and the stream, spotter and clips it leaves (R131). -/
theorem State.startFrame_reported (htakes : (s.stream st).state.takes = true) (hframe : (s.stream st).frame = none)
    {c : ClipRecord} (hc : s.clip? k = some c) :
    let v := s.startFrame st k n
    v.elsewhere st = s.elsewhere st ∧ v.link = s.link ∧ v.table = (s.startLook st k n).table ∧
      v.spotter = (s.startLook st k n).spotter ∧ (s.spotter.log.length ≤ 125 → v.spotter.log = s.spotter.log ++
        ((s.startCounted st k).map (·.entry s.now)).toList ++ ((s.startContinuity st k n).map (·.entry s.now)).toList ++
          ((s.startMissing st k n).map (·.entry s.now)).toList) ∧
      (∀ a : Fin 4, v.spotter.holds[a] = (s.spotter.holds[a]).map fun h =>
        if h.meets st (s.startMeets st k n) && h.oneShot then { h with armed := false } else h) ∧
      v.stream st = ({ (s.stream st).atClip k (s.changesClip st k) with
        lastFrame := some n
        graded := (s.chain k).resolution
        latch := (s.chain k).latch
        concealment := s.concealmentFor k
        lookMissing := ((s.stream st).lookMissing && !s.changesClip st k) || (s.startMissing st k n).isSome
        holdPending := (s.stream st).holdPending || s.holdMatches st (s.startMeets st k n) } : Stream).beginFrame k n
          (s.startDamaged st k n) := by
  intro v
  have hv : v = (s.startLook st k n).modStream st (·.beginFrame k n (s.startDamaged st k n)) :=
    State.startFrame_eq htakes hframe hc
  have hrep := State.startLook_reported (k := k) (n := n) htakes hframe
  obtain ⟨b, hb⟩ := State.startLook_stream (k := k) (n := n) hframe
  have hpending := hrep.met.pending
  rw [hb] at hpending
  have hbeq : b = ((s.stream st).holdPending || s.holdMatches st (s.startMeets st k n)) := hpending
  rw [hv]
  refine ⟨(State.modStream_elsewhere ..).trans hrep.elsewhere, hrep.link, rfl, rfl, fun hroom => ?_, hrep.met.holds, ?_⟩
  · exact (hrep.adds.log (by omega)).trans (by rw [List.append_assoc, List.append_assoc, List.append_assoc])
  · rw [State.stream_modStream, hb, hbeq]

/-- A packet with FRAME_START of a secured clip, with no frame in progress (R130, R131). -/
theorem State.takeStart_secured {pk : RasterPacket} (htakes : (s.stream st).state.takes = true)
    (hframe : (s.stream st).frame = none) (hsec : s.secured pk.clip = true) :
    s.takeStart st pk = ((s.startFrame st pk.clip pk.frame).takeLines st pk).actOnFlags st pk := by
  have hend : s.endFrame st = s := by simp only [State.endFrame, hframe]
  have hheld : (s.stream st).state ≠ .held := fun h => by rw [h] at htakes; exact nomatch htakes
  simp only [State.takeStart, hend, if_neg hheld, hsec, if_true]

theorem State.takeStart_gated {pk : RasterPacket} (htakes : (s.stream st).state.takes = true)
    (hframe : (s.stream st).frame = none) (hsec : s.secured pk.clip = false) :
    s.takeStart st pk = (s.refuseFrame st pk.clip pk.frame).discardRefused st pk := by
  have hend : s.endFrame st = s := by simp only [State.endFrame, hframe]
  have hheld : (s.stream st).state ≠ .held := fun h => by rw [h] at htakes; exact nomatch htakes
  simp only [State.takeStart, hend, if_neg hheld, hsec, Bool.false_eq_true, if_false]

theorem State.secured_of {c : ClipRecord} (hc : s.clip? k = some c) (h : ∃ d ∈ c.dests, d.state = .verified) :
    s.secured k = true := by
  obtain ⟨d, hd, hv⟩ := h
  simp only [State.secured, hc, List.any_eq_true]
  exact ⟨d, hd, by rw [hv]; rfl⟩

theorem State.not_secured_of (h : ∀ c, s.clip? k = some c → ∀ d ∈ c.dests, d.state ≠ .verified) : s.secured k = false := by
  unfold State.secured
  cases hc : s.clip? k with
  | none => rfl
  | some c =>
    refine List.any_eq_false.mpr fun d hd => ?_
    exact fun hv => h c hc d hd (eq_of_beq hv)

theorem takes_of {x : StreamState} (h : x = .waiting ∨ x = .running) : x.takes = true := by
  rcases h with h | h <;> rw [h] <;> rfl

end

/-! ### The entries of a frame start, by the stream and the clips -/

section
variable (s : State) (st : StreamId) (k : Nat) (n : Word32)

/-- The FRAME_COUNT entry of the clip left, if its frames seen are not those expected (R139). -/
theorem State.startCounted_entries : ((s.startCounted st k).map (·.entry s.now)).toList =
    match if (s.stream st).currentClip.any (fun a => decide (a ≠ k)) then (s.stream st).currentClip else none with
    | none => []
    | some a =>
      match s.clip? a with
      | none => []
      | some y =>
        if y.expectedFrames.any fun m => m.toNat ≠ y.framesSeen then
          [⟨.frameCount, s.supply.timeBase, some a, none, none, none, some st, BitVec.ofNat 32 y.framesSeen, false⟩]
        else [] := by
  rw [← State.changesClip_eq]
  cases hch : s.changesClip st k with
  | false =>
    rw [State.startCounted_of_same hch]
    rfl
  | true =>
    obtain ⟨a, ha, -⟩ := State.changesClip_current hch
    rw [State.startCounted_of_change hch ha, if_pos rfl, ha]
    dsimp only
    cases hc : s.clip? a with
    | none =>
      rw [State.countFiling_of_none s st hc]
      rfl
    | some y =>
      rw [State.countFiling_entry s st hc]
      simp only [bne, beq_eq_decide, decide_not]

/-- The continuity entry, by the distance from the last frame number (R131 step 2). -/
theorem State.startContinuity_entries :
    let entry (kind : FaultKind) (detail : Nat) : FaultEntry :=
      ⟨kind, s.supply.timeBase, some k, some n, none, none, some st, BitVec.ofNat 32 detail, false⟩
    ((s.startContinuity st k n).map (·.entry s.now)).toList =
      match if (s.stream st).currentClip.any (fun a => decide (a ≠ k)) then none else (s.stream st).lastFrame with
      | none => []
      | some last =>
        let d := (n - last).toNat
        if d = 1 then []
        else if d = 0 then [entry .duplicateFrame 0]
        else if d ≤ 2 ^ 31 then [entry .droppedFrames (d - 1)]
        else [entry .outOfOrder last.toNat] := by
  intro entry
  rw [← State.changesClip_eq]
  cases hch : s.changesClip st k with
  | true =>
    rw [State.startContinuity_of_change hch]
    rfl
  | false =>
    rw [if_neg Bool.false_ne_true]
    cases hl : (s.stream st).lastFrame with
    | none =>
      rw [State.startContinuity_of_first hl]
      rfl
    | some last => exact State.startContinuity_entry hch hl

/-- The LOOK_MISSING entry of a broken chain, once for a clip (R110). -/
theorem State.startMissing_entries : ((s.startMissing st k n).map (·.entry s.now)).toList =
    match s.chain k with
    | .reached _ _ => []
    | .broken cause =>
      if (s.stream st).lookMissing && !(s.stream st).currentClip.any (fun a => decide (a ≠ k)) then []
      else [⟨.lookMissing, s.supply.timeBase, some k, some n, none, none, some st,
        BitVec.ofNat 32 (cause + 256 * (s.lookOf k).getD 255), false⟩] := by
  rw [← State.changesClip_eq]
  cases hc : s.chain k with
  | reached a name =>
    rw [State.startMissing_of_reached hc]
    rfl
  | broken cause =>
    rw [State.startMissing_of_broken hc]
    dsimp only
    split <;> rfl

/-! ### The same, after the packet has left the queue -/

variable (pk : RasterPacket) (rest : List RasterPacket)

theorem State.changesClip_dequeued : (s.dequeued st pk rest).changesClip st k = s.changesClip st k := by
  simp only [State.changesClip, State.dequeued_stream]

theorem State.startCounted_dequeued : (s.dequeued st pk rest).startCounted st k = s.startCounted st k := by
  simp only [State.startCounted, State.changesClip, State.dequeued_stream]
  rfl

theorem State.startContinuity_dequeued : (s.dequeued st pk rest).startContinuity st k n = s.startContinuity st k n := by
  simp only [State.startContinuity, State.changesClip, State.dequeued_stream]
  rfl

theorem State.startMissing_dequeued : (s.dequeued st pk rest).startMissing st k n = s.startMissing st k n := by
  simp only [State.startMissing, State.changesClip, State.dequeued_stream]
  rfl

theorem State.startMeets_dequeued : (s.dequeued st pk rest).startMeets st k n = s.startMeets st k n := by
  funext c
  simp only [State.startMeets, State.startCounted_dequeued, State.startContinuity_dequeued, State.startMissing_dequeued]

theorem State.startDamaged_dequeued : (s.dequeued st pk rest).startDamaged st k n = s.startDamaged st k n := by
  simp only [State.startDamaged, State.startContinuity_dequeued, State.startMissing_dequeued]

end

/-- Settles O46: the start of a secured frame, step by step. -/
theorem rasterStart : Obligations.RasterStart := by
  intro s st pk rest c hrun x hstate hidle hqueue hframe hstart hc hver k n change entry counted continuity missing damaged met
  have hus := State.dequeued_stream (s := s) (st := st) pk rest
  have hutakes : ((s.dequeued st pk rest).stream st).state.takes = true := by rw [hus]; exact takes_of hstate
  have huframe : ((s.dequeued st pk rest).stream st).frame = none := (congrArg Stream.frame hus :).trans hframe
  have hchange : s.changesClip st k = change := State.changesClip_eq
  have hcounted : ((s.startCounted st k).map (·.entry s.now)).toList = counted := s.startCounted_entries st k
  have hcontinuity : ((s.startContinuity st k n).map (·.entry s.now)).toList = continuity := s.startContinuity_entries st k n
  have hmissing : ((s.startMissing st k n).map (·.entry s.now)).toList = missing := s.startMissing_entries st k n
  have hsome : (s.startMissing st k n).isSome = !missing.isEmpty := by
    rw [← hmissing]
    cases s.startMissing st k n <;> rfl
  have hdamaged : s.startDamaged st k n = damaged := by rw [State.startDamaged_eq, hcontinuity, hmissing]
  have hmet (h : HoldPoint) : h.meets st (s.startMeets st k n) = met h := by
    unfold HoldPoint.meets
    cases hcond : h.condition with
    | frame a m =>
      simp only [met, hcond, State.startMeets_frame]
    | fault q =>
      simp only [met, hcond, State.startMeets_fault, hcounted, hcontinuity, hmissing]
  obtain ⟨helse, hlink, htable, hspotter, hlog, hholds, hstream⟩ :=
    State.startFrame_reported (k := k) (n := n) hutakes huframe (c := c) hc
  rw [State.startMeets_dequeued] at hholds hstream
  rw [State.startDamaged_dequeued, hdamaged] at hstream
  have hclip (m : Nat) : ((s.dequeued st pk rest).startFrame st k n).clip? m =
      ((s.dequeued st pk rest).startLook st k n).clip? m := by simp only [State.clip?, htable]
  refine ⟨(s.dequeued st pk rest).startFrame st k n, ?_, ?_, fun a => ?_, ?_, fun a y hch ha hy => ?_, ?_, fun hroom => ?_,
    fun z hz => ?_, hlink, congrArg Elsewhere.look helse, congrArg Elsewhere.offload helse, congrArg Elsewhere.jobs helse,
    congrArg Elsewhere.control helse, congrArg Elsewhere.supply helse, congrArg Elsewhere.defectMap helse⟩
  · intro t w
    rw [exec_rasterTaken hrun, State.takeRaster_of (State.canTake_of hstate hidle) hqueue, if_pos hstart,
      State.takeStart_secured hutakes huframe (State.secured_of (c := c) hc hver)]
    rfl
  · intro y
    have hpending : (s.dequeued st pk rest).holdMatches st (s.startMeets st k n) =
        s.spotter.holds.toList.any fun h => h.any met := by
      rw [State.holdMatches_eq]
      simp only [hmet]
      rfl
    rw [hus, State.changesClip_dequeued, State.startMissing_dequeued, hchange, hpending, hsome] at hstream
    have hy : y = _ := hstream
    have hmode : x.params.mode = .paced ∨ x.params.mode = .streaming := by cases x.params.mode <;> simp
    rcases hmode with hm | hm
    · rw [hy, Stream.beginFrame_paced (by exact hm)]
      exact ⟨rfl, rfl, rfl, rfl, rfl, rfl, rfl, rfl, rfl, rfl, rfl, rfl, rfl, fun _ => ⟨rfl, rfl, rfl⟩,
        fun h => absurd (hm.symm.trans h) (by decide), rfl, rfl, rfl, rfl, rfl, rfl, rfl, rfl, rfl, rfl⟩
    · rw [hy, Stream.beginFrame_streaming (by exact hm)]
      exact ⟨rfl, rfl, rfl, rfl, rfl, rfl, rfl, rfl, rfl, rfl, rfl, rfl, rfl,
        fun h => absurd (hm.symm.trans h) (by decide), fun _ => ⟨rfl, rfl, rfl⟩, rfl, rfl, rfl, rfl, rfl, rfl, rfl, rfl, rfl, rfl⟩
  · rw [hholds]
    simp only [hmet]
    rfl
  · obtain ⟨c', a, b, d, q, hc', rfl⟩ := State.startLook_clip? (s := s.dequeued st pk rest) (st := st) (n := n) (c := c) hc
    refine ⟨_, (hclip k).trans hc', ?_, ?_, rfl, rfl, rfl, rfl⟩
    · rw [← bump32_eq]
      rfl
    · simp only [ClipRecord.noteFrame]
      cases c.highestFrame with
      | none => rfl
      | some h => exact (apply_ite some ..).symm
  · have hne : a ≠ k := by
      rintro rfl
      exact State.changesClip_ne (hchange.trans hch) ha
    have hua : (s.dequeued st pk rest).clip? a = some y := hy
    have hucur : ((s.dequeued st pk rest).stream st).currentClip = some a := (congrArg Stream.currentClip hus :).trans ha
    have hy' : ((s.dequeued st pk rest).startFrame st k n).clip? a = some (y.finalised st) := by
      rw [hclip, State.startLook_clip?_ne hne, State.startClip_clip?,
        if_pos ⟨(s.changesClip_dequeued st k pk rest).trans (hchange.trans hch), hucur⟩, hua, Option.map_some]
    rw [ClipRecord.finalised_eq] at hy'
    exact ⟨_, hy', rfl, rfl, rfl⟩
  · have hspot : ((s.dequeued st pk rest).startFrame st k n).spot st = ((s.dequeued st pk rest).startLook st k n).spot st :=
      congrArg (fun v : FaultSpotter => v.streams[st.val]) hspotter
    rw [hspot, State.startLook_spot, State.changesClip_dequeued, hchange]
    rfl
  · rw [← hcounted, ← hcontinuity, ← hmissing, hlog hroom, State.startCounted_dequeued, State.startContinuity_dequeued,
      State.startMissing_dequeued]
    rfl
  · have hother := State.other_of_elsewhere (helse.trans (State.modStream_elsewhere ..)) hz
    exact hother

end Sys2Proof.Machine
end

section
/-!
RASTER_TAKEN of a stream's oldest packet (R129, R130).
-/

namespace Sys2Proof.Machine

section
variable {s : State} {st : StreamId} {pk : RasterPacket} {f : FrameInProgress}

/-- When a stream may take its oldest packet (R129, R135). -/
theorem State.canTake_iff : s.canTake st = true ↔
    ((s.stream st).state = .waiting ∨ (s.stream st).state = .running) ∧
      ((s.stream st).params.mode = .streaming → (s.stream st).presenting = [] ∧
        (s.port (s.stream st).params.output.port).queueOf (.raster st) = []) := by
  refine ⟨fun h => ?_, fun h => State.canTake_of h.1 h.2⟩
  rw [State.canTake, Bool.and_eq_true] at h
  obtain ⟨htakes, hmode⟩ := h
  refine ⟨?_, fun hm => ?_⟩
  · cases hs : (s.stream st).state with
    | waiting => exact Or.inl rfl
    | running => exact Or.inr rfl
    | closed => rw [hs] at htakes; exact nomatch htakes
    | held => rw [hs] at htakes; exact nomatch htakes
  · rw [hm] at hmode
    have hidle : ¬ s.presentingNow st = true := by simpa using hmode
    rw [State.presentingNow_iff, not_or, not_ne_iff, not_ne_iff] at hidle
    exact hidle

theorem State.takeRaster_of_not_canTake (h : s.canTake st = false) : s.takeRaster st = s := by
  simp only [State.takeRaster, h, Bool.false_eq_true, if_false]

theorem State.takeRaster_of_nil (h : (s.stream st).queue = []) : s.takeRaster st = s := by
  simp only [State.takeRaster, h, ite_self]

/-- A packet without FRAME_START while no frame is in progress is a stray (R129). -/
theorem State.takeRest_of_none (h : (s.stream st).frame = none) : s.takeRest st pk =
    (s.modStream st fun y => { y with stray := min (y.stray + 1) 4294967295 }).freeRaster st pk.port := by
  simp only [State.takeRest, h, bump32_eq]

/-- The fields of a stream that the start of its frame does not touch (R131 step 5). -/
theorem Stream.beginFrame_keeps {x y : Stream} (k : Nat) (n : Word32) (d : Bool) (h : y = x.beginFrame k n d) :
    y.currentClip = x.currentClip ∧ y.lastFrame = x.lastFrame ∧ y.notSecured = x.notSecured := by
  subst h
  cases hm : x.params.mode with
  | paced =>
    rw [Stream.beginFrame_paced hm]
    exact ⟨rfl, rfl, rfl⟩
  | streaming =>
    rw [Stream.beginFrame_streaming hm]
    exact ⟨rfl, rfl, rfl⟩

/-! ### A refused frame (R130) -/

/-- The frame that the gate refuses, in progress. -/
def refusedFrame (k : Nat) (n : Word32) : FrameInProgress := ⟨k, n, true, 0, false, false, false, false⟩

theorem State.fileIf_refused (b : Bool) (k : Nat) (n : Word32) (hf : (s.stream st).frame = some f) (hr : f.refused = true) :
    ((s.fileIf b (frameFiling st .notSecured k n 0)).stream st).frame = some f := by
  cases b with
  | false => exact hf
  | true =>
    have hunnamed : f.named (frameFiling st .notSecured k n 0) = false := by rw [FrameInProgress.named, hr]; rfl
    rw [State.fileIf, if_pos rfl, State.file_frame s rfl, hf, Option.map_some, hunnamed]
    rfl

theorem State.refuseFrame_stream (k : Nat) (n : Word32) : ∃ b, (s.refuseFrame st k n).stream st =
    { s.stream st with
      frame := some (refusedFrame k n)
      gated := min ((s.stream st).gated + 1) 4294967295
      notSecured := some k
      holdPending := b } := by
  unfold State.refuseFrame
  dsimp only
  generalize hu : s.modStream st _ = u
  have hus : u.stream st = { s.stream st with
      frame := some (refusedFrame k n), gated := min ((s.stream st).gated + 1) 4294967295, notSecured := some k } := by
    rw [← hu, State.stream_modStream, bump32_eq]
    rfl
  have hf := State.fileIf_refused (s := u) ((s.stream st).notSecured != some k) k n
    (show (u.stream st).frame = some (refusedFrame k n) by rw [hus]) rfl
  have hx := Stream.eq_of_aside (u.fileIf_frameFiling_aside st ((s.stream st).notSecured != some k) .notSecured k n 0)
  rw [hf, hus] at hx
  exact ⟨((u.fileIf ((s.stream st).notSecured != some k) (frameFiling st .notSecured k n 0)).stream st).holdPending, hx⟩

theorem State.refuseFrame_elsewhere (k : Nat) (n : Word32) : (s.refuseFrame st k n).elsewhere st = s.elsewhere st := by
  rw [State.refuseFrame, State.fileIf_frameFiling_elsewhere, State.modStream_elsewhere]

theorem State.refuseFrame_adds (k : Nat) (n : Word32) : State.Adds 1
    (if (s.stream st).notSecured = some k then [] else [(frameFiling st .notSecured k n 0).entry s.now])
    s (s.refuseFrame st k n) := by
  have h := State.adds_fileIf (s.modStream st fun x =>
    { x with
      frame := some ⟨k, n, true, 0, false, false, false, false⟩
      gated := bump32 x.gated
      notSecured := some k }) ((s.stream st).notSecured != some k) (frameFiling st .notSecured k n 0)
  refine State.Adds.of_eq (s := s) ⟨h.now, h.length_le, h.log⟩ ?_
  by_cases hn : (s.stream st).notSecured = some k
  · rw [if_pos hn, hn, bne_self_eq_false]
    rfl
  · rw [if_neg hn, if_pos (bne_iff_ne.mpr hn)]
    rfl

/-- The packet that starts a refused frame is discarded, and ends the frame with FRAME_END (R129, R130). -/
theorem State.discardRefused_eq (hf : (s.stream st).frame = some f) (hr : f.refused = true) : s.discardRefused st pk =
    (s.freeRaster st pk.port).modStream st fun y => { y with frame := if pk.frameEnd then none else y.frame } := by
  have hfree : ((s.freeRaster st pk.port).stream st).frame = some f := by rw [State.freeRaster_stream, hf]
  unfold State.discardRefused
  cases pk.frameEnd with
  | true => simp only [if_true, State.endFrame, hfree, hr]
  | false =>
    simp only [Bool.false_eq_true, if_false]
    exact (State.modStream_self rfl).symm

/-! ### The lines of a packet, in what they leave of the stream and the clips (R132) -/

theorem State.takeLines_keeps (hf : (s.stream st).frame = some f) (hr : f.refused = false) :
    ∃ fr so g l b h, (s.takeLines st pk).stream st =
      { s.stream st with frame := fr, source := so, back := g, presenting := l, inHand := b, holdPending := h } := by
  cases hmis : pk.misfits (s.stream st).params f with
  | true =>
    obtain ⟨b, hb⟩ := State.geometryFailed_stream (pk := pk) hf hr
    rw [State.takeLines_misfit hf hmis, State.freeRaster_stream, hb]
    exact ⟨some { f with geometry := true, damaged := f.damaged || !f.geometry }, (s.stream st).source, (s.stream st).back,
      (s.stream st).presenting, (s.stream st).inHand, b, rfl⟩
  | false =>
    obtain ⟨-, -, -, g, l, b, hy⟩ := State.takeLines_of_fit hf hr hmis
    obtain ⟨d, b', hfit, -⟩ := State.fitted_stream (pk := pk) hf hr
    rw [hfit] at hy
    exact ⟨_, _, g, l, b, b', hy⟩

theorem State.takeLines_elsewhere (hf : (s.stream st).frame = some f) (hr : f.refused = false) :
    (s.takeLines st pk).elsewhere st = s.elsewhere st := by
  cases hmis : pk.misfits (s.stream st).params f with
  | true =>
    obtain ⟨-, -, -, -, -, -, -, helse⟩ := State.takeLines_of_misfit hf hr hmis
    exact helse
  | false =>
    obtain ⟨-, -, helse, -⟩ := State.takeLines_of_fit hf hr hmis
    exact helse

theorem State.takeLines_counts (hf : (s.stream st).frame = some f) (hr : f.refused = false) :
    s.OnlyCounts (s.takeLines st pk) := by
  cases hmis : pk.misfits (s.stream st).params f with
  | true =>
    rw [State.takeLines_misfit hf hmis]
    exact State.geometryFailed_counts.trans (.of_table (State.freeRaster_table ..))
  | false =>
    obtain ⟨-, htable, -⟩ := State.takeLines_of_fit hf hr hmis
    exact State.fitted_counts.trans (.of_table htable)

/-- A packet without FRAME_END has its CLIP_END noted, and nothing else (R129). -/
theorem State.actOnFlags_of_open (h : pk.frameEnd = false) : s.actOnFlags st pk =
    s.modStream st fun y =>
      { y with frame := if pk.clipEnd then y.frame.map fun g => { g with clipEnd := true } else y.frame } := by
  unfold State.actOnFlags
  rw [h]
  cases pk.clipEnd with
  | true => rfl
  | false => exact (State.modStream_self rfl).symm

end

/-- Settles O45: what RASTER_TAKEN does while no frame is in progress. -/
theorem rasterTaken : Obligations.RasterTaken := by
  intro s st hrun x may apart
  have hapart {t : State} (h : t.elsewhere st = (s.elsewhere st)) : apart t :=
    ⟨fun z hz => State.other_of_elsewhere h hz, congrArg Elsewhere.offload h, congrArg Elsewhere.look h,
      congrArg Elsewhere.jobs h, congrArg Elsewhere.admission h, congrArg Elsewhere.control h, congrArg Elsewhere.supply h,
      congrArg Elsewhere.endpoints h, congrArg Elsewhere.defectMap h, congrArg Elsewhere.pending h⟩
  refine ⟨fun hnot => ?_, fun hmay pk rest hqueue hframe => ?_⟩
  · rw [exec_rasterTaken hrun]
    rcases hnot with hnot | hnil
    · rw [State.takeRaster_of_not_canTake (Bool.eq_false_iff.mpr fun h => hnot (State.canTake_iff.mp h))]
    · rw [State.takeRaster_of_nil hnil]
  · intro u
    have hus : u.stream st = { x with
        queue := rest
        stallSilent := false
        stallTimer := if pk.waitedRelease then some (s.supply.timeBase + BitVec.ofNat 64 (x.params.stallMs * 1000))
          else x.stallTimer } := State.dequeued_stream pk rest
    have huframe : (u.stream st).frame = none := (congrArg Stream.frame hus :).trans hframe
    have hutakes : (u.stream st).state.takes = true := (congrArg (fun y : Stream => y.state.takes) hus :).trans (takes_of hmay.1)
    have huelse : u.elsewhere st = s.elsewhere st := State.modStream_elsewhere ..
    have htake : s.takeRaster st = if pk.frameStart then u.takeStart st pk else u.takeRest st pk :=
      State.takeRaster_of (State.canTake_iff.mpr hmay) hqueue
    refine ⟨fun hstart => ?_, fun hstart hgate => ?_, fun hstart hopen c hc hver => ?_⟩
    · have hstray : (u.stream st).stray = x.stray := (congrArg Stream.stray hus :)
      rw [exec_rasterTaken hrun, htake, hstart, if_neg Bool.false_ne_true, State.takeRest_of_none huframe]
      refine congrArg (fun v : State => Host.Outcome.next (v.freeRaster st pk.port)) (State.modStream_congr ?_)
      rw [hstray]
    · obtain ⟨b, hb⟩ := State.refuseFrame_stream (s := u) (st := st) pk.clip pk.frame
      have hadds := State.refuseFrame_adds (s := u) (st := st) pk.clip pk.frame
      have hnot : (u.stream st).notSecured = x.notSecured := (congrArg Stream.notSecured hus :)
      rw [hus] at hb
      rw [exec_rasterTaken hrun, htake, if_pos hstart,
        State.takeStart_gated hutakes huframe (State.not_secured_of (s := u) (k := pk.clip) hgate),
        State.discardRefused_eq (f := refusedFrame pk.clip pk.frame) (by rw [hb]) rfl]
      have hstream := State.stream_modStream ((u.refuseFrame st pk.clip pk.frame).freeRaster st pk.port) st
        fun y => { y with frame := if pk.frameEnd then none else y.frame }
      rw [State.freeRaster_stream, hb] at hstream
      refine ⟨_, rfl, hapart ?_, ?_, ?_, ?_, ?_, ?_, fun hroom => ?_, ?_⟩
      · rw [State.modStream_elsewhere, State.freeRaster_elsewhere, State.refuseFrame_elsewhere, huelse]
      · rw [hstream]
      · rw [hstream]
      · rw [hstream]
      · rw [hstream]
      · rw [hstream]
      · have hlog := hadds.log hroom
        rw [hnot] at hlog
        refine (congrArg FaultSpotter.log (State.freeRaster_spotter ..)).trans hlog
      · rw [hstream]
        rfl
    · have hsec : u.secured pk.clip = true := State.secured_of (s := u) (c := c) hc hver
      obtain ⟨helse, -, htable, -, -, -, hstream⟩ :=
        State.startFrame_reported (k := pk.clip) (n := pk.frame) hutakes huframe (c := c) hc
      obtain ⟨c', a, b, d, q, hc', rfl⟩ := State.startLook_clip? (s := u) (st := st) (n := pk.frame) (c := c) hc
      generalize hv : u.startFrame st pk.clip pk.frame = v at helse htable hstream
      have hvf : (v.stream st).frame = some ⟨pk.clip, pk.frame, false, 0, false, false, u.startDamaged st pk.clip pk.frame,
        false⟩ := congrArg Stream.frame hstream
      obtain ⟨fr, so, g, l, ih, h, hlines⟩ := State.takeLines_keeps (pk := pk) hvf rfl
      have hvc : v.clip? pk.clip = _ := (congrArg (fun t : ClipTable => (t.clips[pk.clip]?).join) htable).trans hc'
      obtain ⟨a', b', d', q', hclip⟩ := State.takeLines_counts (pk := pk) hvf rfl pk.clip _ hvc
      obtain ⟨hcur, hlast, hnot⟩ := Stream.beginFrame_keeps pk.clip pk.frame _ hstream
      rw [exec_rasterTaken hrun, htake, if_pos hstart, State.takeStart_secured hutakes huframe hsec, hv,
        State.actOnFlags_of_open hopen]
      refine ⟨_, _, rfl, hapart ?_, ?_, ?_, ?_, ?_, ?_, hclip, ?_, ?_⟩
      · rw [State.modStream_elsewhere, State.takeLines_elsewhere hvf rfl, helse, huelse]
      · rw [State.stream_modStream, hlines]
        refine (congrArg Stream.processed hstream).trans ?_
        rw [hus]
        exact bump32_eq _
      · rw [State.stream_modStream, hlines]
        exact congrArg Stream.state hstream
      · rw [State.stream_modStream, hlines]
        exact hcur
      · rw [State.stream_modStream, hlines]
        exact hlast
      · rw [State.stream_modStream, hlines]
        exact hnot
      · exact bump32_eq _
      · exact Vector.getElem_set_self st.isLt

end Sys2Proof.Machine
end

section
/-!
The end of a frame, stage by stage (R133, R134, R136, R166).
-/

namespace Sys2Proof.Machine

/-! ### Steps that work for one stream (R131, R160, R165) -/

/-- No hold point of a stream is armed. -/
def State.Unarmed (st : StreamId) (s : State) : Prop :=
  ∀ h : HoldPoint, some h ∈ s.spotter.holds.toList → h.stream = st → h.armed = false

/-- The steps from `s` to `t` work for stream `st`: they touch only what belongs to it, file faults of it and count them in
their clips, and meet its armed hold points alone. -/
structure State.WorksFor (st : StreamId) (s t : State) : Prop where
  elsewhere : t.elsewhere st = s.elsewhere st
  counts : s.OnlyCounts t
  log : s.spotter.log <+: t.spotter.log
  frame : (s.stream st).frame = none → (t.stream st).frame = none
  pending : (s.stream st).holdPending = true → (t.stream st).holdPending = true
  unarmed : State.Unarmed st s → State.Unarmed st t ∧ (t.stream st).holdPending = (s.stream st).holdPending

section
variable {s t u : State} {st : StreamId}

theorem State.WorksFor.trans (h : State.WorksFor st s t) (k : State.WorksFor st t u) : State.WorksFor st s u where
  elsewhere := k.elsewhere.trans h.elsewhere
  counts := h.counts.trans k.counts
  log := h.log.trans k.log
  frame := fun hf => k.frame (h.frame hf)
  pending := fun hp => k.pending (h.pending hp)
  unarmed := fun hu => by
    obtain ⟨ht, hp⟩ := h.unarmed hu
    obtain ⟨hu', hp'⟩ := k.unarmed ht
    exact ⟨hu', hp'.trans hp⟩

/-- Steps that file nothing. -/
theorem State.worksFor_quiet (helse : t.elsewhere st = s.elsewhere st) (htable : t.table = s.table)
    (hlog : t.spotter.log = s.spotter.log) (hholds : t.spotter.holds = s.spotter.holds)
    (hframe : (s.stream st).frame = none → (t.stream st).frame = none)
    (hpending : (t.stream st).holdPending = (s.stream st).holdPending) : State.WorksFor st s t where
  elsewhere := helse
  counts := .of_table htable
  log := by rw [hlog]
  frame := hframe
  pending := fun hp => hpending.trans hp
  unarmed := fun hu => ⟨by unfold State.Unarmed; rw [hholds]; exact hu, hpending⟩

theorem State.worksFor_modStream (s : State) (st : StreamId) {f : Stream → Stream}
    (hframe : (s.stream st).frame = none → (f (s.stream st)).frame = none)
    (hpending : (f (s.stream st)).holdPending = (s.stream st).holdPending) : State.WorksFor st s (s.modStream st f) :=
  State.worksFor_quiet (State.modStream_elsewhere ..) rfl rfl rfl (by rw [State.stream_modStream]; exact hframe)
    (by rw [State.stream_modStream, hpending])

theorem State.Unarmed.not_meets (hu : State.Unarmed st s) {h : HoldPoint} (hh : some h ∈ s.spotter.holds.toList)
    (p : HoldCondition → Bool) : h.meets st p = false := by
  unfold HoldPoint.meets
  by_cases hst : h.stream = st
  · rw [hu h hh hst]
    rfl
  · rw [beq_false_of_ne hst, Bool.and_false]
    rfl

theorem State.Unarmed.not_matches (hu : State.Unarmed st s) (p : HoldCondition → Bool) : s.holdMatches st p = false := by
  rw [Bool.eq_false_iff]
  intro hm
  obtain ⟨a, h, hh, hmeets⟩ := (s.holdMatches_iff st p).mp hm
  rw [hu.not_meets (by rw [← hh]; simp) p] at hmeets
  exact nomatch hmeets

theorem State.Unarmed.file_holds (hu : State.Unarmed st s) {f : Filing} (hf : f.stream = some st) :
    (s.file f).spotter.holds = s.spotter.holds := by
  refine Vector.ext fun i hi => ?_
  refine (s.file_holds f hf ⟨i, hi⟩).trans ?_
  cases hh : s.spotter.holds[i] with
  | none => simp [hh]
  | some h =>
    have hm := hu.not_meets (h := h) (by rw [← hh]; simp) (HoldCondition.isFault f.kind)
    simp [hh, hm]

theorem State.worksFor_file (s : State) (st : StreamId) {f : Filing} (hf : f.stream = some st) :
    State.WorksFor st s (s.file f) where
  elsewhere := s.file_elsewhere st hf
  counts := s.onlyCounts_file f
  log := file_logged f (List.prefix_refl s.spotter.log)
  frame := fun h => by rw [State.file_frame s hf, h]; rfl
  pending := fun h => by rw [State.file_stream _ _ hf, h]; rfl
  unarmed := fun hu => by
    refine ⟨?_, ?_⟩
    · unfold State.Unarmed
      rw [hu.file_holds hf]
      exact hu
    · rw [State.file_stream _ _ hf, hu.not_matches, Bool.and_false, Bool.or_false]

theorem State.worksFor_refl (s : State) (st : StreamId) : State.WorksFor st s s :=
  State.worksFor_quiet rfl rfl rfl rfl id rfl

theorem State.worksFor_fileIf (s : State) (st : StreamId) (b : Bool) {f : Filing} (hf : f.stream = some st) :
    State.WorksFor st s (s.fileIf b f) := by
  cases b with
  | false => exact s.worksFor_refl st
  | true => exact s.worksFor_file st hf

theorem State.WorksFor.fileIf (h : State.WorksFor st s t) (b : Bool) {f : Filing} (hf : f.stream = some st) :
    State.WorksFor st s (t.fileIf b f) := h.trans (t.worksFor_fileIf st b hf)

theorem State.worksFor_fileRun (s : State) (st : StreamId) : State.WorksFor st s (s.fileRun st) := by
  rw [State.fileRun_eq]
  split
  · exact s.worksFor_refl st
  · exact (s.worksFor_file st rfl).trans (State.worksFor_modStream _ st id rfl)

theorem State.worksFor_present (s : State) (st : StreamId) : State.WorksFor st s (s.present st) := by
  obtain ⟨l, hl⟩ := s.present_stream st
  exact State.worksFor_quiet (s.present_elsewhere st) (s.present_table st) (congrArg FaultSpotter.log (s.present_spotter st))
    (congrArg FaultSpotter.holds (s.present_spotter st)) (fun h => by rw [hl]; exact h) (by rw [hl])

theorem State.worksFor_filled (s : State) (st : StreamId) (pk : RasterPacket) (f : FrameInProgress) :
    State.WorksFor st s (s.filled st pk f) := by
  unfold State.filled State.noteGap
  have hfill (t : State) : State.WorksFor st t (t.modStream st (·.fillBack pk.firstLine)) :=
    t.worksFor_modStream st (fun h => by rw [Stream.fillBack_eq]; exact h) (by rw [Stream.fillBack_eq])
  split
  · split
    · exact hfill s
    · refine ((s.worksFor_file st rfl).trans (State.worksFor_modStream _ st (fun h => ?_) rfl)).trans (hfill _)
      rw [h]
      rfl
  · exact s.worksFor_refl st

theorem State.worksFor_spotFrameEnd (s : State) (st : StreamId) (f : FrameInProgress) :
    State.WorksFor st s (s.spotFrameEnd st f) := by
  have hspot (t : State) (g : SpotterStream → SpotterStream) : State.WorksFor st t (t.modSpot st g) :=
    State.worksFor_quiet (State.modSpot_elsewhere ..) rfl rfl rfl id rfl
  rw [State.spotFrameEnd_eq]
  split
  · refine State.WorksFor.trans ?_ (hspot _ _)
    unfold State.judgeFrame
    dsimp only
    exact .fileIf (.fileIf (.fileIf (.fileIf (hspot s _) _ rfl) _ rfl) _ rfl) _ rfl
  · exact hspot _ _

end

end Sys2Proof.Machine
end

section
/-!
The stages of a frame's end, by what they leave of the stream (R133, R134, R136).
-/

namespace Sys2Proof.Machine

/-! ### Ticks (R136) -/

/-- A stream but for its presentation: its buffers, its packets, its repeat run and overruns, and what a filing changes. -/
def Stream.unshown (x : Stream) : Stream :=
  { x with
    frame := none
    holdPending := false
    front := none
    back := none
    backState := .idle
    presenting := []
    overruns := 0
    run := ⟨0, 0, 0⟩ }

section
variable (s : State) (st : StreamId)

theorem State.present_unshown : ((s.present st).stream st).unshown = (s.stream st).unshown := by
  obtain ⟨l, hl⟩ := s.present_stream st
  rw [hl]
  rfl

theorem Stream.repeatTick_unshown (x : Stream) : x.repeatTick.unshown = x.unshown ∧ x.repeatTick.frame = x.frame ∧
    x.repeatTick.holdPending = x.holdPending := by
  unfold Stream.repeatTick
  split
  · exact ⟨rfl, rfl, rfl⟩
  · exact ⟨rfl, rfl, rfl⟩

theorem State.tick_unshown : ((s.tick st false).stream st).unshown = (s.stream st).unshown := by
  cases hp : s.presentingNow st with
  | true =>
    rw [State.tick_of_presenting hp, State.stream_modStream]
    rfl
  | false =>
    by_cases hr : (s.stream st).backState = .ready
    · obtain ⟨fr, b, r, h⟩ := s.fileRun_stream_aside (st := st)
      rw [State.tick_of_ready hp hr, State.present_unshown, State.stream_modStream, if_neg Bool.false_ne_true, h]
      rfl
    · rw [State.tick_of_not_ready hp hr, State.present_unshown, if_neg Bool.false_ne_true, State.stream_modStream]
      exact (Stream.repeatTick_unshown _).1

theorem State.worksFor_tick : State.WorksFor st s (s.tick st false) := by
  cases hp : s.presentingNow st with
  | true =>
    rw [State.tick_of_presenting hp]
    exact s.worksFor_modStream st id rfl
  | false =>
    by_cases hr : (s.stream st).backState = .ready
    · rw [State.tick_of_ready hp hr, if_neg Bool.false_ne_true]
      exact ((s.worksFor_fileRun st).trans (State.worksFor_modStream _ st id rfl)).trans (State.worksFor_present _ st)
    · obtain ⟨-, hframe, hpending⟩ := (s.stream st).repeatTick_unshown
      rw [State.tick_of_not_ready hp hr, if_neg Bool.false_ne_true]
      exact (s.worksFor_modStream st (fun h => hframe.trans h) hpending).trans (State.worksFor_present _ st)

end

/-! ### Stage 1: the back buffer (R133, R134, R136) -/

section
variable {s : State} {st : StreamId} {g : FrameInProgress}

/-- The back buffer is READY with its frame's damaged mark. -/
def Stream.backReady (x : Stream) (g : FrameInProgress) : Stream :=
  { x with backState := .ready, back := x.back.map fun f => { f with damaged := g.damaged } }

theorem State.readyBack_streaming (hm : (s.stream st).params.mode = .streaming) : s.readyBack st g = s := by
  simp only [State.readyBack, hm]

theorem State.readyBack_going (hm : (s.stream st).params.mode = .paced) {o : Word64} (ho : (s.stream st).origin = some o) :
    s.readyBack st g = s.modStream st (·.backReady g) := by
  have horigin : ((s.modStream st (·.backReady g)).stream st).origin = some o := by
    rw [State.stream_modStream]
    exact ho
  unfold Stream.backReady at horigin
  simp only [State.readyBack, hm, horigin]
  rfl

theorem State.readyBack_first (hm : (s.stream st).params.mode = .paced) (ho : (s.stream st).origin = none) :
    s.readyBack st g = (s.modStream st fun x => { x.backReady g with origin := some s.now, tick := 0 }).tick st false := by
  have horigin : ((s.modStream st (·.backReady g)).stream st).origin = none := by
    rw [State.stream_modStream]
    exact ho
  unfold Stream.backReady at horigin
  simp only [State.readyBack, hm, horigin, State.modStream_modStream]
  rfl

theorem State.worksFor_readyBack (s : State) (st : StreamId) (g : FrameInProgress) :
    State.WorksFor st s (s.readyBack st g) := by
  cases hm : (s.stream st).params.mode with
  | streaming =>
    rw [State.readyBack_streaming hm]
    exact s.worksFor_refl st
  | paced =>
    cases ho : (s.stream st).origin with
    | some o =>
      rw [State.readyBack_going hm ho]
      exact s.worksFor_modStream st id rfl
    | none =>
      rw [State.readyBack_first hm ho]
      exact (s.worksFor_modStream st id rfl).trans (State.worksFor_tick _ st)

/-- Stage 1 leaves of its stream all but its pacing and its presentation. -/
theorem State.readyBack_unshown : ∃ o k, ((s.readyBack st g).stream st).unshown =
    { (s.stream st).unshown with origin := o, tick := k } := by
  cases hm : (s.stream st).params.mode with
  | streaming =>
    rw [State.readyBack_streaming hm]
    exact ⟨(s.stream st).origin, (s.stream st).tick, rfl⟩
  | paced =>
    cases ho : (s.stream st).origin with
    | some o =>
      rw [State.readyBack_going hm ho, State.stream_modStream]
      exact ⟨(s.stream st).origin, (s.stream st).tick, rfl⟩
    | none =>
      rw [State.readyBack_first hm ho, State.tick_unshown, State.stream_modStream]
      exact ⟨some s.now, 0, rfl⟩

/-- The first READY frame is presented at once while nothing of the stream is being presented (R134, R136). -/
theorem State.readyBack_shown (hm : (s.stream st).params.mode = .paced) (ho : (s.stream st).origin = none)
    (hp : (s.stream st).presenting = []) (hq : (s.port (s.stream st).params.output.port).queueOf (.raster st) = [])
    {f : GradedFrame} (hf : (s.stream st).back = some f) :
    let t := s.readyBack st g
    let shown : GradedFrame := { f with damaged := g.damaged }
    (t.stream st).origin = some s.now ∧ (t.stream st).tick = 0 ∧ (t.stream st).front = some shown ∧
      (t.stream st).back = (s.stream st).front ∧ (t.stream st).backState = .idle ∧
      (s.isUp (s.stream st).params.output.port = true →
        (t.port (s.stream st).params.output.port).queueOf (.raster st) ++ (t.stream st).presenting =
          shown.packets st (s.stream st).params) := by
  intro t shown
  obtain ⟨u, hu⟩ : ∃ u, u = s.modStream st fun x => { x.backReady g with origin := some s.now, tick := 0 } := ⟨_, rfl⟩
  have hus : u.stream st =
      { s.stream st with origin := some s.now, tick := 0, backState := .ready, back := some shown } := by
    rw [hu, State.stream_modStream]
    simp [Stream.backReady, hf, shown]
  have hulink : u.link = s.link := by rw [hu]; rfl
  have hidle : u.presentingNow st = false := by
    refine State.presentingNow_eq_false (by rw [hus, hp]) ?_
    rw [hus, State.port, hulink]
    exact hq
  obtain ⟨fr, b, r, hrun⟩ := u.fileRun_stream_aside (st := st)
  obtain ⟨v, hv⟩ : ∃ v, v = (u.fileRun st).modStream st (·.exchange) := ⟨_, rfl⟩
  have hvs : v.stream st = { s.stream st with
      origin := some s.now, tick := 0, backState := .idle, back := (s.stream st).front, front := some shown, frame := fr,
      holdPending := b, run := r } := by
    rw [hv, State.stream_modStream, hrun, hus]
    rfl
  have hvlink : v.link = s.link := by rw [hv, State.modStream_link, State.fileRun_link, hulink]
  have ht : t = v.present st := by
    rw [hv]
    refine (State.readyBack_first hm ho).trans ?_
    rw [← hu, State.tick_of_ready hidle (by rw [hus]), if_neg Bool.false_ne_true]
  have hwait : v.rasterWaiting st = false := by
    refine State.rasterWaiting_eq_false ?_
    rw [hvs, State.port, hvlink]
    exact hq
  obtain ⟨l, hl⟩ := v.present_stream st
  rw [hvs] at hl
  rw [ht, hl]
  refine ⟨rfl, rfl, rfl, rfl, rfl, fun hup => ?_⟩
  have hqueue := State.present_queue hwait (by rw [hvs, State.isUp, State.port, hvlink]; exact hup)
    (f := shown) (by rw [hvs])
  rw [hvs, hl] at hqueue
  exact hqueue

theorem State.readyBack_origin (hm : (s.stream st).params.mode = .paced) (ho : (s.stream st).origin = none) :
    ((s.readyBack st g).stream st).origin = some s.now ∧ ((s.readyBack st g).stream st).tick = 0 := by
  have h := State.tick_unshown (s.modStream st fun x => { x.backReady g with origin := some s.now, tick := 0 }) st
  rw [← State.readyBack_first hm ho, State.stream_modStream] at h
  exact ⟨(congrArg Stream.origin h :), (congrArg Stream.tick h :)⟩

end

/-! ### The later stages (R133, R166) -/

/-- A stream's presentation, and what no stage of a frame's end changes after the first. -/
def Stream.settled (x : Stream) : Stream :=
  { x with
    state := .closed
    holdPending := false
    heldFrame := none
    stallTimer := none
    stallSilent := false
    run := ⟨0, 0, 0⟩
    currentClip := none
    lastFrame := none
    lookMissing := false
    finaliseWaiting := false
    frame := none }

/-- The steps from `s` to `t` end a frame of stream `st` whose presentation and measures are settled. -/
structure State.Closes (st : StreamId) (s t : State) : Prop where
  elsewhere : t.elsewhere st = s.elsewhere st
  link : t.link = s.link
  log : s.spotter.log <+: t.spotter.log
  frame : (s.stream st).frame = none → (t.stream st).frame = none
  measures : (t.spot st).measures = (s.spot st).measures
  settled : (t.stream st).settled = (s.stream st).settled

section
variable {s t u : State} {st : StreamId}

theorem State.Closes.trans (h : State.Closes st s t) (k : State.Closes st t u) : State.Closes st s u :=
  ⟨k.elsewhere.trans h.elsewhere, k.link.trans h.link, h.log.trans k.log, fun hf => k.frame (h.frame hf),
    k.measures.trans h.measures, k.settled.trans h.settled⟩

theorem State.closes_refl (s : State) (st : StreamId) : State.Closes st s s :=
  ⟨rfl, rfl, List.prefix_refl _, id, rfl, rfl⟩

theorem State.closes_modStream (s : State) (st : StreamId) {f : Stream → Stream}
    (hf : (f (s.stream st)).settled = (s.stream st).settled)
    (hframe : (s.stream st).frame = none → (f (s.stream st)).frame = none) : State.Closes st s (s.modStream st f) :=
  ⟨State.modStream_elsewhere .., rfl, List.prefix_refl _, by rw [State.stream_modStream]; exact hframe, rfl,
    by rw [State.stream_modStream, hf]⟩

theorem State.closes_fileRun (s : State) (st : StreamId) : State.Closes st s (s.fileRun st) := by
  obtain ⟨fr, b, r, h⟩ := s.fileRun_stream_aside (st := st)
  have hworks := s.worksFor_fileRun st
  exact ⟨hworks.elsewhere, State.fileRun_link .., hworks.log, hworks.frame, by rw [State.fileRun_spot], by rw [h]; rfl⟩

theorem State.closes_enterHold (s : State) (st : StreamId) (f : FrameInProgress) :
    State.Closes st s (s.enterHold st f) :=
  (s.closes_modStream st rfl id).trans (State.closes_fileRun _ st)

theorem Stream.settled_aside (x : Stream) : x.aside.settled = x.settled := rfl

theorem State.finalise_logged {front : List FaultEntry} (h : s.logged front) : (s.finalise st).logged front := by
  cases hc : (s.stream st).currentClip with
  | none =>
    rw [s.finalise_of_none st hc]
    exact h
  | some n =>
    have hfile : (s.fileOpt (s.countFiling st n)).logged front := by
      cases s.countFiling st n with
      | none => exact h
      | some f => exact file_logged f h
    rw [s.finalise_of_some st hc]
    exact (modClip_logged n _).mpr hfile

theorem State.closes_finalise (s : State) (st : StreamId) : State.Closes st s (s.finalise st) := by
  have haside := s.finalise_aside st
  refine ⟨State.finalise_elsewhere .., State.finalise_link .., ?_, fun h => State.finalise_frame h, ?_, ?_⟩
  · exact State.finalise_logged (List.prefix_refl s.spotter.log)
  · rw [State.finalise_spot]
    split <;> rfl
  · rw [← Stream.settled_aside, haside, ← Stream.settled_aside (s.stream st)]
    split <;> rfl

end

/-! ### The end of a processed frame -/

/-- The marks of a frame in progress once the lines missing before the height are noted (R133). -/
def FrameInProgress.noted (f : FrameInProgress) (height : Nat) : FrameInProgress :=
  { f with gap := f.gap || decide (f.next < height), damaged := f.damaged || (decide (f.next < height) && !f.gap) }

/-- A packet of a frame that begins at the height: the lines missing before it are those missing at the frame's end. -/
def heightPacket (f : FrameInProgress) (height : Nat) : RasterPacket :=
  ⟨0, f.clip, f.number, height, 0, false, false, false, [], false⟩

/-- A stream whose frame `f` in progress is out of progress, its missing lines filled (R133). -/
def State.unframed (s : State) (st : StreamId) (f : FrameInProgress) : State :=
  (s.filled st (heightPacket f (s.stream st).params.height) f).modStream st fun y => { y with frame := none }

/-- The end of a processed frame up to its judgement by the spotter (R133 stages 1 to 3). -/
def State.judged (s : State) (st : StreamId) (f : FrameInProgress) : State :=
  (((s.unframed st f).readyBack st (f.noted (s.stream st).params.height)).modStream st fun y =>
    { y with latch := none }).spotFrameEnd st (f.noted (s.stream st).params.height)

/-- Hold entry of a stream with its hold-pending mark set (R133 stage 4). -/
def State.entered (s : State) (st : StreamId) (f : FrameInProgress) : State :=
  if (s.stream st).holdPending then s.enterHold st f else s

section
variable {s : State} {st : StreamId} {f : FrameInProgress}

theorem State.endProcessed_eq (hf : (s.stream st).frame = some f) (hr : f.refused = false) : s.endProcessed st f =
    let u := (s.judged st f).entered st (f.noted (s.stream st).params.height)
    if f.clipEnd then
      if (u.stream st).state = .held then u.modStream st fun y => { y with finaliseWaiting := true } else u.finalise st
    else u := by
  obtain ⟨b, hb⟩ := State.filled_stream (pk := heightPacket f (s.stream st).params.height) hf hr
  have hx : ((s.filled st (heightPacket f (s.stream st).params.height) f).stream st).frame.getD f =
      f.noted (s.stream st).params.height := by
    rw [hb]
    rfl
  have hfill : (if f.next < (s.stream st).params.height then
      (s.noteGap st f f.next).modStream st (·.fillBack (s.stream st).params.height) else s) =
        s.filled st (heightPacket f (s.stream st).params.height) f := rfl
  simp only [State.endProcessed, hfill, hx]
  rfl

theorem State.unframed_stream (hf : (s.stream st).frame = some f) (hr : f.refused = false) : ∃ b,
    (s.unframed st f).stream st =
      { s.stream st with
        frame := none
        holdPending := b
        back :=
          if (s.stream st).params.mode = .paced ∧ f.next < (s.stream st).params.height then
            (s.stream st).back.map fun g =>
              g.fillTo (s.stream st).params.encoding (s.stream st).params.width (s.stream st).params.height
          else (s.stream st).back } := by
  obtain ⟨b, hb⟩ := State.filled_stream (pk := heightPacket f (s.stream st).params.height) hf hr
  exact ⟨b, by rw [State.unframed, State.stream_modStream, hb]; rfl⟩

theorem State.unframed_link : (s.unframed st f).link = s.link := State.filled_link

theorem State.worksFor_judged : State.WorksFor st s (s.judged st f) := by
  have hunframed := (s.worksFor_filled st (heightPacket f (s.stream st).params.height) f).trans
    (State.worksFor_modStream _ st (f := fun y => { y with frame := none }) (fun _ => rfl) rfl)
  exact ((hunframed.trans (State.worksFor_readyBack _ st _)).trans (State.worksFor_modStream _ st id rfl)).trans
    (State.worksFor_spotFrameEnd _ st _)

end

end Sys2Proof.Machine
end

section
/-!
The end of a frame (R129, R130, R133, R134, R136, R166).
-/

namespace Sys2Proof.Machine

section
variable {s : State} {st : StreamId} {f g : FrameInProgress}

theorem State.judgeFrame_link (clip : Nat) (n : Word32) (pixels : Nat) : (s.judgeFrame st clip n pixels).link = s.link := by
  have hfileIf (t : State) (b : Bool) (x : Filing) : (t.fileIf b x).link = t.link := by
    cases b
    · rfl
    · exact t.file_link x
  simp only [State.judgeFrame, hfileIf]
  rfl

theorem State.spotFrameEnd_link : (s.spotFrameEnd st g).link = s.link := by
  rw [State.spotFrameEnd_eq]
  split
  · exact State.judgeFrame_link ..
  · rfl

/-! ### The stream when its frame has been judged -/

theorem State.judged_frame : ((s.judged st f).stream st).frame = none := by
  have hworks := ((State.worksFor_readyBack (s.unframed st f) st (f.noted (s.stream st).params.height)).trans
    (State.worksFor_modStream _ st (f := fun y => { y with latch := none }) id rfl)).trans
      (State.worksFor_spotFrameEnd _ st (f.noted (s.stream st).params.height))
  exact hworks.frame (by rw [State.unframed, State.stream_modStream])

theorem State.judged_stream : ∃ b, (s.judged st f).stream st =
    { ((s.unframed st f).readyBack st (f.noted (s.stream st).params.height)).stream st with
      latch := none, frame := none, holdPending := b } := by
  have haside := Stream.eq_of_aside (State.spotFrameEnd_aside (s := ((s.unframed st f).readyBack st
    (f.noted (s.stream st).params.height)).modStream st fun y => { y with latch := none }) (st := st)
      (f := f.noted (s.stream st).params.height))
  have hframe := State.judged_frame (s := s) (st := st) (f := f)
  refine ⟨((s.judged st f).stream st).holdPending, ?_⟩
  unfold State.judged at hframe ⊢
  rw [hframe, State.stream_modStream] at haside
  exact haside

theorem State.judged_link : (s.judged st f).link = ((s.unframed st f).readyBack st (f.noted (s.stream st).params.height)).link :=
  State.spotFrameEnd_link

/-- The judged stream but for its pacing and presentation. -/
theorem State.judged_unshown (hf : (s.stream st).frame = some f) (hr : f.refused = false) : ∃ o k,
    ((s.judged st f).stream st).unshown = { (s.stream st).unshown with origin := o, tick := k, latch := none } := by
  obtain ⟨b, hb⟩ := State.judged_stream (s := s) (st := st) (f := f)
  obtain ⟨o, k, hready⟩ := State.readyBack_unshown (s := s.unframed st f) (st := st) (g := f.noted (s.stream st).params.height)
  obtain ⟨b', hun⟩ := State.unframed_stream hf hr
  rw [hun] at hready
  refine ⟨o, k, ?_⟩
  rw [hb]
  exact congrArg (fun y : Stream => { y with latch := none }) hready

theorem State.judged_measures : ((s.judged st f).spot st).measures = ⟨⟨0, 0, 0⟩, 0, 0, false, false⟩ := by
  rw [State.judged, State.spotFrameEnd_eq, State.spot_modSpot]

/-! ### Hold entry and the finalisation (R133, R139, R166) -/

/-- A filing meets no hold point of a HELD stream (R165). -/
theorem State.file_of_held {x : Filing} (hx : x.stream = some st) (hheld : (s.stream st).state = .held)
    : ∃ fr, (s.file x).stream st = { s.stream st with frame := fr } := by
  refine ⟨((s.stream st).markDamaged x).frame, ?_⟩
  have htakes : (s.stream st).state.takes = false := by rw [hheld]; rfl
  rw [State.file_stream _ _ hx, htakes, Bool.false_and, Bool.or_false]
  rfl

theorem State.enterHold_stream : ∃ r fr, r.length = 0 ∧ (s.enterHold st g).stream st =
    { s.stream st with
      state := .held
      holdPending := false
      heldFrame := some ⟨g.clip, g.number, g.damaged⟩
      stallTimer := none
      stallSilent := false
      run := r
      frame := fr } := by
  unfold State.enterHold
  generalize hu : s.modStream st _ = u
  have hus := (congrArg (State.stream · st) hu).symm.trans (State.stream_modStream ..)
  rw [State.fileRun_eq]
  split
  · next hrun => exact ⟨(u.stream st).run, (u.stream st).frame, hrun, by rw [hus]⟩
  · obtain ⟨fr, hfr⟩ := State.file_of_held (s := u) (st := st)
      (x := frameFiling st .outputRepeat (u.stream st).run.clip (u.stream st).run.frame (u.stream st).run.length) rfl
      (by rw [hus])
    refine ⟨⟨0, 0, 0⟩, fr, rfl, ?_⟩
    rw [State.stream_modStream, hfr, hus]

theorem State.closes_entered : State.Closes st s (s.entered st g) := by
  unfold State.entered
  split
  · exact s.closes_enterHold st g
  · exact s.closes_refl st

/-- What follows the judgement of a processed frame touches neither its presentation nor its measures. -/
theorem State.closes_endProcessed (hf : (s.stream st).frame = some f) (hr : f.refused = false) :
    State.Closes st (s.judged st f) (s.endProcessed st f) := by
  have hentered := State.closes_entered (s := s.judged st f) (st := st) (g := f.noted (s.stream st).params.height)
  rw [State.endProcessed_eq hf hr]
  dsimp only
  split
  · split
    · exact hentered.trans (State.closes_modStream _ st rfl id)
    · exact hentered.trans (State.closes_finalise _ st)
  · exact hentered

/-- A frame's end with the hold-pending mark set (R166). -/
theorem State.endProcessed_held (hf : (s.stream st).frame = some f) (hr : f.refused = false)
    (hp : (s.stream st).holdPending = true) : ∃ r fr, r.length = 0 ∧ (s.endProcessed st f).stream st =
    { (s.judged st f).stream st with
      state := .held
      holdPending := false
      heldFrame := some ⟨f.clip, f.number, f.damaged || (decide (f.next < (s.stream st).params.height) && !f.gap)⟩
      stallTimer := none
      stallSilent := false
      run := r
      finaliseWaiting := f.clipEnd || ((s.judged st f).stream st).finaliseWaiting
      frame := fr } := by
  have hentered : (s.judged st f).entered st (f.noted (s.stream st).params.height) =
      (s.judged st f).enterHold st (f.noted (s.stream st).params.height) := by
    rw [State.entered, if_pos (State.worksFor_judged.pending hp)]
  obtain ⟨r, fr, hr0, henter⟩ := State.enterHold_stream (s := s.judged st f) (st := st)
    (g := f.noted (s.stream st).params.height)
  refine ⟨r, fr, hr0, ?_⟩
  rw [State.endProcessed_eq hf hr]
  dsimp only
  rw [hentered]
  cases f.clipEnd with
  | true =>
    rw [if_pos rfl, if_pos (by rw [henter]), State.stream_modStream, henter]
    rfl
  | false =>
    rw [if_neg Bool.false_ne_true, henter]
    rfl

/-- A frame's end with the hold-pending mark clear and no armed point of the stream (R133). -/
theorem State.endProcessed_open (hf : (s.stream st).frame = some f) (hr : f.refused = false)
    (hp : (s.stream st).holdPending = false) (hs : (s.stream st).state ≠ .held) (hu : State.Unarmed st s) :
    s.endProcessed st f = if f.clipEnd then (s.judged st f).finalise st else s.judged st f := by
  obtain ⟨-, hpending⟩ := (State.worksFor_judged (s := s) (st := st) (f := f)).unarmed hu
  have hentered : (s.judged st f).entered st (f.noted (s.stream st).params.height) = s.judged st f := by
    rw [State.entered, hpending, hp]
    rfl
  obtain ⟨o, k, hun⟩ := State.judged_unshown hf hr
  have hstate : ((s.judged st f).stream st).state ≠ .held := by
    have h : ((s.judged st f).stream st).state = (s.stream st).state := (congrArg Stream.state hun :)
    rw [h]
    exact hs
  rw [State.endProcessed_eq hf hr]
  dsimp only
  rw [hentered, if_neg hstate]

theorem State.finalise_holdPending (hu : State.Unarmed st s) :
    ((s.finalise st).stream st).holdPending = (s.stream st).holdPending := by
  cases hc : (s.stream st).currentClip with
  | none => rw [s.finalise_of_none st hc, State.stream_modStream]
  | some n =>
    rw [s.finalise_of_some st hc, State.stream_modSpot, State.stream_modStream, State.stream_modClip]
    cases hfile : s.countFiling st n with
    | none => rfl
    | some x => exact ((s.worksFor_file st (s.countFiling_fields st hfile).1).unarmed hu).2

end

end Sys2Proof.Machine
end

section
/-!
The end of a frame and the packet that ends it (R129, R130, R133, R134, R136, R166).
-/

namespace Sys2Proof.Machine

section
variable {s : State} {st : StreamId} {f : FrameInProgress}

theorem State.endFrame_refused (hf : (s.stream st).frame = some f) (hr : f.refused = true) :
    s.endFrame st = s.modStream st fun y => { y with frame := none } := by
  simp only [State.endFrame, hf, hr, if_true]

theorem State.endFrame_processed (hf : (s.stream st).frame = some f) (hr : f.refused = false) :
    s.endFrame st = s.endProcessed st f := by
  simp only [State.endFrame, hf, hr, Bool.false_eq_true, if_false]

theorem State.endFrame_of_none (hf : (s.stream st).frame = none) : s.endFrame st = s := by
  simp only [State.endFrame, hf]

/-- A packet with FRAME_START first ends the frame in progress (R130). -/
theorem State.takeStart_ended {pk : RasterPacket} (h : ((s.endFrame st).stream st).frame = none) :
    s.takeStart st pk = (s.endFrame st).takeStart st pk := by
  simp only [State.takeStart, State.endFrame_of_none h]

/-- A packet with FRAME_START whose stream is then HELD waits first in its queue (log entry 11). -/
theorem State.takeStart_held {pk : RasterPacket} (h : (s.stream st).frame = none) (hheld : (s.stream st).state = .held) :
    s.takeStart st pk = s.modStream st fun y => { y with queue := pk :: (s.stream st).queue } := by
  simp only [State.takeStart, State.endFrame_of_none h, hheld, if_true]
  rfl

theorem Stream.eq_requeued {x : Stream} {l : List RasterPacket} {o : Option Word64} (hqueue : x.queue = l)
    (hsilent : x.stallSilent = false) (htimer : o = x.stallTimer) :
    { x with queue := l, stallSilent := false, stallTimer := o } = x := by
  rw [htimer, ← hqueue, ← hsilent]

/-- What a frame's end leaves of its stream's queue, parameters, state and stall timer. -/
structure Stream.Ends (x y : Stream) : Prop where
  frame : y.frame = none
  queue : y.queue = x.queue
  params : y.params = x.params
  state : y.state = .held ∨ y.state = x.state ∧ y.stallTimer = x.stallTimer ∧ y.stallSilent = x.stallSilent

theorem State.finalise_timers : ((s.finalise st).stream st).state = (s.stream st).state ∧
    ((s.finalise st).stream st).stallTimer = (s.stream st).stallTimer ∧
    ((s.finalise st).stream st).stallSilent = (s.stream st).stallSilent := by
  have h := s.finalise_aside st
  split at h
  · exact ⟨(congrArg Stream.state h :), (congrArg Stream.stallTimer h :), (congrArg Stream.stallSilent h :)⟩
  · exact ⟨(congrArg Stream.state h :), (congrArg Stream.stallTimer h :), (congrArg Stream.stallSilent h :)⟩

theorem State.finalise_current : ((s.finalise st).stream st).currentClip = none ∧
    ((s.stream st).currentClip ≠ none → ((s.finalise st).stream st).lastFrame = none) := by
  have h := s.finalise_aside st
  split at h
  · next hnone => exact ⟨(congrArg Stream.currentClip h :).trans hnone, fun hsome => absurd hnone hsome⟩
  · exact ⟨(congrArg Stream.currentClip h :), fun _ => (congrArg Stream.lastFrame h :)⟩

theorem State.entered_timers (g : FrameInProgress) : ((s.entered st g).stream st).state = .held ∨ s.entered st g = s := by
  unfold State.entered
  split
  · obtain ⟨r, fr, -, h⟩ := State.enterHold_stream (s := s) (st := st) (g := g)
    exact Or.inl (by rw [h])
  · exact Or.inr rfl

theorem State.endProcessed_ends (hf : (s.stream st).frame = some f) (hr : f.refused = false) :
    (s.stream st).Ends ((s.endProcessed st f).stream st) := by
  have hcloses := State.closes_endProcessed hf hr
  obtain ⟨o, k, hun⟩ := State.judged_unshown hf hr
  have hqueue := (congrArg Stream.queue hcloses.settled :).trans (congrArg Stream.queue hun :)
  have hparams := (congrArg Stream.params hcloses.settled :).trans (congrArg Stream.params hun :)
  refine ⟨hcloses.frame State.judged_frame, hqueue, hparams, ?_⟩
  have hstate : ((s.judged st f).stream st).state = (s.stream st).state := (congrArg Stream.state hun :)
  have htimer : ((s.judged st f).stream st).stallTimer = (s.stream st).stallTimer := (congrArg Stream.stallTimer hun :)
  have hsilent : ((s.judged st f).stream st).stallSilent = (s.stream st).stallSilent := (congrArg Stream.stallSilent hun :)
  rw [State.endProcessed_eq hf hr]
  dsimp only
  rcases State.entered_timers (s := s.judged st f) (st := st) (f.noted (s.stream st).params.height) with hheld | hsame
  · rw [if_pos hheld]
    split
    · rw [State.stream_modStream]
      exact Or.inl hheld
    · exact Or.inl hheld
  · rw [hsame]
    split
    · split
      · next hheld =>
        rw [State.stream_modStream]
        exact Or.inl hheld
      · obtain ⟨h1, h2, h3⟩ := State.finalise_timers (s := s.judged st f) (st := st)
        exact Or.inr ⟨h1.trans hstate, h2.trans htimer, h3.trans hsilent⟩
    · exact Or.inr ⟨hstate, htimer, hsilent⟩

theorem State.endFrame_ends (hf : (s.stream st).frame = some f) : (s.stream st).Ends ((s.endFrame st).stream st) := by
  cases hr : f.refused with
  | true =>
    rw [State.endFrame_refused hf hr, State.stream_modStream]
    exact ⟨rfl, rfl, rfl, Or.inr ⟨rfl, rfl, rfl⟩⟩
  | false =>
    rw [State.endFrame_processed hf hr]
    exact State.endProcessed_ends hf hr

theorem State.endFrame_elsewhere (hf : (s.stream st).frame = some f) : (s.endFrame st).elsewhere st = s.elsewhere st := by
  cases hr : f.refused with
  | true => rw [State.endFrame_refused hf hr, State.modStream_elsewhere]
  | false =>
    rw [State.endFrame_processed hf hr]
    exact (State.closes_endProcessed hf hr).elsewhere.trans State.worksFor_judged.elsewhere

/-- In STREAMING mode a frame's end sends nothing. -/
theorem State.endFrame_streaming (hf : (s.stream st).frame = some f) (hm : (s.stream st).params.mode = .streaming) :
    ((s.endFrame st).stream st).presenting = (s.stream st).presenting ∧ (s.endFrame st).link = s.link := by
  cases hr : f.refused with
  | true =>
    rw [State.endFrame_refused hf hr, State.stream_modStream]
    exact ⟨rfl, rfl⟩
  | false =>
    have hcloses := State.closes_endProcessed hf hr
    obtain ⟨b, hb⟩ := State.judged_stream (s := s) (st := st) (f := f)
    have hlink := State.judged_link (s := s) (st := st) (f := f)
    obtain ⟨b', hun⟩ := State.unframed_stream hf hr
    rw [State.readyBack_streaming (by rw [hun]; exact hm)] at hb hlink
    rw [State.endFrame_processed hf hr]
    refine ⟨?_, hcloses.link.trans (hlink.trans State.unframed_link)⟩
    have hpresenting : ((s.judged st f).stream st).presenting = (s.stream st).presenting := by rw [hb, hun]
    exact (congrArg Stream.presenting hcloses.settled :).trans hpresenting

/-- Every entry of a frame's end follows the LINE_GAP of its missing lines (R133). -/
theorem State.endProcessed_log (hf : (s.stream st).frame = some f) (hr : f.refused = false)
    (hmissing : f.next < (s.stream st).params.height) (hgap : f.gap = false) (hroom : s.spotter.log.length < 128) :
    ∃ more, (s.endProcessed st f).spotter.log =
      s.spotter.log ++ (frameFiling st .lineGap f.clip f.number f.next).entry s.now :: more := by
  have hfilled := (State.filled_adds (s := s) (st := st) (pk := heightPacket f (s.stream st).params.height) (f := f)).log hroom
  have hcond : (decide (f.next < (heightPacket f (s.stream st).params.height).firstLine) && !f.gap) = true := by
    rw [hgap, Bool.not_false, Bool.and_true]
    exact decide_eq_true hmissing
  rw [if_pos hcond] at hfilled
  have hjudged := ((State.worksFor_readyBack (s.unframed st f) st (f.noted (s.stream st).params.height)).trans
    (State.worksFor_modStream _ st (f := fun y => { y with latch := none }) id rfl)).trans
      (State.worksFor_spotFrameEnd _ st (f.noted (s.stream st).params.height))
  obtain ⟨more, hmore⟩ := hjudged.log.trans (State.closes_endProcessed hf hr).log
  refine ⟨more, ?_⟩
  rw [← hmore]
  refine (congrArg (· ++ more) hfilled).trans ?_
  rw [List.append_assoc]
  rfl

/-- The buffers and the pacing of a judged frame's stream are those of stage 1. -/
theorem State.endProcessed_pacing (hf : (s.stream st).frame = some f) (hr : f.refused = false) :
    let y := (s.endProcessed st f).stream st
    let z := ((s.unframed st f).readyBack st (f.noted (s.stream st).params.height)).stream st
    y.origin = z.origin ∧ y.tick = z.tick ∧ y.backState = z.backState ∧ y.back = z.back ∧ y.front = z.front ∧
      y.presenting = z.presenting ∧ y.latch = none ∧ (s.endProcessed st f).link =
        ((s.unframed st f).readyBack st (f.noted (s.stream st).params.height)).link := by
  intro y z
  have hcloses := State.closes_endProcessed hf hr
  obtain ⟨b, hb⟩ := State.judged_stream (s := s) (st := st) (f := f)
  have h := hcloses.settled
  rw [hb] at h
  exact ⟨(congrArg Stream.origin h :), (congrArg Stream.tick h :), (congrArg Stream.backState h :), (congrArg Stream.back h :),
    (congrArg Stream.front h :), (congrArg Stream.presenting h :), (congrArg Stream.latch h :),
    hcloses.link.trans State.judged_link⟩

/-- The frame in the back buffer at its end: black to the height, and its damaged mark (R133). -/
def GradedFrame.ended (g : GradedFrame) (p : StreamParams) (f : FrameInProgress) : GradedFrame :=
  { g with
    damaged := f.damaged || (decide (f.next < p.height) && !f.gap)
    lines := g.lines ++
      List.replicate (if decide (f.next < p.height) then p.height - g.lines.length else 0) (blackLine p.encoding p.width) }

theorem State.unframed_back (hf : (s.stream st).frame = some f) (hr : f.refused = false)
    (hm : (s.stream st).params.mode = .paced) {g : GradedFrame} (hg : (s.stream st).back = some g) :
    ((s.unframed st f).stream st).back.map (fun x => { x with damaged := (f.noted (s.stream st).params.height).damaged }) =
      some (g.ended (s.stream st).params f) := by
  obtain ⟨b, hb⟩ := State.unframed_stream hf hr
  rw [hb]
  dsimp only
  rw [hg]
  by_cases hn : f.next < (s.stream st).params.height
  · rw [if_pos ⟨hm, hn⟩]
    simp [GradedFrame.ended, GradedFrame.fillTo, FrameInProgress.noted, hn]
  · rw [if_neg fun h => hn h.2]
    simp [GradedFrame.ended, FrameInProgress.noted, hn]

end

section
variable {s : State} {st : StreamId} {f : FrameInProgress} {g : GradedFrame}

/-- The back buffer and the pacing at a frame's end in PACED mode (R133, R134, R136). -/
theorem State.endProcessed_paced (hf : (s.stream st).frame = some f) (hr : f.refused = false)
    (hm : (s.stream st).params.mode = .paced) (hg : (s.stream st).back = some g) :
    let x := s.stream st
    let t := s.endProcessed st f
    let y := t.stream st
    (∀ o, x.origin = some o → y.origin = some o ∧ y.tick = x.tick ∧ y.backState = .ready ∧
      y.back = some (g.ended x.params f) ∧ y.front = x.front) ∧
    (x.origin = none → y.origin = some s.supply.timeBase ∧ y.tick = 0 ∧
      (x.presenting = [] → (s.port x.params.output.port).queueOf (.raster st) = [] →
        y.front = some (g.ended x.params f) ∧ y.back = x.front ∧ y.backState = .idle ∧
          (s.isUp x.params.output.port = true →
            (t.port x.params.output.port).queueOf (.raster st) ++ y.presenting = (g.ended x.params f).packets st x.params))) := by
  intro x t y
  obtain ⟨horigin, htick, hstate, hback, hfront, hpresenting, -, hlink⟩ := State.endProcessed_pacing hf hr
  obtain ⟨b, hb⟩ := State.unframed_stream hf hr
  have hended := State.unframed_back hf hr hm hg
  have hmu : ((s.unframed st f).stream st).params.mode = .paced := by rw [hb]; exact hm
  have hlinku : (s.unframed st f).link = s.link := State.unframed_link
  refine ⟨fun o ho => ?_, fun ho => ?_⟩
  · have hou : ((s.unframed st f).stream st).origin = some o := by rw [hb]; exact ho
    rw [State.readyBack_going hmu hou, State.stream_modStream] at horigin htick hstate hback hfront
    refine ⟨horigin.trans hou, htick.trans (by rw [hb]; rfl), hstate, hback.trans hended, hfront.trans (by rw [hb]; rfl)⟩
  · have hou : ((s.unframed st f).stream st).origin = none := by rw [hb]; exact ho
    have hnow : (s.unframed st f).now = s.supply.timeBase :=
      State.now_of_elsewhere ((State.modStream_elsewhere ..).trans State.filled_elsewhere)
    have hparams : ((s.unframed st f).stream st).params = x.params := by rw [hb]
    obtain ⟨g', hg', hshown⟩ := Option.map_eq_some_iff.mp hended
    obtain ⟨ho0, ht0⟩ := State.readyBack_origin (g := f.noted x.params.height) hmu hou
    refine ⟨horigin.trans (ho0.trans (by rw [hnow])), htick.trans ht0, fun hp hq => ?_⟩
    obtain ⟨-, -, hfront', hback', hstate', hqueue⟩ := State.readyBack_shown (g := f.noted x.params.height) hmu hou
      (by rw [hb]; exact hp) (by rw [hparams, State.port, hlinku]; exact hq) hg'
    rw [hshown, hparams] at hqueue
    refine ⟨hfront.trans (hfront'.trans (by rw [hshown])), hback.trans (hback'.trans (by rw [hb])), hstate.trans hstate',
      fun hup => ?_⟩
    have htport : t.port x.params.output.port =
        ((s.unframed st f).readyBack st (f.noted x.params.height)).port x.params.output.port := by
      rw [State.port, State.port, hlink]
    rw [htport, hpresenting]
    exact hqueue (by rw [State.isUp, State.port, hlinku]; exact hup)

end

/-- Settles O58: the end of a frame, and the packet with FRAME_START that ends one. -/
theorem frameEnds : Obligations.FrameEnds := by
  refine ⟨fun s st f hf => ?_, fun s st pk rest f hrun => ?_⟩
  · intro x p out t y missing hurt
    refine ⟨fun hr => State.endFrame_refused hf hr, fun hr => ?_⟩
    obtain ⟨hframe, hqueue, hparams, -⟩ := State.endFrame_ends hf
    have helse := State.endFrame_elsewhere hf
    have ht : t = s.endProcessed st f := State.endFrame_processed hf hr
    have hcloses := State.closes_endProcessed hf hr
    obtain ⟨-, -, -, -, -, -, hlatch, -⟩ := State.endProcessed_pacing hf hr
    obtain ⟨o, k, hun⟩ := State.judged_unshown hf hr
    have hkept {α : Type} (field : Stream → α) (hfield : ∀ z : Stream, field z = field z.unshown)
        (hset : ∀ (z : Stream) o k l, field { z with origin := o, tick := k, latch := l } = field z) :
        field ((s.judged st f).stream st) = field x := by
      rw [hfield, hun, hset, ← hfield]
    refine ⟨hframe, (congrArg (fun v : State => (v.stream st).latch) ht).trans hlatch, hparams, hqueue, ?_,
      fun z hz => State.other_of_elsewhere helse hz, congrArg Elsewhere.look helse, congrArg Elsewhere.offload helse, congrArg Elsewhere.supply helse,
      fun hmiss hgap hroom => ?_, fun hm g hg => ?_, fun hp => ?_, fun hp hs hu => ?_⟩
    · rw [ht, hcloses.measures, State.judged_measures]
    · rw [ht]
      exact State.endProcessed_log hf hr (of_decide_eq_true hmiss) hgap hroom
    · intro done
      have h := State.endProcessed_paced hf hr hm hg
      rw [← ht] at h
      exact h
    · obtain ⟨r, fr, hr0, h⟩ := State.endProcessed_held hf hr hp
      have hy : y = _ := (congrArg (State.stream · st) ht).trans h
      rw [hy]
      exact ⟨rfl, rfl, rfl, rfl, hr0, hkept (·.currentClip) (fun _ => rfl) (fun _ _ _ _ => rfl),
        hkept (·.lastFrame) (fun _ => rfl) (fun _ _ _ _ => rfl),
        congrArg (f.clipEnd || ·) (hkept (·.finaliseWaiting) (fun _ => rfl) (fun _ _ _ _ => rfl))⟩
    · obtain ⟨hunarmed, hpending⟩ := (State.worksFor_judged (s := s) (st := st) (f := f)).unarmed hu
      have hopen := State.endProcessed_open hf hr hp hs hu
      have hstate := hkept (·.state) (fun _ => rfl) fun _ _ _ _ => rfl
      have htimer := hkept (·.stallTimer) (fun _ => rfl) fun _ _ _ _ => rfl
      have hcurrent := hkept (·.currentClip) (fun _ => rfl) fun _ _ _ _ => rfl
      have hlast := hkept (·.lastFrame) (fun _ => rfl) fun _ _ _ _ => rfl
      cases hend : f.clipEnd with
      | false =>
        have hy : y = (s.judged st f).stream st := by
          refine (congrArg (State.stream · st) (ht.trans hopen)).trans ?_
          rw [hend, if_neg Bool.false_ne_true]
        rw [hy]
        exact ⟨hstate, hpending.trans hp, htimer, fun h => absurd h Bool.false_ne_true, fun _ => ⟨hcurrent, hlast⟩⟩
      | true =>
        have htf : t = (s.judged st f).finalise st := by
          refine (ht.trans hopen).trans ?_
          rw [hend, if_pos rfl]
        have hy : y = ((s.judged st f).finalise st).stream st := congrArg (State.stream · st) htf
        obtain ⟨hstate', htimer', -⟩ := State.finalise_timers (s := s.judged st f) (st := st)
        rw [hy]
        refine ⟨hstate'.trans hstate, (State.finalise_holdPending hunarmed).trans (hpending.trans hp), htimer'.trans htimer,
          fun _ => ⟨?_, fun hsome => ?_, fun k c hk hc => ?_⟩, fun h => absurd h.symm Bool.false_ne_true⟩
        · exact State.finalise_current.1
        · exact State.finalise_current.2 fun hnone => hsome (hcurrent.symm.trans hnone)
        · obtain ⟨a, b, d, q, hc'⟩ := State.worksFor_judged.counts k c hc
          rw [htf, State.finalise_clip?, if_pos (hcurrent.trans hk), hc', Option.map_some, ClipRecord.finalised_eq]
          exact ⟨_, rfl, rfl⟩
  · intro x hstate hidle hqueue hf hstart u ended
    have hus : u.stream st = { x with
        queue := rest
        stallSilent := false
        stallTimer := if pk.waitedRelease then some (s.supply.timeBase + BitVec.ofNat 64 (x.params.stallMs * 1000))
          else x.stallTimer } := State.dequeued_stream pk rest
    have huf : (u.stream st).frame = some f := (congrArg Stream.frame hus :).trans hf
    have htake : exec (.rasterTaken st) s = .next (u.takeStart st pk) := by
      rw [exec_rasterTaken hrun, State.takeRaster_of (State.canTake_of hstate hidle) hqueue, if_pos hstart]
      rfl
    obtain ⟨hframe, hequeue, hparams, hends⟩ := State.endFrame_ends huf
    have helse : (u.endFrame st).elsewhere st = s.elsewhere st :=
      (State.endFrame_elsewhere huf).trans (State.modStream_elsewhere ..)
    have hes : ended.stream st = { (u.endFrame st).stream st with queue := pk :: rest } := State.stream_modStream ..
    have hestate : (ended.stream st).state = ((u.endFrame st).stream st).state := by rw [hes]
    have hrest : ((u.endFrame st).stream st).queue = rest := hequeue.trans (congrArg Stream.queue hus :)
    rw [htake, State.takeStart_ended hframe, hestate]
    by_cases hheld : ((u.endFrame st).stream st).state = .held
    · rw [if_pos hheld, State.takeStart_held hframe hheld, hrest]
    · obtain ⟨hkept, htimer, hsilent⟩ := hends.resolve_left hheld
      rw [if_neg hheld]
      have hmode : ((u.endFrame st).stream st).params = x.params := hparams.trans (congrArg Stream.params hus :)
      have hcan : ended.canTake st = true := by
        refine State.canTake_of ?_ fun hm => ?_
        · rw [hestate, hkept, hus]
          exact hstate
        · rw [hes] at hm ⊢
          have hm' : x.params.mode = .streaming := (congrArg StreamParams.mode hmode).symm.trans hm
          obtain ⟨hpresenting, hlink⟩ := State.endFrame_streaming huf (by rw [hus]; exact hm')
          obtain ⟨hp, hq⟩ := hidle hm'
          refine ⟨hpresenting.trans ((congrArg Stream.presenting hus :).trans hp), ?_⟩
          have hport (q : Port) : ended.port q = s.port q := congrArg (fun l : LinkUnit => l.ports[q.val]) hlink
          rw [hport]
          refine Eq.trans ?_ hq
          rw [hmode]
      have hsupply : ended.supply = s.supply := congrArg Elsewhere.supply helse
      have hrunning : ended.running = true := by
        rw [State.running, hsupply]
        exact hrun
      have hdequeued : ended.dequeued st pk rest = u.endFrame st := by
        have hfields : ((u.endFrame st).stream st).stallSilent = false ∧ ((u.endFrame st).stream st).stallTimer =
            if pk.waitedRelease then some (s.supply.timeBase + BitVec.ofNat 64 (x.params.stallMs * 1000)) else x.stallTimer :=
          ⟨hsilent.trans (congrArg Stream.stallSilent hus :), htimer.trans (congrArg Stream.stallTimer hus :)⟩
        have htimer' : (ended.stream st).stallTimer = ((u.endFrame st).stream st).stallTimer := by rw [hes]
        have hparams' : (ended.stream st).params = x.params := by rw [hes, hmode]
        rw [State.dequeued, htimer', hparams', hsupply, State.modStream_modStream]
        refine State.modStream_self (Stream.eq_requeued hrest hfields.1 ?_)
        rw [hfields.2]
        cases pk.waitedRelease <;> rfl
      rw [exec_rasterTaken hrunning, State.takeRaster_of hcan (by rw [hes]), if_pos hstart, hdequeued]

end Sys2Proof.Machine
end

section
/-!
The bindings of looks to clips, and the regrade of a held frame that a look change alters (R108 to R112, R167).
-/

namespace Sys2Proof.Machine

/-! ### The arguments (R108, R111) -/

theorem mappingOf_of_range {a : Byte} (h : a.toNat ≤ 15 ∨ a = 255) :
    mappingOf a.toNat = some (if h : a.toNat < 16 then some ⟨a.toNat, h⟩ else none) := by
  unfold mappingOf
  by_cases ha : a.toNat < 16
  · rw [dif_pos ha, if_neg (by omega), slotOf_of_lt ha]
    rfl
  · have h255 : a = 255 := h.resolve_left fun hle => ha (Nat.lt_succ_of_le hle)
    rw [dif_neg ha, h255]
    rfl

theorem mappingOf_of_not_range {a : Byte} (h : ¬ (a.toNat ≤ 15 ∨ a = 255)) : mappingOf a.toNat = none := by
  rw [not_or] at h
  obtain ⟨hslot, hnone⟩ := h
  have hne : a.toNat ≠ 255 := fun he => hnone (BitVec.eq_of_toNat_eq he)
  rw [mappingOf, if_neg hne, slotOf_of_not_lt fun hlt => hslot (Nat.le_of_lt_succ hlt)]
  rfl

theorem lookOfCode_of_range {c : Byte} (h : c.toNat ≤ 63 ∨ c = 255) :
    lookOfCode c.toNat = some (if c = 255 then none else some c.toNat) := by
  unfold lookOfCode
  by_cases hc : c.toNat ≤ 63
  · have hne : c ≠ 255 := by
      rintro rfl
      exact absurd hc (by decide)
    rw [if_pos hc, if_neg hne]
  · have h255 : c = 255 := h.resolve_left hc
    rw [h255]
    rfl

theorem lookOfCode_of_not_range {c : Byte} (h : ¬ (c.toNat ≤ 63 ∨ c = 255)) : lookOfCode c.toNat = none := by
  rw [not_or] at h
  obtain ⟨hlook, hnone⟩ := h
  have hne : c.toNat ≠ 255 := fun he => hnone (BitVec.eq_of_toNat_eq he)
  rw [lookOfCode, if_neg hlook, if_neg hne]

theorem parseWordByte_eq_none {args : List Byte} (h : ∀ a b c, args ≠ [a, b, c]) : parseWordByte args = none := by
  unfold parseWordByte
  split
  · exact absurd rfl (h _ _ _)
  · rfl

/-! ### A look change, judged for one stream (R112) -/

/-- Whether a look change alters how a HELD stream's current clip is graded. -/
def State.Alters (s : State) (x : LookChange) (st : StreamId) : Prop :=
  (s.stream st).state = .held ∧ ∃ k, (s.stream st).currentClip = some k ∧
    (s.chain k).resolution ≠ (s.stream st).graded ∧
    (x = .clip k ∨ (∃ n, x = .look n ∧ s.lookOf k = some n) ∨
      ∃ a, x = .slot a ∧
        ((∃ name, (s.stream st).graded = .bank a name) ∨ ∃ n, s.lookOf k = some n ∧ s.directoryAt n = some a))

section
variable {s : State} {st : StreamId}

theorem State.changeApplies_iff {k : Nat} (hk : (s.stream st).currentClip = some k) (x : LookChange) :
    s.changeApplies st x = true ↔
      x = .clip k ∨ (∃ n, x = .look n ∧ s.lookOf k = some n) ∨
        ∃ a, x = .slot a ∧
          ((∃ name, (s.stream st).graded = .bank a name) ∨ ∃ n, s.lookOf k = some n ∧ s.directoryAt n = some a) := by
  simp only [State.changeApplies, hk]
  cases x with
  | clip n =>
    refine beq_iff_eq.trans (eq_comm.trans ?_)
    simp
  | look n => simp
  | slot a =>
    rw [Bool.or_eq_true]
    have hbank : ((match (s.stream st).graded with
        | .bank k' _ => k' == a
        | .bypass => false) = true) ↔ ∃ name, (s.stream st).graded = .bank a name := by
      cases (s.stream st).graded with
      | bypass => simp
      | bank k' name => simp
    have hmap : ((match s.lookOf k with
        | none => false
        | some n => s.directoryAt n == some a) = true) ↔ ∃ n, s.lookOf k = some n ∧ s.directoryAt n = some a := by
      cases s.lookOf k with
      | none => simp
      | some n => simp
    refine (or_congr hbank hmap).trans ?_
    simp

theorem State.resolutionDiffers_iff {k : Nat} (hk : (s.stream st).currentClip = some k) :
    s.resolutionDiffers st = true ↔ (s.chain k).resolution ≠ (s.stream st).graded := by
  simp only [State.resolutionDiffers, hk, bne_iff_ne]

theorem State.alters_iff (x : LookChange) : s.Alters x st ↔
    ((s.stream st).state = .held && s.changeApplies st x && s.resolutionDiffers st) = true := by
  rw [Bool.and_eq_true, Bool.and_eq_true, decide_eq_true_iff]
  cases hk : (s.stream st).currentClip with
  | none =>
    have hno : s.resolutionDiffers st = false := by simp only [State.resolutionDiffers, hk]
    simp [State.Alters, hk, hno]
  | some k =>
    rw [State.changeApplies_iff hk, State.resolutionDiffers_iff hk, State.Alters, hk, and_assoc]
    refine and_congr_right fun _ => ⟨?_, fun ⟨happly, hdiffer⟩ => ⟨k, rfl, hdiffer, happly⟩⟩
    rintro ⟨k', hk', hdiffer, happly⟩
    cases hk'
    exact ⟨happly, hdiffer⟩

theorem State.judgeChange_of_not_alters {x : LookChange} (h : ¬ s.Alters x st) : s.judgeChange x st = s := by
  rw [State.alters_iff] at h
  rw [State.judgeChange, if_neg h]

theorem State.judgeChange_of_alters {x : LookChange} (h : s.Alters x st) : s.judgeChange x st =
    if (s.stream st).regrading then s.modStream st fun y => { y with regradeAgain := true } else s.startRegrade st := by
  rw [State.alters_iff] at h
  rw [State.judgeChange, if_pos h]

theorem State.lookChanged_eq (x : LookChange) : s.lookChanged x = (s.judgeChange x 0).judgeChange x 1 := rfl

/-! ### The regrade of a held frame (R167) -/

theorem lookup_map_snd {α : Type} (f : Nat → α → α) (n : Nat) (l : List (Nat × α)) :
    (l.map fun x => (x.1, f x.1 x.2)).lookup n = (l.lookup n).map (f n) := by
  induction l with
  | nil => rfl
  | cons x xs ih =>
    rw [List.map_cons, List.lookup_cons, List.lookup_cons, ih]
    by_cases hx : n = x.1
    · subst hx
      simp
    · rw [beq_false_of_ne hx]

variable {k : Nat} {h : HeldFrame}

theorem State.resolutionFault_stream {n : Word32} {x : Filing} (hx : s.resolutionFault st k n = some x) :
    x.stream = some st := by
  rw [State.resolutionFault] at hx
  split at hx
  · exact nomatch hx
  · exact (Chain.missing_fields st k n hx).1

/-- A filing changes no hold point of a HELD stream (R165). -/
theorem State.file_holds_of_held {x : Filing} (hx : x.stream = some st) (hs : (s.stream st).state = .held) :
    (s.file x).spotter.holds = s.spotter.holds := by
  refine Vector.ext fun i hi => ?_
  have htakes : (s.stream st).state.takes = false := by rw [hs]; rfl
  refine (s.file_holds x hx ⟨i, hi⟩).trans ?_
  rw [htakes]
  simp

/-- The look resolved for the held frame's clip: no hold point of a HELD stream is met (R165, R167). -/
theorem State.resolve_held (hs : (s.stream st).state = .held) (n : Word32) : ∃ fr,
    (s.resolve st k n).stream st =
      { s.stream st with
        graded := (s.chain k).resolution
        latch := (s.chain k).latch
        concealment := s.concealmentFor k
        lookMissing := (s.stream st).lookMissing || (s.resolutionFault st k n).isSome
        frame := fr } := by
  rw [State.resolve_eq]
  generalize hu : s.modStream st _ = u
  have hus := (congrArg (State.stream · st) hu).symm.trans (State.stream_modStream ..)
  cases hfault : s.resolutionFault st k n with
  | none =>
    rw [hfault] at hus
    exact ⟨(s.stream st).frame, hus⟩
  | some x =>
    obtain ⟨fr, hfr⟩ := State.file_of_held (s := u) (State.resolutionFault_stream hfault) (by rw [hus]; exact hs)
    rw [hfault] at hus
    exact ⟨fr, by rw [State.fileOpt, hfr, hus]⟩

theorem State.resolve_elsewhere (n : Word32) : (s.resolve st k n).elsewhere st = s.elsewhere st := by
  rw [State.resolve_eq]
  refine (State.fileOpt_elsewhere _ _ fun x hx => State.resolutionFault_stream hx).trans ?_
  exact State.modStream_elsewhere ..

theorem State.resolve_link (n : Word32) : (s.resolve st k n).link = s.link := by
  rw [State.resolve_eq, State.fileOpt_link, State.modStream_link]

theorem State.resolve_adds (n : Word32) : State.Adds 1
    (match s.chain k with
    | .reached _ _ => []
    | .broken cause =>
      if (s.stream st).lookMissing then []
      else [⟨.lookMissing, s.supply.timeBase, some k, some n, none, none, some st,
        BitVec.ofNat 32 (cause + 256 * (s.lookOf k).getD 255), false⟩]) s (s.resolve st k n) := by
  rw [State.resolve_eq]
  have hadds := State.adds_fileOpt (s.modStream st fun x =>
    { x with
      graded := (s.chain k).resolution
      latch := (s.chain k).latch
      concealment := s.concealmentFor k
      lookMissing := x.lookMissing || (s.resolutionFault st k n).isSome }) (s.resolutionFault st k n)
  refine State.Adds.of_eq (s := s) ⟨hadds.now, hadds.length_le, hadds.log⟩ ?_
  rw [State.resolutionFault]
  cases hc : s.chain k with
  | reached a name => split <;> rfl
  | broken cause =>
    dsimp only
    split
    · rfl
    · rw [Chain.missing, lookCode_eq]
      rfl

/-- A resolution meets no hold point of a HELD stream. -/
theorem State.resolve_holds (hs : (s.stream st).state = .held) (n : Word32) :
    (s.resolve st k n).spotter.holds = s.spotter.holds := by
  rw [State.resolve_eq]
  cases hfault : s.resolutionFault st k n with
  | none => rfl
  | some x =>
    exact State.file_holds_of_held (State.resolutionFault_stream hfault) (by rw [State.stream_modStream]; exact hs)

theorem State.resolve_streams (n : Word32) : (s.resolve st k n).spotter.streams = s.spotter.streams := by
  rw [State.resolve_eq]
  cases s.resolutionFault st k n with
  | none => rfl
  | some x => exact State.file_streams ..

/-- The lines of the held frame as a regrade grades them (R167 step 3). -/
def State.regraded (s : State) (st : StreamId) (k : Nat) (n : Nat) (l : List Rgb) : List Rgb :=
  gradeLine (s.bankOf (s.chain k).resolution) (s.stream st).params.encoding (s.concealmentFor k) n l

theorem State.resolve_regradedLines (hs : (s.stream st).state = .held) (n : Word32) :
    (s.resolve st k n).regradedLines st = (s.stream st).source.map fun nl => (nl.1, s.regraded st k nl.1 nl.2) := by
  obtain ⟨fr, hfr⟩ := State.resolve_held (k := k) hs n
  have hlook : (s.resolve st k n).look = s.look := congrArg Elsewhere.look (State.resolve_elsewhere n)
  have hbank (x : Resolution) : (s.resolve st k n).bankOf x = s.bankOf x := by
    cases x with
    | bypass => rfl
    | bank a name => simp only [State.bankOf, State.slot, hlook]
  simp only [State.regradedLines, hfr, hbank]
  rfl

/-- The held frame regraded whole, black where no line was received (R167 step 3). -/
def State.regradedFrame (s : State) (st : StreamId) (k : Nat) (h : HeldFrame) : GradedFrame :=
  ⟨h.clip, h.number, h.damaged, fillFrame (s.stream st).params.encoding (s.stream st).params.width
    (s.stream st).params.height ((s.stream st).source.map fun nl => (nl.1, s.regraded st k nl.1 nl.2))⟩

theorem State.regradedFrame_eq : s.regradedFrame st k h = ⟨h.clip, h.number, h.damaged,
    (List.range (s.stream st).params.height).map fun n => (((s.stream st).source.lookup n).map (s.regraded st k n)).getD
      (blackLine (s.stream st).params.encoding (s.stream st).params.width)⟩ := by
  simp only [State.regradedFrame, fillFrame, lookup_map_snd]

theorem State.startRegrade_paced (hs : (s.stream st).state = .held) (hk : (s.stream st).currentClip = some k)
    (hh : (s.stream st).heldFrame = some h) (hm : (s.stream st).params.mode = .paced) : s.startRegrade st =
      (s.resolve st k h.number).modStream st fun y =>
        { y with
          regrading := true
          backState := .writing
          back := some (s.regradedFrame st k h) } := by
  simp only [State.startRegrade, hk, hh, hm, State.resolve_regradedLines hs, State.modStream_modStream]
  rfl

theorem State.startRegrade_streaming (hs : (s.stream st).state = .held) (hk : (s.stream st).currentClip = some k)
    (hh : (s.stream st).heldFrame = some h) (hm : (s.stream st).params.mode = .streaming) : s.startRegrade st =
      ((s.resolve st k h.number).modStream st fun y => { y with regrading := true }).sendFrame st
        (framePackets st (s.stream st).params h.clip h.number h.damaged
          ((s.stream st).source.map fun nl => (nl.1, s.regraded st k nl.1 nl.2))) := by
  simp only [State.startRegrade, hk, hh, hm, State.resolve_regradedLines hs]

/-- In STREAMING mode a regrade's packets go out while none of the stream waits (R167 step 3; log entry 10). -/
theorem State.startRegrade_queue (hs : (s.stream st).state = .held) (hk : (s.stream st).currentClip = some k)
    (hh : (s.stream st).heldFrame = some h) (hm : (s.stream st).params.mode = .streaming)
    (hup : s.isUp (s.stream st).params.output.port = true)
    (hq : (s.port (s.stream st).params.output.port).queueOf (.raster st) = []) :
    ((s.startRegrade st).port (s.stream st).params.output.port).queueOf (.raster st) ++
        ((s.startRegrade st).stream st).presenting =
      framePackets st (s.stream st).params h.clip h.number h.damaged
        ((s.stream st).source.map fun nl => (nl.1, s.regraded st k nl.1 nl.2)) := by
  obtain ⟨fr, hfr⟩ := State.resolve_held (k := k) hs h.number
  rw [State.startRegrade_streaming hs hk hh hm]
  generalize hu : (s.resolve st k h.number).modStream st _ = u
  have hparams : (u.stream st).params = (s.stream st).params := by rw [← hu, State.stream_modStream, hfr]
  have hlink : u.link = s.link := by rw [← hu, State.modStream_link, State.resolve_link]
  have hwait : u.rasterWaiting st = false := by
    refine State.rasterWaiting_eq_false ?_
    rw [hparams, State.port, hlink]
    exact hq
  have hqueue := State.sendFrame_queue hwait (by rw [hparams, State.isUp, State.port, hlink]; exact hup)
    (framePackets st (s.stream st).params h.clip h.number h.damaged
      ((s.stream st).source.map fun nl => (nl.1, s.regraded st k nl.1 nl.2)))
  rw [hparams] at hqueue
  exact hqueue

/-- What a regrade leaves, in either mode: the resolved state but for the stream's buffer and packets. -/
theorem State.startRegrade_stream (hs : (s.stream st).state = .held) (hk : (s.stream st).currentClip = some k)
    (hh : (s.stream st).heldFrame = some h) :
    (s.startRegrade st).spotter = (s.resolve st k h.number).spotter ∧
      (s.startRegrade st).elsewhere st = s.elsewhere st ∧
      ∃ bs g l fr, (s.startRegrade st).stream st =
        { s.stream st with
          regrading := true
          graded := (s.chain k).resolution
          latch := (s.chain k).latch
          concealment := s.concealmentFor k
          lookMissing := (s.stream st).lookMissing || (s.resolutionFault st k h.number).isSome
          frame := fr
          backState := bs
          back := g
          presenting := l } := by
  obtain ⟨fr, hfr⟩ := State.resolve_held (k := k) hs h.number
  cases hm : (s.stream st).params.mode with
  | paced =>
    rw [State.startRegrade_paced hs hk hh hm]
    refine ⟨rfl, (State.modStream_elsewhere ..).trans (State.resolve_elsewhere _), .writing, some (s.regradedFrame st k h),
      (s.stream st).presenting, fr, ?_⟩
    rw [State.stream_modStream, hfr]
  | streaming =>
    rw [State.startRegrade_streaming hs hk hh hm]
    obtain ⟨l, hl⟩ := State.sendFrame_stream ((s.resolve st k h.number).modStream st fun y => { y with regrading := true }) st
      (framePackets st (s.stream st).params h.clip h.number h.damaged
        ((s.stream st).source.map fun nl => (nl.1, s.regraded st k nl.1 nl.2)))
    refine ⟨State.sendFrame_spotter .., ?_, (s.stream st).backState, (s.stream st).back, l, fr, ?_⟩
    · rw [State.sendFrame_elsewhere, State.modStream_elsewhere, State.resolve_elsewhere]
    · rw [hl, State.stream_modStream, hfr]

end

/-- Settles O41: the look bindings, the look change judged for each stream, and the regrade of a held frame. -/
theorem lookBindings : Obligations.LookBindings := by
  refine ⟨fun s p r htaking => ?_, fun s x => ?_, fun s st k h hs hk hh => ?_⟩
  · intro u
    refine ⟨fun hn => ?_, fun hn => ?_⟩
    · rw [exec_serve_taking (rule := State.directorySet) rfl htaking hn]
      refine congrArg Host.Outcome.next ?_
      split
      case h_1 n a hargs =>
        rw [State.directorySet, hargs, parseTwo, withArgs_some]
        dsimp only
        by_cases ha : a.toNat ≤ 15 ∨ a = 255
        · by_cases hlook : n.toNat ≤ 63
          · rw [if_pos ⟨hlook, ha⟩]
            simp only [mappingOf_of_range ha, if_neg (Nat.not_lt.mpr hlook), State.answer_done, byteOf_directoryCode]
            rfl
          · rw [if_neg fun hb => hlook hb.1]
            simp only [mappingOf_of_range ha, if_pos (Nat.not_le.mp hlook), State.answer_refuse]
            rfl
        · rw [if_neg fun hb => ha hb.2]
          simp only [mappingOf_of_not_range ha, State.answer_refuse]
          rfl
      case h_2 hargs =>
        rw [State.directorySet, parseTwo_eq_none hargs]
        rfl
    · rw [exec_serve_taking (rule := State.clipSetLook) rfl htaking hn]
      refine congrArg Host.Outcome.next ?_
      split
      case h_1 a b c hargs =>
        rw [State.clipSetLook, hargs, parseWordByte, withArgs_some, be2_eq]
        dsimp only
        by_cases hc : c.toNat ≤ 63 ∨ c = 255
        · by_cases hrange : a.toNat * 256 + b.toNat ≤ 511
          · rw [if_pos ⟨hrange, hc⟩]
            simp only [lookOfCode_of_range hc, if_neg (Nat.not_lt.mpr hrange)]
            have hclip : (s.takeRequest p).clip? (a.toNat * 256 + b.toNat) = s.clip? (a.toNat * 256 + b.toNat) := rfl
            cases hx : s.clip? (a.toNat * 256 + b.toNat) with
            | none =>
              rw [hx] at hclip
              simp only [hclip, State.answer_refuse]
              rfl
            | some x =>
              rw [hx] at hclip
              simp only [hclip, State.modClip, State.answer_done, byteOf_lookCode]
              rfl
          · rw [if_neg fun hb => hrange hb.1]
            simp only [lookOfCode_of_range hc, if_pos (Nat.not_le.mp hrange), State.answer_refuse]
            rfl
        · rw [if_neg fun hb => hc hb.2]
          simp only [lookOfCode_of_not_range hc, State.answer_refuse]
          rfl
      case h_2 hargs =>
        rw [State.clipSetLook, parseWordByte_eq_none hargs]
        rfl
  · intro alters judged
    rw [State.lookChanged_eq]
    exact ⟨s.judgeChange x 0, ⟨State.judgeChange_of_not_alters, State.judgeChange_of_alters⟩,
      ⟨State.judgeChange_of_not_alters, State.judgeChange_of_alters⟩⟩
  · intro x t y graded
    obtain ⟨hspotter, helse, bs, g, l, fr, hstream⟩ := State.startRegrade_stream hs hk hh
    have hy : y = _ := hstream
    refine ⟨?_, ?_, ?_, ?_, fun hroom => ?_, ?_, ?_, fun hm => ?_, fun hm hup hq => ?_, ?_, ?_, ?_, ?_, ?_,
      fun z hz => (State.other_of_elsewhere helse hz).1⟩
    · rw [hy]
    · rw [hy]
    · rw [hy]
    · rw [hy]
    · exact (congrArg FaultSpotter.log hspotter).trans ((State.resolve_adds h.number).log hroom)
    · exact (congrArg FaultSpotter.holds hspotter).trans (State.resolve_holds hs _)
    · exact (congrArg FaultSpotter.streams hspotter).trans (State.resolve_streams _)
    · have hpaced : y = _ := (congrArg (State.stream · st) (State.startRegrade_paced hs hk hh hm)).trans
        (State.stream_modStream ..)
      rw [hpaced, State.regradedFrame_eq]
      exact ⟨rfl, rfl⟩
    · exact State.startRegrade_queue hs hk hh hm hup hq
    · rw [hy]
    · rw [hy]
    · rw [hy]
    · rw [hy]
    · rw [hy]

end Sys2Proof.Machine
end
